-- ==== Sys2Proof/Word.lean ====
section
/-! DEFINITION. The byte type of every record and frame, and the plainest saturating arithmetic. -/

namespace Sys2Proof

/-- One byte of a frame, of a site port request or response, or of the store. -/
abbrev Byte := BitVec 8

/-- One more than `n`, held at `top` (a counter that saturates stops at its greatest value). -/
def satInc (top n : Nat) : Nat := if n < top then n + 1 else top

/-- `v` held within `lo..hi`. -/
def clampNat (lo hi v : Nat) : Nat := max lo (min hi v)

/-- `v` held within `lo..hi`. -/
def clampInt (lo hi v : Int) : Int := max lo (min hi v)

end Sys2Proof
end

