-- ==== Sys2Proof/Config.lean ====
section
/-! DEFINITION. What the manual leaves open, as constants without a body: nothing in Lean can evaluate one or
prove a value of it, so that a statement about one holds for every value. -/

namespace Sys2Proof

/-- FREE VALUE. Byte `i` of the retained record in the store after the `n`-th write that the store did not
acknowledge or that a reset cut short (R183, R191): the manual gives no content for it. Log entry 5. -/
opaque Config.spoiledByte : (n i : Nat) → Byte

/-- FREE VALUE. Byte `i` of an `n`-byte field of a response or a frame whose value `v` does not fit the field
(R187, R190): the manual gives no encoding for it. Log entry 6. -/
opaque Config.overWideByte : (n : Nat) → (v : Int) → (i : Nat) → Byte

end Sys2Proof
end

