-- ==== Sys2Proof/Syntax.lean ====
section
/-! DEFINITION. The commands: one constructor of `Instr` per row of spec/opcode_table.json, with its operands. -/

namespace Sys2Proof

/-- The eight analogue channels, CH0 to CH7. -/
inductive Ch where
  | busV | strV | midV | strI | rectI | strT | ambT | fuel
deriving DecidableEq, Repr

/-- One thing for each analogue channel, CH0 to CH7 in order. -/
structure PerChannel (α : Type) where
  busV : α
  strV : α
  midV : α
  strI : α
  rectI : α
  strT : α
  ambT : α
  fuel : α
deriving DecidableEq, Repr

/-- The thirteen contact inputs: the five dedicated ones, then IN1 to IN8. -/
inductive Contact where
  | xferGen | genRunFb | rectAcok | rectFail | ctrFb
  | in1 | in2 | in3 | in4 | in5 | in6 | in7 | in8
deriving DecidableEq, Repr

/-- One thing for each contact input. -/
structure PerContact (α : Type) where
  xferGen : α
  genRunFb : α
  rectAcok : α
  rectFail : α
  ctrFb : α
  in1 : α
  in2 : α
  in3 : α
  in4 : α
  in5 : α
  in6 : α
  in7 : α
  in8 : α
deriving DecidableEq, Repr

/-- Who takes a hand-off inside one step: the eleven blocks, the event log (kept by the alarm unit), and the
change of generator-running knowledge on its way to the generator coordinator. -/
inductive Taker where
  | mch | sdo | sac | csc | pli | ptb | cbu | rot | gco | alu | sup | log | knowledge
deriving DecidableEq, Repr

/-- When a command comes and how its hand-offs are ordered. `elapsed` is the time in µs since the command before
it (or since the reset). `order` is the order in which the takers of one hand-off take it, where the manual says
that they may take it in any order: takers named earlier take first, those not named follow in the model's own
order. A statement about a command holds for every `order`. Log entries 2 and 3. -/
structure Moment where
  elapsed : Nat
  order : List Taker
deriving DecidableEq, Repr

/-- Where a supply check finds the supply (R175: warn_level is the higher of the two levels). -/
inductive SupplyZone where
  | belowReset   -- below reset_level, and so below warn_level
  | belowWarn    -- at or above reset_level and below warn_level
  | good         -- at or above warn_level
deriving DecidableEq, Repr

/-- Why the receiver discards a frame (the table of R80). -/
inductive LineErrorCause where
  | stopBit | truncated | lengthByte | badCheck | kindOrLength | stationZero
deriving DecidableEq, Repr

/-- Why the site port discards a frame (R185). -/
inductive SiteFrameFault where
  | badLength | gap | badCheck
deriving DecidableEq, Repr

/-- The commands. Each constructor is one row of spec/opcode_table.json; its docstring gives the row's
mnemonic and its operands after the moment `w`. A site command carries the argument bytes of its request as
they were received (R186, R190). -/
inductive Instr where
  /-- POWER_ON -/
  | powerOn (w : Moment)
  /-- PIN -/
  | pin (w : Moment)
  /-- SUPPLY_CHECK: what the 1 ms check finds. -/
  | supplyCheck (w : Moment) (zone : SupplyZone)
  /-- BROWN_OUT -/
  | brownOut (w : Moment)
  /-- HELD_END: the four strap pins as STRAPS reads them. -/
  | heldEnd (w : Moment) (straps : BitVec 4)
  /-- LOAD_END: the cells a store programmer wrote since the store was last read, and the codes (R188) of the
  records the store does not return. -/
  | loadEnd (w : Moment) (programmed : List (Nat × Byte)) (silent : List Nat)
  /-- LISTEN_END -/
  | listenEnd (w : Moment)
  /-- CHECK_END -/
  | checkEnd (w : Moment)
  /-- MEASUREMENT_SET: the sum of the period's conversions for each channel. -/
  | measurementSet (w : Moment) (sums : PerChannel Nat)
  /-- AC_EDGE -/
  | acEdge (w : Moment)
  /-- EDGE_TIMEOUT -/
  | edgeTimeout (w : Moment)
  /-- CONTACT_QUALIFIED: the input whose candidate count has reached 5. -/
  | contactQualified (w : Moment) (input : Contact)
  /-- PULSE_END -/
  | pulseEnd (w : Moment)
  /-- CONFIRMATION_WINDOW_EXPIRY -/
  | confirmationWindowExpiry (w : Moment)
  /-- FRAME_BEGIN -/
  | frameBegin (w : Moment)
  /-- FRAME_COMPLETE -/
  | frameComplete (w : Moment)
  /-- CONTENTION_LOSS -/
  | contentionLoss (w : Moment)
  /-- DRIVE_FAULT -/
  | driveFault (w : Moment)
  /-- LINE_STUCK -/
  | lineStuck (w : Moment)
  /-- LINE_STUCK_CLEAR -/
  | lineStuckClear (w : Moment)
  /-- LINE_ERROR: which check the frame failed. -/
  | lineError (w : Moment) (cause : LineErrorCause)
  /-- FAULT_TIME_EXPIRY -/
  | faultTimeExpiry (w : Moment)
  /-- RATE_FAULT_CLEAR -/
  | rateFaultClear (w : Moment)
  /-- STATUS_NOTE: sender, sequence and the 26 payload bytes. -/
  | statusNote (w : Moment) (station seq : BitVec 4) (payload : List Byte)
  /-- GEN_NOTE: sender, sequence, event code and epoch. -/
  | genNote (w : Moment) (station seq : BitVec 4) (event epoch : Byte)
  /-- REST_NOTE: sender, sequence, run hours and station flags. -/
  | restNote (w : Moment) (station seq : BitVec 4) (hours : BitVec 16) (flags : Byte)
  /-- WAKE_NOTE: sender, sequence, run hours and reason code. -/
  | wakeNote (w : Moment) (station seq : BitVec 4) (hours : BitVec 16) (reason : Byte)
  /-- POINT_NOTE: sender, sequence and the pairs of tag and state bytes. -/
  | pointNote (w : Moment) (station seq : BitVec 4) (pairs : List (Byte × Byte))
  /-- HELLO_NOTE: sender, sequence, plant digest and start cause code. -/
  | helloNote (w : Moment) (station seq : BitVec 4) (digest : BitVec 16) (cause : Byte)
  /-- QUIET_NOTE: sender, sequence and reason code. -/
  | quietNote (w : Moment) (station seq : BitVec 4) (reason : Byte)
  /-- DORMANT_LINE_FRAME: the bytes of the frame heard. -/
  | dormantLineFrame (w : Moment) (frame : List Byte)
  /-- STATUS_PERIODIC_TIMER -/
  | statusPeriodicTimer (w : Moment)
  /-- STATUS_SPACING_END -/
  | statusSpacingEnd (w : Moment)
  /-- AGING_CHECK -/
  | agingCheck (w : Moment)
  /-- INTENT_EXPIRY: the peer whose intent expires. -/
  | intentExpiry (w : Moment) (station : BitVec 4)
  /-- ROTATION_TICK -/
  | rotationTick (w : Moment)
  /-- SETTLE_EXPIRY -/
  | settleExpiry (w : Moment)
  /-- RAMP_STEP -/
  | rampStep (w : Moment)
  /-- FAIL_CLEAR_EXPIRY -/
  | failClearExpiry (w : Moment)
  /-- GEN_CHECK -/
  | genCheck (w : Moment)
  /-- START_TIMEOUT -/
  | startTimeout (w : Moment)
  /-- REST_TIMER_EXPIRY -/
  | restTimerExpiry (w : Moment)
  /-- EPOCH_SETTLE -/
  | epochSettle (w : Moment)
  /-- QUALIFY_EXPIRY: the point whose qualify timer expires, by id 1..32. -/
  | qualifyExpiry (w : Moment) (point : Nat)
  /-- POINT_TIMER -/
  | pointTimer (w : Moment)
  /-- LEAN_DWELL -/
  | leanDwell (w : Moment)
  /-- SITE_HOLD_END -/
  | siteHoldEnd (w : Moment)
  /-- DORMANT_DWELL -/
  | dormantDwell (w : Moment)
  /-- ENTRY_WAIT_TIMEOUT -/
  | entryWaitTimeout (w : Moment)
  /-- WAKE_TIMER -/
  | wakeTimer (w : Moment)
  /-- SITE_PORT_WAKE -/
  | sitePortWake (w : Moment)
  /-- PERIODIC_WRITE_TIMER -/
  | periodicWriteTimer (w : Moment)
  /-- RETAINED_WRITE_END: whether the store acknowledged the write. -/
  | retainedWriteEnd (w : Moment) (acknowledged : Bool)
  /-- RESTART_RESET -/
  | restartReset (w : Moment)
  /-- SITE_BAD_FRAME: why the frame is discarded. -/
  | siteBadFrame (w : Moment) (why : SiteFrameFault)
  /-- UNKNOWN: the command code of the request and its argument bytes. -/
  | unknown (w : Moment) (code : Byte) (args : List Byte)
  /-- STATUS_READ -/
  | statusRead (w : Moment) (args : List Byte)
  /-- PEER_READ -/
  | peerRead (w : Moment) (args : List Byte)
  /-- LOG_READ -/
  | logRead (w : Moment) (args : List Byte)
  /-- POINTS_READ -/
  | pointsRead (w : Moment) (args : List Byte)
  /-- ACK -/
  | ack (w : Moment) (args : List Byte)
  /-- RECT_FORCE_RUN: the RECT_FORCE request whose argument is 1. -/
  | rectForceRun (w : Moment) (args : List Byte)
  /-- RECT_FORCE_REST: the RECT_FORCE request whose argument is 2. -/
  | rectForceRest (w : Moment) (args : List Byte)
  /-- RELEASE: the RECT_FORCE request whose argument is 3. -/
  | release (w : Moment) (args : List Byte)
  /-- GEN_TEST -/
  | genTest (w : Moment) (args : List Byte)
  /-- LOCKOUT_CLEAR -/
  | lockoutClear (w : Moment) (args : List Byte)
  /-- EQUALIZE_START: the EQUALIZE request whose argument is 1. -/
  | equalizeStart (w : Moment) (args : List Byte)
  /-- EQUALIZE_STOP: the EQUALIZE request whose argument is 2. -/
  | equalizeStop (w : Moment) (args : List Byte)
  /-- RESYNC_FULL -/
  | resyncFull (w : Moment) (args : List Byte)
  /-- FORGET_PEER -/
  | forgetPeer (w : Moment) (args : List Byte)
  /-- RESTART -/
  | restart (w : Moment) (args : List Byte)
  /-- CONTACT_SAMPLE: the level of each input, true when its contact is closed. -/
  | contactSample (w : Moment) (levels : PerContact Bool)
  /-- LINE_IDLE -/
  | lineIdle (w : Moment)
  /-- COURTESY_SATISFIED -/
  | courtesySatisfied (w : Moment)
  /-- OVERRUN -/
  | overrun (w : Moment)
  /-- SITE_PORT_GAP -/
  | sitePortGap (w : Moment)
deriving DecidableEq, Repr

end Sys2Proof
end

