-- ==== Sys2Proof/Machine/State.lean ====
section
/-! DEFINITION. The state of one KL4810 as plain data, block by block as the manual's chapters give it; the queue
of waiting commands; the two ways a step can stop; and the state after a POWER_ON reset. -/

namespace Sys2Proof.Machine

/-! ## How a step can stop -/

/-- Why a command stops the machine. -/
inductive Fault where
  /-- Raised by MEASUREMENT_SET for a sum that no run of 12-bit conversions of the period in progress can give
  (R1, R3: n conversions of at most 4095). No such sum exists, so stopping is safe. -/
  | impossibleSum
deriving DecidableEq, Repr

/-- Why a command has no meaning in the model. -/
inductive Refusal where
  /-- Raised by `exec` for a command that has no meaning yet, by its mnemonic. Safe. No arm of `exec` raises it. -/
  | notModelled (mnemonic : String)
deriving DecidableEq, Repr

/-! ## Names (R188) -/

/-- The supervisor's phase. `dormant` stands where the manual's table shows no phase ("—"): the station sleeps. -/
inductive Phase where
  | held | straps | load | listen | check | operating | dormant
deriving DecidableEq, Repr

inductive Mode where
  | full | lean | dormant
deriving DecidableEq, Repr

inductive ResetKind where
  | powerOn | brownOut | pin | restart
deriving DecidableEq, Repr

inductive StartCause where
  | powerOn | brownOut | pin | restart | wakeAc | wakeLine | wakeSite | wakeTimer
deriving DecidableEq, Repr

/-- What feeds the rectifiers, as the station judges it. `noSource` is the manual's NONE. -/
inductive SourceView where
  | noSource | mains | gen | acUnknown
deriving DecidableEq, Repr

inductive RectState where
  | noInput | softStart | run | restPending | resting | forcedRun | forcedRest | failed
deriving DecidableEq, Repr

inductive Stage where
  | absent | discharge | bulk | absorb | float | equalize | isolated
deriving DecidableEq, Repr

inductive DemandReason where
  | ownSoc | busLow | plantSoc | exercise | test
deriving DecidableEq, Repr

inductive QuietReason where
  | dormant | restart
deriving DecidableEq, Repr

inductive WakeReason where
  | need | swap
deriving DecidableEq, Repr

/-- The two directions of the contactor (`opening` is the manual's OPEN, `closing` its CLOSE). -/
inductive Direction where
  | opening | closing
deriving DecidableEq, Repr

inductive NoteKind where
  | gen | rest | wake | point | hello | status | quiet
deriving DecidableEq, Repr

/-! ## Settings (held from the end of LOAD to the next start) -/

/-- The enabled wake sources (R177). -/
structure WakeMask where
  acSense : Bool
  line : Bool
  sitePort : Bool
  timer : Bool
deriving DecidableEq, Repr

/-- The supervisor's settings (R177); the delays in min. -/
structure SupSettings where
  wired : Bool
  leanDelay : Nat
  dormantDelay : Nat
  dormantCheck : Nat
  mask : WakeMask
deriving DecidableEq, Repr

/-- The string accountant's settings (R31). -/
structure SacSettings where
  capacityAh : Nat
  eta : Nat
  k1 : Nat
  k2 : Nat
  k3 : Nat
  k4 : Nat
  resyncHold : Nat
deriving DecidableEq, Repr

/-- The charge stage controller's settings (R50), in the order of its table. -/
structure CscSettings where
  cells : Nat
  floatCell : Nat
  absorbCell : Nat
  eqCell : Nat
  vminCell : Nat
  vmaxCell : Nat
  kUV : Nat
  bulkEntrySoc : Nat
  tailDA : Nat
  tailTime : Nat
  absorbMax : Nat
  eqIntervalDays : Nat
  eqTime : Nat
  hotDC : Nat
  imbalanceMV : Nat
  lvdWarnMV : Nat
  lvdMV : Nat
  lvdDwellS : Nat
  reconnectMV : Nat
  reconnectDwellS : Nat
deriving DecidableEq, Repr

/-- The charge budget unit's settings (R108). -/
structure CbuSettings where
  mainsLimit : Nat
  genLimit : Nat
  reserve : Nat
  lostAllowance : Nat
  chgMax : Nat
  chgMin : Nat
  floatHold : Nat
  eqMax : Nat
  slew : Nat
deriving DecidableEq, Repr

/-- The rotation controller's settings (R121). -/
structure RotSettings where
  rectRating : Nat
  targetPct : Nat
  redundancy : Nat
  runHold : Nat
  restHold : Nat
  swapGapH : Nat
deriving DecidableEq, Repr

/-- The generator coordinator's settings (R141). -/
structure GcoSettings where
  startMV : Nat
  startSoc : Nat
  plantStartSoc : Nat
  stopSoc : Nat
  startTimeoutS : Nat
  minRun : Nat
  maxRun : Nat
  runRest : Nat
  acceptMinDA : Nat
  acceptTime : Nat
  exerciseIntervalH : Nat
  exerciseDuration : Nat
deriving DecidableEq, Repr

/-- The class of a point (R162). -/
inductive PointClass where
  | urgent | nonUrgent | info
deriving DecidableEq, Repr

/-- The relays a point is bound to (R162). -/
structure Binding where
  rla : Bool
  rlb : Bool
  out1 : Bool
  out2 : Bool
deriving DecidableEq, Repr

/-- The configuration of one point (R162); the qualify time in s. -/
structure PointConfig where
  cls : PointClass
  binding : Binding
  latch : Bool
  tag : Option Nat
  qualify : Nat
deriving DecidableEq, Repr

/-- What a subscription drives (R170). -/
inductive SubTarget where
  | rla | rlb | out1 | out2 | fuelLowFn | genInhibitFn | logOnly
deriving DecidableEq, Repr

/-- What a subscription takes for a LOST owner (R170). -/
inductive LostDefault where
  | off | on | hold
deriving DecidableEq, Repr

/-- One configured subscription (R170). -/
structure Subscription where
  tag : Nat
  target : SubTarget
  lostDefault : LostDefault
deriving DecidableEq, Repr

/-- The alarm unit's settings (R161, R162, R170): thresholds, the 32 points by id, the subscriptions in order. -/
structure AluSettings where
  busLowMV : Nat
  busHighMV : Nat
  fuelLowPm : Nat
  roomHotDC : Nat
  points : List PointConfig
  subs : List Subscription
deriving DecidableEq, Repr

/-- Every setting of the configuration record (R191). -/
structure Settings where
  sup : SupSettings
  unusedMid : Bool
  unusedFuel : Bool
  busFloatMV : Nat
  sac : SacSettings
  csc : CscSettings
  cbu : CbuSettings
  rot : RotSettings
  gco : GcoSettings
  alu : AluSettings
deriving DecidableEq, Repr

/-- The binding of no relay. -/
def Binding.empty : Binding := { rla := false, rlb := false, out1 := false, out2 := false }
/-- The binding of RLA alone. -/
def Binding.onlyRla : Binding := { Binding.empty with rla := true }
/-- The binding of RLB alone. -/
def Binding.onlyRlb : Binding := { Binding.empty with rlb := true }

/-- An urgent point on RLA with no forward tag (R160's table). -/
def PointConfig.urgentOn (latch : Bool) (qualify : Nat) : PointConfig :=
  { cls := .urgent, binding := .onlyRla, latch := latch, tag := none, qualify := qualify }
/-- A non-urgent point on RLB with no forward tag (R160's table). -/
def PointConfig.nonUrgentOn (latch : Bool) (qualify : Nat) : PointConfig :=
  { cls := .nonUrgent, binding := .onlyRlb, latch := latch, tag := none, qualify := qualify }
/-- An information point bound to no relay (R160's table). -/
def PointConfig.infoOnly (latch : Bool) : PointConfig :=
  { cls := .info, binding := .empty, latch := latch, tag := none, qualify := 0 }

/-- The built-in configuration of the 32 points, by id (the table of R160). -/
def builtInPoints : List PointConfig :=
  [.nonUrgentOn false 5, .urgentOn false 10, .urgentOn false 10, .urgentOn false 0,
   .urgentOn true 0, .nonUrgentOn false 0, .nonUrgentOn true 0, .nonUrgentOn true 5,
   .urgentOn true 0, .infoOnly false, .urgentOn true 0, .urgentOn false 0,
   .nonUrgentOn false 0, .urgentOn false 60, .nonUrgentOn false 0, .urgentOn false 0,
   .nonUrgentOn false 10, .nonUrgentOn false 0, .nonUrgentOn true 0, .nonUrgentOn false 0,
   .infoOnly true, .nonUrgentOn false 60, .infoOnly false, .infoOnly false,
   .nonUrgentOn false 2, .nonUrgentOn false 2, .nonUrgentOn false 2, .nonUrgentOn false 2,
   .nonUrgentOn false 2, .nonUrgentOn false 2, .nonUrgentOn false 2, .nonUrgentOn false 2]

/-- The built-in default of every setting (R31, R50, R108, R121, R141, R161, R162, R177; bus_float_mV in the
Outputs and Drives chapter): what a station in CONFIG_FAULT holds. No channel is marked UNUSED. -/
def Settings.builtIn : Settings where
  sup := { wired := false, leanDelay := 5, dormantDelay := 2, dormantCheck := 10
           mask := { acSense := true, line := true, sitePort := true, timer := true } }
  unusedMid := false
  unusedFuel := false
  busFloatMV := 54000
  sac := { capacityAh := 100, eta := 240, k1 := 600, k2 := 860, k3 := 1024, k4 := 1070, resyncHold := 30 }
  csc := { cells := 24, floatCell := 2250, absorbCell := 2350, eqCell := 2400, vminCell := 2150, vmaxCell := 2450
           kUV := 3000, bulkEntrySoc := 950, tailDA := 20, tailTime := 15, absorbMax := 480, eqIntervalDays := 90
           eqTime := 180, hotDC := 450, imbalanceMV := 600, lvdWarnMV := 45600, lvdMV := 42000, lvdDwellS := 60
           reconnectMV := 52000, reconnectDwellS := 300 }
  cbu := { mainsLimit := 2000, genLimit := 1500, reserve := 100, lostAllowance := 150, chgMax := 400, chgMin := 20
           floatHold := 20, eqMax := 200, slew := 20 }
  rot := { rectRating := 300, targetPct := 80, redundancy := 1, runHold := 10, restHold := 10, swapGapH := 100 }
  gco := { startMV := 46000, startSoc := 400, plantStartSoc := 350, stopSoc := 900, startTimeoutS := 120
           minRun := 60, maxRun := 480, runRest := 60, acceptMinDA := 30, acceptTime := 15
           exerciseIntervalH := 168, exerciseDuration := 20 }
  alu := { busLowMV := 47000, busHighMV := 57600, fuelLowPm := 200, roomHotDC := 450
           points := builtInPoints, subs := [] }

/-! ## Measurement chain (MCH) -/

/-- A calibration: gain in 1/1,048,576 and offset in 1/16 of a code (R4, R21). -/
structure Calibration where
  g : Int
  off16 : Int
deriving DecidableEq, Repr

/-- The status of a channel (the table before R7). -/
inductive ChannelStatus where
  | unknown | valid | held | failed | unused
deriving DecidableEq, Repr

/-- One channel (R4, R7 to R10). -/
structure Channel where
  calibration : Calibration
  status : ChannelStatus
  railCount : Nat
  recoveryCount : Nat
  lastValid : Option Int
deriving DecidableEq, Repr

/-- The status a set carries for a channel: no set carries UNKNOWN (R8). -/
inductive ReadingStatus where
  | valid | held | failed | unused
deriving DecidableEq, Repr

/-- One pair of a measurement set (R12). -/
structure Reading where
  status : ReadingStatus
  value : Option Int
deriving DecidableEq, Repr

/-- A completed measurement set (R12); the period in ms. -/
structure MeasurementSet where
  number : Nat
  period : Nat
  pairs : PerChannel Reading
deriving DecidableEq, Repr

/-- The AC sense capture (R14 to R16); the reference edge and the period in µs. -/
structure AcCapture where
  reference : Option Nat
  count : Nat
  valid : Bool
  lastPeriod : Nat
  frequency : Nat
deriving DecidableEq, Repr

/-- The qualified state of a contact input (R18). -/
inductive Qualified where
  | inactive | active | unqualified
deriving DecidableEq, Repr

/-- One contact input (R18). -/
structure ContactInput where
  state : Qualified
  candidate : Option Bool
  count : Nat
deriving DecidableEq, Repr

structure Mch where
  channels : PerChannel Channel
  lastSet : Option MeasurementSet
  nextNumber : Nat
  period : Option Nat
  ac : AcCapture
  contacts : PerContact ContactInput
  calDefault : Bool
deriving DecidableEq, Repr

/-! ## Setpoint and drive outputs (SDO) -/

/-- The four setpoint outputs, DAC0 to DAC3. -/
inductive Dac where
  | rectVref | rectIlim | strVref | strIlim
deriving DecidableEq, Repr

/-- One setpoint output (R20 to R23). -/
structure Output where
  calibration : Calibration
  target : Nat
  code : Nat
  waiting : Option Nat
deriving DecidableEq, Repr

structure PerDac (α : Type) where
  rectVref : α
  rectIlim : α
  strVref : α
  strIlim : α
deriving DecidableEq, Repr

/-- The six relays. -/
inductive Relay where
  | rla | rlb | genDemand | rectEn | out1 | out2
deriving DecidableEq, Repr

/-- The position driven on each relay: true is energised (R24). -/
structure Relays where
  rla : Bool
  rlb : Bool
  genDemand : Bool
  rectEn : Bool
  out1 : Bool
  out2 : Bool
deriving DecidableEq, Repr

/-- A contactor operation in flight (R26, R27): `driven` while the present attempt's pulse is on its drive. -/
structure ContactorOp where
  direction : Direction
  attempt : Nat
  pulseStart : Nat
  driven : Bool
deriving DecidableEq, Repr

/-- `live` from OPERATING entry to the next reset or DORMANT entry: while it is true, target writes and relay
demands are driven (R20, R24, R25). -/
structure Sdo where
  outputs : PerDac Output
  relays : Relays
  live : Bool
  operation : Option ContactorOp
  waitingCommand : Option Direction
  contactorFault : Bool
  lastFailed : Option Direction
deriving DecidableEq, Repr

/-! ## String accountant (SAC) -/

/-- `lastI` is the readable STR_I of the most recent set SAC has taken (R44). -/
structure Sac where
  q : Nat
  r : Nat
  synced : Bool
  frozen : Bool
  kT : Nat
  cEff : Nat
  soc : Nat
  d : Nat
  lineDeficit : Nat
  resyncDwell : Nat
  lastI : Option Int
deriving DecidableEq, Repr

/-! ## Charge stage controller (CSC) -/

structure Csc where
  stage : Stage
  hot : Bool
  stageTimer : Nat
  tailDwell : Nat
  eqDue : Bool
  eqDays : Nat
  dayClock : Nat
  imbalance : Bool
  imbalanceDwell : Nat
  lvdWarn : Bool
  warnDwell : Nat
  lvdDwell : Nat
  reconnectDwell : Nat
  record : Option Direction
  target : Nat
deriving DecidableEq, Repr

/-! ## Plant line interface (PLI) -/

inductive TxState where
  | off | empty | wait | send
deriving DecidableEq, Repr

inductive RxState where
  | hunt | ready | frame
deriving DecidableEq, Repr

/-- One slot of the transmit queue (R84): `replaced` when its content was replaced while its frame was on the
line (R85). -/
structure Slot where
  kind : NoteKind
  payload : List Byte
  replaced : Bool
deriving DecidableEq, Repr

/-- `granted` from a grant of transmission to its withdrawal (R86); `sending` holds the bytes of the frame on
the line; `belowSince` the time from which the window count has stood at 20 or below during a rate fault (R82);
`statusDue` and `spacingEnd` the times of R88 and R89. Times in ms of uptime. -/
structure Pli where
  tx : TxState
  granted : Bool
  queue : List Slot
  lossRun : Nat
  courtesyPending : Bool
  sequence : Nat
  rx : RxState
  stuck : Bool
  window : List Nat
  rateFault : Bool
  belowSince : Option Nat
  dup : Bool
  statusDue : Option Nat
  spacingEnd : Option Nat
  deferred : Bool
  errors : Nat
  losses : Nat
  driveFaults : Nat
  congestion : Nat
  sending : Option (List Byte)
deriving DecidableEq, Repr

/-! ## Peer table (PTB) -/

inductive RecordState where
  | fresh | aged | lost | quiet
deriving DecidableEq, Repr

/-- The lockout state a STATUS carries (R159). -/
inductive LockCode where
  | clear | set | unsettled
deriving DecidableEq, Repr

/-- The content of a STATUS note (R90, R189). The start cause and the demand reason are held as their codes. -/
structure StatusContent where
  mode : Mode
  causeCode : Nat
  flags : Byte
  view : SourceView
  rect : RectState
  stage : Stage
  lock : LockCode
  epoch : Nat
  reasonCode : Nat
  rectI : Nat
  strI : Int
  busV : Nat
  soc : Nat
  deficit : Nat
  capacityAh : Nat
  runHours : Nat
  digest : Nat
  urgent : Nat
  nonUrgent : Nat
deriving DecidableEq, Repr

/-- A peer's status with its arrival time in ms (R92). -/
structure PeerStatus where
  content : StatusContent
  arrival : Nat
deriving DecidableEq, Repr

inductive IntentKind where
  | rest | wake
deriving DecidableEq, Repr

/-- A peer's intent (R96): `detail` is the reason byte of a WAKE or the flags byte of a REST. -/
structure Intent where
  kind : IntentKind
  runHours : Nat
  arrival : Nat
  detail : Byte
deriving DecidableEq, Repr

/-- One peer record (R92). -/
structure PeerRecord where
  station : Nat
  state : RecordState
  lastSequence : Nat
  heard : Nat
  gaps : Nat
  lastHeard : Nat
  intervalS : Nat
  status : Option PeerStatus
  intent : Option Intent
  points : List (Nat × Bool)
  digestMatch : Option Bool
  startCause : Option StartCause
  quietReason : Option QuietReason
deriving DecidableEq, Repr

/-- PEER_LOST and the mismatch condition are read from the records (R98, R100: see Flags.lean). -/
structure Ptb where
  peers : List PeerRecord
  view : SourceView
  genRunning : Bool
  acFail : Bool
deriving DecidableEq, Repr

/-! ## Charge budget unit (CBU) -/

inductive ShareCase where
  | start | fixed | zero | hold | eq | prop | pmin | pmax
deriving DecidableEq, Repr

/-- What one computation of R111 to R114 found, and what it read (R120). -/
structure BudgetCalc where
  ilim : Nat
  load : Nat
  deficitSum : Nat
  ownDeficit : Nat
  lost : Nat
  budget : Nat
  share : Nat
  shareCase : ShareCase
deriving DecidableEq, Repr

/-- Ilim, B, S and the share case as last computed, all absent (START) where `computed` is absent; `fixed` while
CONFIG_FAULT fixes the applied limit, when the share case reported is FIXED (R118). -/
structure Cbu where
  computed : Option BudgetCalc
  fixed : Bool
  applied : Nat
  lastSet : Option Nat
deriving DecidableEq, Repr

/-! ## Rotation controller (ROT) -/

/-- The station's own announcement (R137): the reason stands for a WAKE only. -/
structure OwnIntent where
  kind : IntentKind
  reason : Option WakeReason
  runHours : Nat
  queuedAt : Nat
  sent : Bool
deriving DecidableEq, Repr

/-- Times in ms of uptime: `settleAt` is when the settle expires, `failSince` when the fail-clear timer began to run
(absent: stopped). -/
structure Rot where
  state : RectState
  entryAt : Nat
  runMinutes : Nat
  runSeconds : Nat
  ramp : Option Nat
  settleAt : Option Nat
  failSince : Option Nat
  swapClock : Nat
  intent : Option OwnIntent
  lastNreq : Nat
  lastT : Nat
  lastNr : Nat
  lastNw : Nat
deriving DecidableEq, Repr

/-! ## Generator coordinator (GCO) -/

inductive GenState where
  | idle | demandWait | demandRun | runRest | locked
deriving DecidableEq, Repr

/-- The demand record (R143); times in ms of uptime. -/
structure Demand where
  reason : DemandReason
  raisedAt : Nat
  confirmedAt : Option Nat
  testEnd : Option Nat
deriving DecidableEq, Repr

/-- Dwells in s; `startAt`, `restAt` and `settleAt` are the times at which the start timer, the rest timer and
the 10 s of R156 expire; `fuelLow` and `inhibit` are the inputs as GCO holds them (R159). -/
structure Gco where
  state : GenState
  demand : Option Demand
  lockSet : Bool
  epoch : Nat
  unsettled : Bool
  busDwell : Nat
  ownDwell : Nat
  plantDwell : Nat
  acceptDwell : Nat
  startAt : Option Nat
  restAt : Option Nat
  exMinutes : Nat
  exSeconds : Nat
  runLength : Option Nat
  startFail : Bool
  fuelLow : Bool
  inhibit : Bool
  settleAt : Option Nat
deriving DecidableEq, Repr

/-! ## Alarm unit (ALU) -/

inductive PointState where
  | inactive | qualifying | active | clearing | latched
deriving DecidableEq, Repr

/-- One point (R163): `timerEnd` is when its qualify timer expires, in ms of uptime. -/
structure Point where
  condition : Bool
  state : PointState
  acked : Bool
  timerEnd : Option Nat
deriving DecidableEq, Repr

/-- The kinds of log entry (R172). -/
inductive LogKind where
  | point | stage | rect | demRaise | demConfirm | demRelease | demFail | lockAdopt | peer | contactor
  | start | store | mode | siteCmd | tag
deriving DecidableEq, Repr

/-- One entry of the event log (R172); the time in s of the log clock. -/
structure LogEntry where
  time : Nat
  kind : LogKind
  origin : Nat
  value : Nat
deriving DecidableEq, Repr

/-- The alarm unit's demands on its four relays: true is energised (R167). -/
structure AluDemands where
  rla : Bool
  rlb : Bool
  out1 : Bool
  out2 : Bool
deriving DecidableEq, Repr

/-- `running` from LISTEN entry to the next reset or DORMANT entry: while it is true ALU takes condition changes
and peer events (R160, R174). The log clock stands at `clockS` s and `clockFrac` µs. The owned tags are read from
the settings (R168). -/
structure Alu where
  running : Bool
  points : List Point
  busLow : Bool
  busHigh : Bool
  fuelAnalog : Bool
  roomHot : Bool
  subValues : List Bool
  fuelFn : Bool
  effFuel : Bool
  effInhibit : Bool
  demands : AluDemands
  pointTimerAt : Option Nat
  log : List LogEntry
  overflow : Nat
  clockS : Nat
  clockFrac : Nat
deriving DecidableEq, Repr

/-! ## Supervisor (SUP) -/

/-- The values of the retained record (R191). -/
structure Retained where
  q : Nat
  r : Nat
  synced : Bool
  runMinutes : Nat
  lockSet : Bool
  epoch : Nat
  eqDays : Nat
  exMinutes : Nat
deriving DecidableEq, Repr

/-- The response codes of the site port (R185). -/
inductive ResponseCode where
  | ok | refused | badArg | unknown
deriving DecidableEq, Repr

/-- The reasons of a refusal (R190). -/
inductive RefuseReason where
  | notOperating | configFault | notMains | rectNoInput | rectFailed | notForced | locked | fuelLow | inhibit
  | genRest | demandActive | unsettled | notLocked | noRecord | restarting
deriving DecidableEq, Repr

/-- A response on the site port (R185, R190): the command code echoed, the response code, the reason after
REFUSED, and the data after an OK read. -/
structure Response where
  command : Byte
  code : ResponseCode
  reason : Option RefuseReason
  data : List Byte
deriving DecidableEq, Repr

/-- The restart wait (R184): `quietBy` is when a queued QUIET is waited for no longer; absent when no QUIET is
waited for. -/
structure RestartWait where
  quietBy : Option Nat
deriving DecidableEq, Repr

/-- Times in ms of uptime. `leanSince` and `dormantSince` are when the lean dwell and the dormant dwell began to
run (absent: at 0 and not running); `dormantHeld` while a complete dormant dwell is held with no further attempt
(R180); `holdEnd`, `entryWait`, `wakeAt` and `periodicAt` are when the site hold, the entry wait, the wake timer
and the periodic write timer end (absent: stopped); `listenEnd` and `checkEnd` when LISTEN and CHECK end; `found`
when a change of R182 has been found since the wake; `writing` holds the values of the write in flight;
`siteDiscard` while the site port discards bytes until a gap of 20 ms; `response` is the last response sent;
`number` the station number; `digest` the plant digest; `configPart` the supervisor's part of CONFIG. -/
structure Sup where
  phase : Phase
  mode : Mode
  resetKind : ResetKind
  startCause : StartCause
  number : Nat
  configFault : Bool
  digest : Nat
  leanSince : Option Nat
  dormantSince : Option Nat
  dormantHeld : Bool
  holdEnd : Option Nat
  entryWait : Option Nat
  wakeAt : Option Nat
  listenEnd : Nat
  checkEnd : Nat
  found : Bool
  writing : Option Retained
  pendingWrite : Bool
  periodicAt : Option Nat
  lowCount : Nat
  armed : Bool
  rearmCount : Nat
  configPart : Bool
  retainLost : Bool
  siteDiscard : Bool
  badFrames : Nat
  overruns : Nat
  response : Option Response
  restartWait : Option RestartWait
deriving DecidableEq, Repr

/-! ## The whole machine -/

/-- The state of one station. `clock` is the uptime in µs since the last reset; `store` the cells of the shelf's
serial memory, addresses strictly rising, a cell that reads 0xFF never listed; `spoiled` the MODEL's own counter of
retained-record writes that were not acknowledged or were cut short (it picks the free bytes of Config);
`pending` the queue of waiting commands, first in, first out. -/
structure State where
  clock : Nat
  settings : Settings
  mch : Mch
  sdo : Sdo
  sac : Sac
  csc : Csc
  pli : Pli
  ptb : Ptb
  cbu : Cbu
  rot : Rot
  gco : Gco
  alu : Alu
  sup : Sup
  store : List Host.Cell
  spoiled : Nat
  pending : List Sys2Proof.Instr
deriving DecidableEq, Repr

/-! ## Updates, one for each part of the state -/

/-- `s` with its `clock` changed by `f`. -/
def State.onClock (f : Nat → Nat) (s : State) : State := { s with clock := f s.clock }
/-- `s` with its `settings` changed by `f`. -/
def State.onSettings (f : Settings → Settings) (s : State) : State := { s with settings := f s.settings }
/-- `s` with its `mch` changed by `f`. -/
def State.onMch (f : Mch → Mch) (s : State) : State := { s with mch := f s.mch }
/-- `s` with its `sdo` changed by `f`. -/
def State.onSdo (f : Sdo → Sdo) (s : State) : State := { s with sdo := f s.sdo }
/-- `s` with its `sac` changed by `f`. -/
def State.onSac (f : Sac → Sac) (s : State) : State := { s with sac := f s.sac }
/-- `s` with its `csc` changed by `f`. -/
def State.onCsc (f : Csc → Csc) (s : State) : State := { s with csc := f s.csc }
/-- `s` with its `pli` changed by `f`. -/
def State.onPli (f : Pli → Pli) (s : State) : State := { s with pli := f s.pli }
/-- `s` with its `ptb` changed by `f`. -/
def State.onPtb (f : Ptb → Ptb) (s : State) : State := { s with ptb := f s.ptb }
/-- `s` with its `cbu` changed by `f`. -/
def State.onCbu (f : Cbu → Cbu) (s : State) : State := { s with cbu := f s.cbu }
/-- `s` with its `rot` changed by `f`. -/
def State.onRot (f : Rot → Rot) (s : State) : State := { s with rot := f s.rot }
/-- `s` with its `gco` changed by `f`. -/
def State.onGco (f : Gco → Gco) (s : State) : State := { s with gco := f s.gco }
/-- `s` with its `alu` changed by `f`. -/
def State.onAlu (f : Alu → Alu) (s : State) : State := { s with alu := f s.alu }
/-- `s` with its `sup` changed by `f`. -/
def State.onSup (f : Sup → Sup) (s : State) : State := { s with sup := f s.sup }
/-- `s` with its `store` changed by `f`. -/
def State.onStore (f : List Host.Cell → List Host.Cell) (s : State) : State := { s with store := f s.store }
/-- `s` with its `spoiled` changed by `f`. -/
def State.onSpoiled (f : Nat → Nat) (s : State) : State := { s with spoiled := f s.spoiled }
/-- `s` with its `pending` changed by `f`. -/
def State.onPending (f : List Sys2Proof.Instr → List Sys2Proof.Instr) (s : State) : State := { s with pending := f s.pending }

/-! ## The state after a POWER_ON reset

Where the manual gives a value for reset it stands here; the values it does not give are those of log entry 1
(marked so below and in INVENTORY.md). -/

/-- A calibration that corrects nothing: what a record that fails gives (R4, R21). -/
def Calibration.plain : Calibration := { g := 0, off16 := 0 }

/-- A used channel after reset (R8). -/
def Channel.reset : Channel :=
  { calibration := .plain, status := .unknown, railCount := 0, recoveryCount := 0, lastValid := none }

/-- A contact input after reset (R18). -/
def ContactInput.reset : ContactInput := { state := .unqualified, candidate := none, count := 0 }

/-- The AC capture after reset (R14). The last in-window period, which nothing reads while the state is INVALID,
is 0 (DESIGN CHOICE, log entry 1). -/
def AcCapture.reset : AcCapture :=
  { reference := none, count := 0, valid := false, lastPeriod := 0, frequency := 0 }

/-- The same thing for every channel. -/
def everyChannel {α : Type} (x : α) : PerChannel α :=
  { busV := x, strV := x, midV := x, strI := x, rectI := x, strT := x, ambT := x, fuel := x }

/-- The same thing for every contact input. -/
def everyContact {α : Type} (x : α) : PerContact α :=
  { xferGen := x, genRunFb := x, rectAcok := x, rectFail := x, ctrFb := x, in1 := x, in2 := x, in3 := x, in4 := x
    in5 := x, in6 := x, in7 := x, in8 := x }

/-- MCH after any reset, before LOAD ends (R8, R12, R14, R18, and the chapter's table). -/
def Mch.reset : Mch :=
  { channels := everyChannel .reset, lastSet := none, nextNumber := 0, period := none, ac := .reset
    contacts := everyContact .reset, calDefault := false }

/-- A setpoint output at reset: its default target and code, with no correction (R23). -/
def Output.start (target code : Nat) : Output :=
  { calibration := .plain, target := target, code := code, waiting := none }

/-- The start-up positions of the relays (R24): RECT_EN alone is energised. -/
def Relays.start : Relays :=
  { rla := false, rlb := false, genDemand := false, rectEn := true, out1 := false, out2 := false }

/-- SDO after any reset (R23, R24, R29, R30). -/
def Sdo.reset : Sdo :=
  { outputs := { rectVref := .start 54000 3375, rectIlim := .start 300 300
                 strVref := .start 54000 3375, strIlim := .start 20 20 }
    relays := .start, live := false, operation := none, waitingCommand := none, contactorFault := false
    lastFailed := none }

/-- SAC after POWER_ON, before LOAD ends. FROZEN false and the dwell 0 by R36 and R43; the manual gives the other
values only from the end of LOAD (R47), so they stand here as UNSYNC initialisation would set them with the
built-in settings (DESIGN CHOICE, log entry 1). -/
def Sac.reset : Sac :=
  { q := 180000000, r := 0, synced := false, frozen := false, kT := 1024, cEff := 360000000, soc := 500
    d := 180000000, lineDeficit := 500, resyncDwell := 0, lastI := none }

/-- CSC after POWER_ON (R54, R58, R59, R61 to R64, R66, R67). The voltage target, which the manual says nothing of
before the first set, is SDO's default of 54,000 mV (DESIGN CHOICE, log entry 1). -/
def Csc.reset : Csc :=
  { stage := .absent, hot := false, stageTimer := 0, tailDwell := 0, eqDue := false, eqDays := 0, dayClock := 0
    imbalance := false, imbalanceDwell := 0, lvdWarn := false, warnDwell := 0, lvdDwell := 0, reconnectDwell := 0
    record := none, target := 54000 }

/-- PLI after any reset (R70, R73, R78, R82, R83, R86 and the chapter's table). The receiver does not run before
LISTEN; its state then stands at HUNT. -/
def Pli.reset : Pli :=
  { tx := .off, granted := false, queue := [], lossRun := 0, courtesyPending := false, sequence := 0, rx := .hunt
    stuck := false, window := [], rateFault := false, belowSince := none, dup := false, statusDue := none
    spacingEnd := none, deferred := false, errors := 0, losses := 0, driveFaults := 0, congestion := 0
    sending := none }

/-- PTB after any reset (R102). -/
def Ptb.reset : Ptb := { peers := [], view := .noSource, genRunning := false, acFail := false }

/-- CBU after any reset and on DORMANT entry (R117, R119). -/
def Cbu.reset : Cbu := { computed := none, fixed := false, applied := 20, lastSet := none }

/-- ROT after POWER_ON (R138). -/
def Rot.reset : Rot :=
  { state := .noInput, entryAt := 0, runMinutes := 0, runSeconds := 0, ramp := none, settleAt := none
    failSince := none, swapClock := 0, intent := none, lastNreq := 0, lastT := 0, lastNr := 0, lastNw := 0 }

/-- GCO after POWER_ON, before LOAD ends (R158). The manual gives the lockout record, the epoch mark and the
exercise counter only from the end of LOAD; they stand here as for an invalid retained record (DESIGN CHOICE, log
entry 1). -/
def Gco.reset : Gco :=
  { state := .idle, demand := none, lockSet := false, epoch := 0, unsettled := true, busDwell := 0, ownDwell := 0
    plantDwell := 0, acceptDwell := 0, startAt := none, restAt := none, exMinutes := 0, exSeconds := 0
    runLength := none, startFail := false, fuelLow := false, inhibit := false, settleAt := none }

/-- A point with no alarm and a false condition (R160, R174). -/
def Point.reset : Point := { condition := false, state := .inactive, acked := false, timerEnd := none }

/-- ALU after POWER_ON (R160, R174). -/
def Alu.reset : Alu :=
  { running := false, points := List.replicate 32 .reset, busLow := false, busHigh := false, fuelAnalog := false
    roomHot := false, subValues := [], fuelFn := false, effFuel := false, effInhibit := false
    demands := { rla := false, rlb := false, out1 := false, out2 := false }, pointTimerAt := none, log := []
    overflow := 0, clockS := 0, clockFrac := 0 }

/-- SUP after a POWER_ON reset (R175, R179, R183, R185 and the chapter's table). The station number, the digest and
CONFIG_FAULT, which STRAPS and LOAD decide, stand at 0, 0 and false; so do LISTEN's and CHECK's ends and the two
conditions LOAD decides, and no response has been sent (DESIGN CHOICE, log entry 1). -/
def Sup.reset : Sup :=
  { phase := .held, mode := .full, resetKind := .powerOn, startCause := .powerOn, number := 0, configFault := false
    digest := 0, leanSince := none, dormantSince := none, dormantHeld := false, holdEnd := none, entryWait := none
    wakeAt := none, listenEnd := 0, checkEnd := 0, found := false, writing := none, pendingWrite := false
    periodicAt := none, lowCount := 0, armed := true, rearmCount := 0, configPart := false, retainLost := false
    siteDiscard := false, badFrames := 0, overruns := 0, response := none, restartWait := none }

/-- The machine right after a POWER_ON reset: in HELD, with a store in which nothing has ever been written (every
cell reads 0xFF, log entry 4), the built-in settings until LOAD gives others (DESIGN CHOICE, log entry 1), and no
command waiting. -/
def State.reset : State :=
  { clock := 0, settings := .builtIn, mch := .reset, sdo := .reset, sac := .reset, csc := .reset, pli := .reset
    ptb := .reset, cbu := .reset, rot := .reset, gco := .reset, alu := .reset, sup := .reset, store := []
    spoiled := 0, pending := [] }

end Sys2Proof.Machine
end

