-- ==== Sys2Proof/Machine/Codec.lean ====
section
/-! DEFINITION. The encodings of R187 to R191: byte order, the 16-bit check, the codes of enumerated values, the
frames of the plant line and of the site port, and the records of the store. -/

namespace Sys2Proof.Machine

/-! ## Bytes (R187) -/

/-- The `n` low bytes of `v`, least significant first. -/
def leBytes : Nat → Nat → List Byte
  | 0, _ => []
  | n + 1, v => BitVec.ofNat 8 v :: leBytes n (v / 256)

/-- `n` free bytes for a value that does not fit `n` bytes (log entry 6). -/
def overWide (n : Nat) (v : Int) : List Byte := (List.range n).map (Config.overWideByte n v)

/-- An unsigned field of `n` bytes (R187). -/
def fieldU (n v : Nat) : List Byte := if v < 256 ^ n then leBytes n v else overWide n v

/-- A signed field of two bytes, two's complement (R187). -/
def fieldS2 (v : Int) : List Byte :=
  if -32768 ≤ v ∧ v < 32768 then leBytes 2 (v % 65536).toNat else overWide 2 v

/-- A true or false field outside a bit set (R187). -/
def fieldB (b : Bool) : List Byte := [if b then 1 else 0]

/-- An optional field: a presence byte, then the value when present (R187). -/
def fieldOpt {α : Type} (f : α → List Byte) : Option α → List Byte
  | none => [0]
  | some a => 1 :: f a

/-- The number in byte `i` of `b`. -/
def byteAt (b : List Byte) (i : Nat) : Nat := (b.getD i 0).toNat

/-- The little-endian number in bytes `i` and `i + 1`. -/
def u16At (b : List Byte) (i : Nat) : Nat := byteAt b i + 256 * byteAt b (i + 1)

/-- The little-endian number in bytes `i` to `i + 3`. -/
def u32At (b : List Byte) (i : Nat) : Nat := u16At b i + 65536 * u16At b (i + 2)

/-- A 16-bit number read as two's complement. -/
def signed16 (v : Nat) : Int := if v < 32768 then v else (v : Int) - 65536

/-- The little-endian two's complement number in bytes `i` and `i + 1`. -/
def s16At (b : List Byte) (i : Nat) : Int := signed16 (u16At b i)

/-- The number of eight flags, bit 0 first (R187). -/
def flagBits (b0 b1 b2 b3 b4 b5 b6 b7 : Bool) : Nat :=
  b0.toNat + 2 * b1.toNat + 4 * b2.toNat + 8 * b3.toNat + 16 * b4.toNat + 32 * b5.toNat + 64 * b6.toNat + 128 * b7.toNat

/-- The station flags of a received byte: bit 7 has no meaning and is disregarded (R187, R188). -/
def knownFlags (b : Byte) : Byte := b &&& 0x7F

/-! ## The 16-bit check (Conventions; R187) -/

/-- One bit of the check: shift left, and subtract the polynomial 0x1021 when a one leaves. -/
def crcShift (c : Nat) : Nat := if c < 32768 then c * 2 else (c * 2 - 65536) ^^^ 0x1021

/-- One byte of the check. -/
def crcByte (c : Nat) (b : Byte) : Nat :=
  crcShift (crcShift (crcShift (crcShift (crcShift (crcShift (crcShift (crcShift (c ^^^ (b.toNat * 256)))))))))

/-- The check of a byte sequence: polynomial 0x1021, initial value 0xFFFF, no reflection. -/
def crc16 (b : List Byte) : Nat := b.foldl crcByte 0xFFFF

/-- A byte sequence followed by its check, low byte first. -/
def withCheck (b : List Byte) : List Byte := b ++ leBytes 2 (crc16 b)

/-! ## Codes (R188) -/

def Mode.code : Mode → Nat
  | .full => 0 | .lean => 1 | .dormant => 2

def StartCause.code : StartCause → Nat
  | .powerOn => 0 | .brownOut => 1 | .pin => 2 | .restart => 3
  | .wakeAc => 4 | .wakeLine => 5 | .wakeSite => 6 | .wakeTimer => 7

def startCauseOf : Nat → Option StartCause
  | 0 => some .powerOn | 1 => some .brownOut | 2 => some .pin | 3 => some .restart
  | 4 => some .wakeAc | 5 => some .wakeLine | 6 => some .wakeSite | 7 => some .wakeTimer
  | _ => none

def SourceView.code : SourceView → Nat
  | .noSource => 0 | .mains => 1 | .gen => 2 | .acUnknown => 3

def viewOf : Nat → Option SourceView
  | 0 => some .noSource | 1 => some .mains | 2 => some .gen | 3 => some .acUnknown | _ => none

def RectState.code : RectState → Nat
  | .noInput => 0 | .softStart => 1 | .run => 2 | .restPending => 3
  | .resting => 4 | .forcedRun => 5 | .forcedRest => 6 | .failed => 7

def rectStateOf : Nat → Option RectState
  | 0 => some .noInput | 1 => some .softStart | 2 => some .run | 3 => some .restPending
  | 4 => some .resting | 5 => some .forcedRun | 6 => some .forcedRest | 7 => some .failed | _ => none

def Stage.code : Stage → Nat
  | .absent => 0 | .discharge => 1 | .bulk => 2 | .absorb => 3 | .float => 4 | .equalize => 5 | .isolated => 6

def stageOf : Nat → Option Stage
  | 0 => some .absent | 1 => some .discharge | 2 => some .bulk | 3 => some .absorb
  | 4 => some .float | 5 => some .equalize | 6 => some .isolated | _ => none

def LockCode.code : LockCode → Nat
  | .clear => 0 | .set => 1 | .unsettled => 2

def lockCodeOf : Nat → Option LockCode
  | 0 => some .clear | 1 => some .set | 2 => some .unsettled | _ => none

def DemandReason.code : DemandReason → Nat
  | .ownSoc => 1 | .busLow => 2 | .plantSoc => 3 | .exercise => 4 | .test => 5

def WakeReason.code : WakeReason → Nat
  | .need => 1 | .swap => 2

def wakeReasonDefined (c : Nat) : Bool := c == 1 || c == 2

def QuietReason.code : QuietReason → Nat
  | .dormant => 1 | .restart => 2

def quietReasonOf : Nat → Option QuietReason
  | 1 => some .dormant | 2 => some .restart | _ => none

def PointState.code : PointState → Nat
  | .inactive => 0 | .qualifying => 1 | .active => 2 | .clearing => 3 | .latched => 4

def ResetKind.code : ResetKind → Nat
  | .powerOn => 0 | .brownOut => 1 | .pin => 2 | .restart => 3

/-- The table gives no code for a station asleep, which no site read finds (a byte wakes it first or is not
received); OPERATING's stands for it here. -/
def Phase.code : Phase → Nat
  | .held => 0 | .straps => 1 | .load => 2 | .listen => 3 | .check => 4 | .operating => 5 | .dormant => 5

def Qualified.code : Qualified → Nat
  | .inactive => 0 | .active => 1 | .unqualified => 2

def Direction.code : Direction → Nat
  | .opening => 1 | .closing => 2

def TxState.code : TxState → Nat
  | .off => 0 | .empty => 1 | .wait => 2 | .send => 3

def RxState.code : RxState → Nat
  | .hunt => 0 | .ready => 1 | .frame => 2

def RecordState.code : RecordState → Nat
  | .fresh => 1 | .aged => 2 | .lost => 3 | .quiet => 4

def IntentKind.code : IntentKind → Nat
  | .rest => 2 | .wake => 3

def GenState.code : GenState → Nat
  | .idle => 0 | .demandWait => 1 | .demandRun => 2 | .runRest => 3 | .locked => 4

def ShareCase.code : ShareCase → Nat
  | .start => 0 | .fixed => 1 | .zero => 2 | .hold => 3 | .eq => 4 | .prop => 5 | .pmin => 6 | .pmax => 7

/-- The codes of a set's channel status in STATUS_READ (R190). -/
def ReadingStatus.code : ReadingStatus → Nat
  | .valid => 0 | .held => 1 | .failed => 2 | .unused => 3

def PointClass.code : PointClass → Nat
  | .urgent => 0 | .nonUrgent => 1 | .info => 2

/-- A class code outside the three is taken as URGENT (R162). -/
def pointClassOf : Nat → PointClass
  | 1 => .nonUrgent | 2 => .info | _ => .urgent

def Binding.code (b : Binding) : Nat := flagBits b.rla b.rlb b.out1 b.out2 false false false false

def bindingOf (c : Nat) : Binding :=
  { rla := c.testBit 0, rlb := c.testBit 1, out1 := c.testBit 2, out2 := c.testBit 3 }

def subTargetOf : Nat → Option SubTarget
  | 0 => some .rla | 1 => some .rlb | 2 => some .out1 | 3 => some .out2
  | 4 => some .fuelLowFn | 5 => some .genInhibitFn | 6 => some .logOnly | _ => none

def lostDefaultOf : Nat → Option LostDefault
  | 0 => some .off | 1 => some .on | 2 => some .hold | _ => none

/-- The kinds of log entry (the table of R172). -/
def LogKind.code : LogKind → Nat
  | .point => 1 | .stage => 2 | .rect => 3 | .demRaise => 4 | .demConfirm => 5 | .demRelease => 6
  | .demFail => 7 | .lockAdopt => 8 | .peer => 9 | .contactor => 10 | .start => 11 | .store => 12
  | .mode => 13 | .siteCmd => 14 | .tag => 15

/-- The response codes (R185). -/
def ResponseCode.code : ResponseCode → Nat
  | .ok => 0 | .refused => 1 | .badArg => 2 | .unknown => 3

/-- The REFUSED reasons (R190). -/
def RefuseReason.code : RefuseReason → Nat
  | .notOperating => 1 | .configFault => 2 | .notMains => 3 | .rectNoInput => 4 | .rectFailed => 5
  | .notForced => 6 | .locked => 7 | .fuelLow => 8 | .inhibit => 9 | .genRest => 10 | .demandActive => 11
  | .unsettled => 12 | .notLocked => 13 | .noRecord => 14 | .restarting => 15

/-- The kind codes of the notes (R87). -/
def NoteKind.code : NoteKind → Nat
  | .gen => 1 | .rest => 2 | .wake => 3 | .point => 4 | .hello => 5 | .status => 6 | .quiet => 7

def noteKindOf : Nat → Option NoteKind
  | 1 => some .gen | 2 => some .rest | 3 => some .wake | 4 => some .point
  | 5 => some .hello | 6 => some .status | 7 => some .quiet | _ => none

/-- A 16-bit log value made of two parts, the first in the low byte (R190). -/
def twoParts (first second : Nat) : Nat := first % 256 + 256 * (second % 256)

/-! ## Plant-line frames (R76, R79, R189) -/

/-- Byte 0 of a frame: kind bits k2 k1 k0 in bits 0, 1, 2 and station bits s3 to s0 in bits 3 to 6, bit 7 zero. -/
def frameByte0 (kind station : Nat) : Nat :=
  flagBits (kind.testBit 2) (kind.testBit 1) (kind.testBit 0) (station.testBit 3) (station.testBit 2)
    (station.testBit 1) (station.testBit 0) false

/-- The kind code in a byte 0. -/
def byte0Kind (b : Nat) : Nat := 4 * (b.testBit 0).toNat + 2 * (b.testBit 1).toNat + (b.testBit 2).toNat

/-- The station number in a byte 0. -/
def byte0Station (b : Nat) : Nat :=
  8 * (b.testBit 3).toNat + 4 * (b.testBit 4).toNat + 2 * (b.testBit 5).toNat + (b.testBit 6).toNat

/-- The frame of a note (R79): byte 0, sequence, length, payload, check. -/
def buildFrame (kind : NoteKind) (station sequence : Nat) (payload : List Byte) : List Byte :=
  withCheck (BitVec.ofNat 8 (frameByte0 kind.code station) :: BitVec.ofNat 8 sequence ::
    BitVec.ofNat 8 payload.length :: payload)

/-- A frame of `n` bytes lasts 10 × n bit times of 50 µs (R70, R71). -/
def frameMicros (frame : List Byte) : Nat := 500 * frame.length

/-- Whether the kind allows a payload of this length (R189). -/
def lengthAllowed : NoteKind → Nat → Bool
  | .gen, n => n == 2
  | .rest, n => n == 3
  | .wake, n => n == 3
  | .point, n => n % 2 == 0 && n ≤ 32
  | .hello, n => n == 3
  | .status, n => n == 26
  | .quiet, n => n == 1

/-- Whether a received byte sequence passes every check of R80 that can be made on its bytes: the length byte, the
check, the kind code with its length (and bit 7 of byte 0), and the station number. -/
def framePasses (f : List Byte) : Bool :=
  let n := byteAt f 2
  f.length == n + 5 && n ≤ 32 && u16At f (n + 3) == crc16 (f.take (n + 3)) && byteAt f 0 < 128 &&
    byte0Station (byteAt f 0) != 0 &&
    (match noteKindOf (byte0Kind (byteAt f 0)) with
     | some k => lengthAllowed k n
     | none => false)

/-- The 26 bytes of a STATUS (R189). A BUS_V above 65,535 is sent as 65,535. -/
def encodeStatus (c : StatusContent) : List Byte :=
  [BitVec.ofNat 8 (c.mode.code % 16 + 16 * c.causeCode), c.flags, BitVec.ofNat 8 c.view.code,
    BitVec.ofNat 8 c.rect.code, BitVec.ofNat 8 c.stage.code, BitVec.ofNat 8 c.lock.code,
    BitVec.ofNat 8 c.epoch, BitVec.ofNat 8 c.reasonCode] ++
  leBytes 2 c.rectI ++ leBytes 2 (c.strI % 65536).toNat ++ leBytes 2 (min 65535 c.busV) ++ leBytes 2 c.soc ++
  leBytes 2 c.deficit ++ leBytes 2 c.capacityAh ++ leBytes 2 c.runHours ++ leBytes 2 c.digest ++
  [BitVec.ofNat 8 c.urgent, BitVec.ofNat 8 c.nonUrgent]

/-- The content of a STATUS as R94 takes it: absent where the mode, source view, rectifier state, stage or lockout
state carries a code the part does not define; SoC and capacity clamped to their ranges. -/
def decodeStatus (b : List Byte) : Option StatusContent :=
  match (match byteAt b 0 % 16 with | 0 => some Mode.full | 1 => some Mode.lean | _ => none), viewOf (byteAt b 2),
      rectStateOf (byteAt b 3), stageOf (byteAt b 4), lockCodeOf (byteAt b 5) with
  | some mode, some view, some rect, some stage, some lock =>
    some { mode := mode, causeCode := byteAt b 0 / 16, flags := knownFlags (b.getD 1 0), view := view, rect := rect
           stage := stage, lock := lock, epoch := byteAt b 6, reasonCode := byteAt b 7, rectI := u16At b 8
           strI := s16At b 10, busV := u16At b 12, soc := clampNat 0 1000 (u16At b 14), deficit := u16At b 16
           capacityAh := clampNat 20 500 (u16At b 18), runHours := u16At b 20, digest := u16At b 22
           urgent := byteAt b 24, nonUrgent := byteAt b 25 }
  | _, _, _, _, _ => none

/-! ## Site port frames (R190) -/

/-- The command codes of the site port. -/
inductive SiteCommand where
  | statusRead | peerRead | logRead | pointsRead | ack | rectForce | genTest | lockoutClear | equalize
  | resyncFull | forgetPeer | restart
deriving DecidableEq, Repr

def SiteCommand.code : SiteCommand → Nat
  | .statusRead => 0x01 | .peerRead => 0x02 | .logRead => 0x03 | .pointsRead => 0x04 | .ack => 0x10
  | .rectForce => 0x11 | .genTest => 0x12 | .lockoutClear => 0x13 | .equalize => 0x14 | .resyncFull => 0x15
  | .forgetPeer => 0x16 | .restart => 0x17

/-- The length of the command's arguments (R190). -/
def SiteCommand.argLength : SiteCommand → Nat
  | .peerRead => 1 | .rectForce => 1 | .genTest => 2 | .equalize => 1 | .forgetPeer => 1 | _ => 0

/-- The reads, which change nothing but LOG_READ's log and are not logged (R186). -/
def SiteCommand.isRead : SiteCommand → Bool
  | .statusRead => true | .peerRead => true | .logRead => true | .pointsRead => true | _ => false

/-- Whether a command code is defined (R190). -/
def siteCodeDefined (c : Nat) : Bool := (1 ≤ c && c ≤ 4) || (0x10 ≤ c && c ≤ 0x17)

/-- A request frame: length byte, command, arguments, check (R185, R190). -/
def requestFrame (command : Byte) (args : List Byte) : List Byte :=
  withCheck (BitVec.ofNat 8 (args.length + 3) :: command :: args)

/-- A response frame: two-byte length, command, response code, reason or data, check (R190). -/
def responseFrame (r : Response) : List Byte :=
  let body := r.command :: BitVec.ofNat 8 r.code.code ::
    ((r.reason.toList.map fun x => BitVec.ofNat 8 x.code) ++ r.data)
  withCheck (leBytes 2 (body.length + 2) ++ body)

/-- An entry of the event log as LOG_READ returns it (R190). -/
def encodeLogEntry (e : LogEntry) : List Byte :=
  fieldU 4 e.time ++ fieldU 1 e.kind.code ++ fieldU 1 e.origin ++ fieldU 2 e.value

/-! ## The store (R191) -/

/-- What a cell of the store that is not listed reads: the erased value, so that a record never written has length
bytes 0xFFFF and is absent (R191; log entry 4). -/
def erased : Byte := 0xFF

/-- The byte the store holds at an address. -/
def storeRead : List Host.Cell → Nat → Byte
  | [], _ => erased
  | (a, b) :: rest, x => if x = a then b else if x < a then erased else storeRead rest x

/-- One cell of the store written: the list stays in rising order and lists no erased cell. -/
def storeWrite : List Host.Cell → Nat → Byte → List Host.Cell
  | [], x, v => if v = erased then [] else [(x, v)]
  | (a, b) :: rest, x, v =>
    if x = a then (if v = erased then rest else (x, v) :: rest)
    else if x < a then (if v = erased then (a, b) :: rest else (x, v) :: (a, b) :: rest)
    else (a, b) :: storeWrite rest x v

/-- Bytes written from an address on. -/
def storeWriteAll (m : List Host.Cell) : Nat → List Byte → List Host.Cell
  | _, [] => m
  | x, v :: vs => storeWriteAll (storeWrite m x v) (x + 1) vs

/-- Cells written one by one, in order. -/
def storeProgram (m : List Host.Cell) (cells : List (Nat × Byte)) : List Host.Cell :=
  cells.foldl (fun m c => storeWrite m c.1 c.2) m

/-- `n` bytes read from an address on. -/
def storeReadN (m : List Host.Cell) (x : Nat) : Nat → List Byte
  | 0 => []
  | n + 1 => storeRead m x :: storeReadN m (x + 1) n

/-- The canonical form of the store: addresses strictly rising, no erased cell listed. -/
def storeWf : List Host.Cell → Bool
  | [] => true
  | [(_, b)] => b != erased
  | (a, b) :: (a', b') :: rest => a < a' && b != erased && storeWf ((a', b') :: rest)

/-- The errors of a record found at LOAD, and of a write (R188). -/
inductive StoreError where
  | absent | check | write
deriving DecidableEq, Repr

def StoreError.code : StoreError → Nat
  | .absent => 1 | .check => 2 | .write => 3

/-- Where a record stands, by its code (R188, R191): 0 configuration, 1..8 channel calibrations, 9..12 output
calibrations, 13 retained. -/
def recordAddress (record : Nat) : Nat :=
  if record = 0 then 0x0000 else if record ≤ 8 then 0x0200 + 8 * (record - 1)
  else if record ≤ 12 then 0x0240 + 8 * (record - 9) else 0x0300

/-- The content length of a record, by its code (R191). -/
def recordLength (record : Nat) : Nat := if record = 0 then 322 else if record ≤ 12 then 4 else 16

/-- What LOAD finds for one record (R176, R191): its content, or the error. A record in `silent` is one the store
does not return. -/
def readRecord (m : List Host.Cell) (silent : List Nat) (record : Nat) : StoreError ⊕ List Byte :=
  let at0 := recordAddress record
  let n := recordLength record
  let len := storeReadN m at0 2
  if record ∈ silent ∨ u16At len 0 = 0xFFFF then .inl .absent
  else
    let body := storeReadN m at0 (n + 2)
    if u16At len 0 = n ∧ u16At (storeReadN m (at0 + n + 2) 2) 0 = crc16 body then .inr (body.drop 2)
    else .inl .check

/-- A record as the store holds it: length, content, check (R191). -/
def recordBytes (content : List Byte) : List Byte := withCheck (leBytes 2 content.length ++ content)

/-- The content of the retained record (R191). -/
def encodeRetained (v : Retained) : List Byte :=
  leBytes 4 v.q ++ leBytes 1 v.r ++ leBytes 1 v.synced.toNat ++ leBytes 4 v.runMinutes ++
    leBytes 1 v.lockSet.toNat ++ leBytes 1 v.epoch ++ leBytes 2 v.eqDays ++ leBytes 2 v.exMinutes

/-- The values a retained record's content gives (R191). -/
def decodeRetained (b : List Byte) : Retained :=
  { q := u32At b 0, r := byteAt b 4, synced := byteAt b 5 == 1, runMinutes := u32At b 6
    lockSet := byteAt b 10 == 1, epoch := byteAt b 11, eqDays := u16At b 12, exMinutes := u16At b 14 }

/-- The store after the `n`-th retained-record write that was not acknowledged: every byte of the record free (the
manual gives none; log entry 5). -/
def storeAfterFailedWrite (n : Nat) (m : List Host.Cell) : List Host.Cell :=
  storeWriteAll m (recordAddress 13) ((List.range 20).map (Config.spoiledByte n))

/-- The store after the `n`-th retained-record write, when a reset cut it short (R183, R191): every byte of the record free,
except that the record fails its check or is absent. -/
def storeAfterCutWrite (n : Nat) (m : List Host.Cell) : List Host.Cell :=
  let m' := storeAfterFailedWrite n m
  match readRecord m' [] 13 with
  | .inl _ => m'
  | .inr _ => storeWriteAll m' (recordAddress 13) [erased, erased]

end Sys2Proof.Machine
end

