-- ==== Sys2Proof/Machine/Operands.lean ====
section
/-! DEFINITION. How one thing is read or written: a channel, a contact, an output, a relay, a point, a peer record,
and the measured values with the fallbacks of R11. -/

namespace Sys2Proof.Machine

/-- The uptime in ms (Units; R92's times are in it). -/
def State.now (s : State) : Nat := s.clock / 1000

/-! ## Families of like things -/

def chGet {α : Type} (p : PerChannel α) : Ch → α
  | .busV => p.busV | .strV => p.strV | .midV => p.midV | .strI => p.strI
  | .rectI => p.rectI | .strT => p.strT | .ambT => p.ambT | .fuel => p.fuel

/-- A function of the channel and of the thing it has, for every channel. -/
def chMap {α β : Type} (f : Ch → α → β) (p : PerChannel α) : PerChannel β :=
  { busV := f .busV p.busV, strV := f .strV p.strV, midV := f .midV p.midV, strI := f .strI p.strI
    rectI := f .rectI p.rectI, strT := f .strT p.strT, ambT := f .ambT p.ambT, fuel := f .fuel p.fuel }

/-- The things of the eight channels, CH0 first. -/
def chList {α : Type} (p : PerChannel α) : List α :=
  [p.busV, p.strV, p.midV, p.strI, p.rectI, p.strT, p.ambT, p.fuel]

def contactGet {α : Type} (p : PerContact α) : Contact → α
  | .xferGen => p.xferGen | .genRunFb => p.genRunFb | .rectAcok => p.rectAcok | .rectFail => p.rectFail
  | .ctrFb => p.ctrFb | .in1 => p.in1 | .in2 => p.in2 | .in3 => p.in3 | .in4 => p.in4 | .in5 => p.in5
  | .in6 => p.in6 | .in7 => p.in7 | .in8 => p.in8

def contactSet {α : Type} (p : PerContact α) (c : Contact) (x : α) : PerContact α :=
  match c with
  | .xferGen => { p with xferGen := x } | .genRunFb => { p with genRunFb := x }
  | .rectAcok => { p with rectAcok := x } | .rectFail => { p with rectFail := x }
  | .ctrFb => { p with ctrFb := x } | .in1 => { p with in1 := x } | .in2 => { p with in2 := x }
  | .in3 => { p with in3 := x } | .in4 => { p with in4 := x } | .in5 => { p with in5 := x }
  | .in6 => { p with in6 := x } | .in7 => { p with in7 := x } | .in8 => { p with in8 := x }

def contactMap {α β : Type} (f : Contact → α → β) (p : PerContact α) : PerContact β :=
  { xferGen := f .xferGen p.xferGen, genRunFb := f .genRunFb p.genRunFb, rectAcok := f .rectAcok p.rectAcok
    rectFail := f .rectFail p.rectFail, ctrFb := f .ctrFb p.ctrFb, in1 := f .in1 p.in1, in2 := f .in2 p.in2
    in3 := f .in3 p.in3, in4 := f .in4 p.in4, in5 := f .in5 p.in5, in6 := f .in6 p.in6, in7 := f .in7 p.in7
    in8 := f .in8 p.in8 }

def contactList {α : Type} (p : PerContact α) : List α :=
  [p.xferGen, p.genRunFb, p.rectAcok, p.rectFail, p.ctrFb, p.in1, p.in2, p.in3, p.in4, p.in5, p.in6, p.in7, p.in8]

def dacGet {α : Type} (p : PerDac α) : Dac → α
  | .rectVref => p.rectVref | .rectIlim => p.rectIlim | .strVref => p.strVref | .strIlim => p.strIlim

def dacSet {α : Type} (p : PerDac α) (d : Dac) (x : α) : PerDac α :=
  match d with
  | .rectVref => { p with rectVref := x } | .rectIlim => { p with rectIlim := x }
  | .strVref => { p with strVref := x } | .strIlim => { p with strIlim := x }

def dacMap {α β : Type} (f : Dac → α → β) (p : PerDac α) : PerDac β :=
  { rectVref := f .rectVref p.rectVref, rectIlim := f .rectIlim p.rectIlim, strVref := f .strVref p.strVref
    strIlim := f .strIlim p.strIlim }

def relayGet (p : Relays) : Relay → Bool
  | .rla => p.rla | .rlb => p.rlb | .genDemand => p.genDemand | .rectEn => p.rectEn | .out1 => p.out1 | .out2 => p.out2

def relaySet (p : Relays) (r : Relay) (x : Bool) : Relays :=
  match r with
  | .rla => { p with rla := x } | .rlb => { p with rlb := x } | .genDemand => { p with genDemand := x }
  | .rectEn => { p with rectEn := x } | .out1 => { p with out1 := x } | .out2 => { p with out2 := x }

/-- A point by id 1..32; an id outside it names no point. -/
def pointGet (ps : List Point) (id : Nat) : Point := (ps[id - 1]?).getD Point.reset

/-- The configuration of a point by id. -/
def pointConfig (s : State) (id : Nat) : PointConfig := (s.settings.alu.points[id - 1]?).getD (.infoOnly false)

/-- A point by id, changed. -/
def pointSet (ps : List Point) (id : Nat) (p : Point) : List Point := ps.set (id - 1) p

/-! ## The phase and the position of the contactor -/

/-- Between LISTEN entry and the next reset or DORMANT entry: measurement, reception and the ticks run. -/
def State.awake (s : State) : Bool :=
  match s.sup.phase with
  | .listen => true | .check => true | .operating => true | _ => false

def State.operating (s : State) : Bool := s.sup.phase == .operating

def State.asleep (s : State) : Bool := s.sup.phase == .dormant

/-- The qualified state of a contact. -/
def State.contact (s : State) (c : Contact) : Qualified := (contactGet s.mch.contacts c).state

/-- The position CTR_FB shows, as the direction that leads to it; absent while UNQUALIFIED (R19). -/
def State.position (s : State) : Option Direction :=
  match s.contact .ctrFb with
  | .inactive => some .opening
  | .active => some .closing
  | .unqualified => none

/-- Whether the station is gen-sense wired; in CONFIG_FAULT it is not, by its built-in settings (R177). -/
def State.wired (s : State) : Bool := s.settings.sup.wired

/-! ## Measured values (R11) -/

/-- The value consumers take from a pair: none where the channel is UNUSED or unreadable (FAILED, or HELD with no
value). -/
def readable (r : Reading) : Option Int :=
  match r.status with
  | .valid => r.value
  | .held => r.value
  | .failed => none
  | .unused => none

/-- The readable value of a channel in the last measurement set; none when no set exists. -/
def State.channel (s : State) (c : Ch) : Option Int := s.mch.lastSet.bind fun m => readable (chGet m.pairs c)

/-- BUS_V: its own value, or STR_V's while CTR_FB shows the contactor closed and STR_V is readable. -/
def State.busV (s : State) : Option Int :=
  match s.channel .busV with
  | some v => some v
  | none => if s.position = some .closing then s.channel .strV else none

/-- STR_I where it enters a sum: 0 dA when unreadable. -/
def State.strISum (s : State) : Int := (s.channel .strI).getD 0

/-- RECT_I: 0 dA when unreadable. -/
def State.rectISum (s : State) : Nat := ((s.channel .rectI).getD 0).toNat

/-- The string temperature T: STR_T, or AMB_T if VALID in the same set, or 250 dC; 250 dC when no set exists
(R11, R53). -/
def State.stringT (s : State) : Int :=
  match s.mch.lastSet with
  | none => 250
  | some m =>
    match readable m.pairs.strT with
    | some t => t
    | none => if m.pairs.ambT.status = .valid then m.pairs.ambT.value.getD 250 else 250

/-! ## Peer records (R92) -/

def findPeer (ps : List PeerRecord) (n : Nat) : Option PeerRecord := ps.find? fun p => p.station == n

/-- The record put in its place, in order of station number: the record its number already has is replaced. -/
def putPeer (r : PeerRecord) : List PeerRecord → List PeerRecord
  | [] => [r]
  | p :: ps =>
    if r.station < p.station then r :: p :: ps
    else if r.station = p.station then r :: ps
    else p :: putPeer r ps

def dropPeer (ps : List PeerRecord) (n : Nat) : List PeerRecord := ps.filter fun p => p.station != n

/-- Whether a record holds a status that shows gen-sense wired (R105). -/
def PeerRecord.wired (p : PeerRecord) : Bool :=
  match p.status with
  | some st => st.content.flags.getLsbD 0
  | none => false

end Sys2Proof.Machine
end

