-- ==== Sys2Proof/Machine/Arith.lean ====
section
/-! DEFINITION. The arithmetic of the chapters, exact until each named rounding. `/` on Int rounds toward minus
infinity for the positive divisors used here (floor); `Int.tdiv` rounds toward zero (trunc). -/

namespace Sys2Proof.Machine

/-- floor(a / b) rounded up instead: ceil. -/
def ceilDiv (a b : Nat) : Nat := (a + b - 1) / b

/-! ## Channels (R3, R5, R6) -/

/-- The conversions per channel in a period of `p` ms (R1). -/
def conversions (p : Nat) : Nat := if p = 1000 then 4 else 16

/-- The period a mode gives (R1), in ms. DORMANT has none. -/
def periodOf : Mode → Option Nat
  | .full => some 250
  | .lean => some 1000
  | .dormant => none

/-- The average code A of a sum of `n` conversions, by the formula of R3. DESIGN CHOICE (log entry 32): the words of
R3 round halves down, and its formula rounds an exact half up; the formula is taken. -/
def averageCode (n sum : Nat) : Nat := (sum + n / 2) / n

/-- Whether an average code is a RAIL sample (R3). -/
def isRail (a : Nat) : Bool := a == 0 || a == 4095

/-- The corrected code (R5): the offset, then the gain, then back to codes, held within 0..4095. -/
def correctedCode (c : Calibration) (a : Nat) : Int :=
  let c16 : Int := a * 16 + c.off16
  let corr16 := c16 + (c16 * c.g) / 1048576
  clampInt 0 4095 ((corr16 + 8) / 16)

/-- The engineering value of a corrected code (R6). -/
def engineering : Ch → Int → Int
  | .busV, c => c * 20
  | .strV, c => c * 20
  | .midV, c => c * 10
  | .strI, c => (c - 2048) * 2
  | .rectI, c => c
  | .strT, c => (c - 1000) / 2
  | .ambT, c => (c - 1000) / 2
  | .fuel, c => c * 1000 / 4095

/-- The published AC frequency in 0.01 Hz for a period of `p` µs (R16). -/
def acFrequency (p : Nat) : Nat := (100000000 + p / 2) / p

/-- Whether a period is in window (R14). -/
def acInWindow (p : Nat) : Bool := 15385 ≤ p && p ≤ 22222

/-! ## Outputs (R22) -/

/-- The unit of an output's target. -/
def dacUnit : Dac → Nat
  | .rectVref => 16 | .strVref => 16 | .rectIlim => 1 | .strIlim => 1

/-- The code an output drives for a target (R22): the gain on the ideal code, then the offset. -/
def outputCode (d : Dac) (c : Calibration) (target : Nat) : Nat :=
  let c0 : Int := target / dacUnit d
  let c16 := c0 * 16 + (c0 * 16 * c.g) / 1048576 + c.off16
  (clampInt 0 4095 ((c16 + 8) / 16)).toNat

/-! ## The string (R31, R34 to R40) -/

/-- The rated capacity in mA·s (R31). -/
def cRated (a : SacSettings) : Nat := a.capacityAh * 3600000

/-- Straight-line interpolation between two points of the capacity table (R37). -/
def interpolate (ta ka tb kb t : Int) : Int := ka + (kb - ka) * (t - ta) / (tb - ta)

/-- The capacity factor at a temperature in dC (R37). -/
def capacityFactor (a : SacSettings) (t : Int) : Nat :=
  if t ≤ -200 then a.k1
  else if t ≤ 0 then (interpolate (-200) a.k1 0 a.k2 t).toNat
  else if t ≤ 250 then (interpolate 0 a.k2 250 a.k3 t).toNat
  else if t < 400 then (interpolate 250 a.k3 400 a.k4 t).toNat
  else a.k4

/-- The effective capacity (R38). -/
def effectiveCapacity (rated k : Nat) : Nat := min rated (rated * k / 1024)

/-- The state of charge (R39). -/
def stateOfCharge (q cEff : Nat) : Nat := min 1000 (q * 1000 / cEff)

/-- The deficit in mA·s (R40): 0 where Q is at or above C_eff. -/
def deficit (q cEff : Nat) : Nat := cEff - q

/-- The deficit rounded up to whole dAh (R40). -/
def lineDeficit (d : Nat) : Nat := ceilDiv d 360000

/-- Q and R after the count of a set of period `p` ms with string current `i` dA (R32, R34, R35). -/
def countCharge (a : SacSettings) (p : Nat) (i : Int) (q r : Nat) : Nat × Nat :=
  if 0 < i then
    let total := r + i.toNat * (p / 10) * a.eta
    (min (cRated a) (q + total / 256), total % 256)
  else if i < 0 then (min (cRated a) (q - (-i).toNat * (p / 10)), r)
  else (q, r)

/-! ## The voltage target (R53) -/

/-- The compensation in mV at a temperature in dC, before its clamp to −200..500 (R53). -/
def compensation (c : CscSettings) (t : Int) : Int :=
  Int.tdiv ((c.kUV : Int) * c.cells * (clampInt (-200) 500 t - 250)) 10000

/-- The target for a voltage per cell: compensated, and held between the least and the greatest per cell. -/
def targetFor (c : CscSettings) (cell : Nat) (t : Int) : Nat :=
  (clampInt (c.cells * c.vminCell : Nat) (c.cells * c.vmaxCell : Nat)
    ((c.cells * cell : Nat) - compensation c t)).toNat

/-- The voltage per cell a stage uses (R53). -/
def stageCell (c : CscSettings) (stage : Stage) (hot : Bool) : Nat :=
  if hot then c.floatCell
  else
    match stage with
    | .bulk => c.absorbCell
    | .absorb => c.absorbCell
    | .equalize => c.eqCell
    | _ => c.floatCell

/-! ## Budget and share (R111 to R115) -/

/-- The source limit (R111). -/
def sourceLimit (c : CbuSettings) : SourceView → Nat
  | .mains => c.mainsLimit
  | .gen => c.genLimit
  | .acUnknown => c.genLimit
  | .noSource => 0

/-- The budget (R112): the subtraction is signed, the result at least 0. -/
def budgetOf (c : CbuSettings) (ilim load lost : Nat) : Nat :=
  ((ilim : Int) - load - c.reserve - lost * c.lostAllowance).toNat

/-- The share in BULK and ABSORB, with its case (R114). -/
def proportionalShare (c : CbuSettings) (b own sum : Nat) : Nat × ShareCase :=
  if sum = 0 then (min c.floatHold b, .hold)
  else
    let p := b * own / sum
    if p < min c.chgMin b then (min c.chgMin b, .pmin)
    else if c.chgMax < p then (c.chgMax, .pmax)
    else (p, .prop)

/-- The share and its case (R113). -/
def shareOf (c : CbuSettings) (hot : Bool) (stage : Stage) (view : SourceView) (b own sum : Nat) : Nat × ShareCase :=
  if hot then (0, .zero)
  else if view = .noSource then (0, .zero)
  else
    match stage with
    | .absent => (0, .zero)
    | .isolated => (0, .zero)
    | .discharge => (0, .zero)
    | .float => (min c.floatHold b, .hold)
    | .equalize => (min c.eqMax b, .eq)
    | .bulk => proportionalShare c b own sum
    | .absorb => proportionalShare c b own sum

/-- The largest rise of the applied limit at a set of period `p` ms (R115). -/
def slewStep (c : CbuSettings) (p : Nat) : Nat := if p = 1000 then 4 * c.slew else c.slew

/-- The applied limit after a set (R115). -/
def slewToward (share prev step : Nat) : Nat := if share < prev then share else min share (prev + step)

/-! ## Rectifiers (R123, R124, R131) -/

/-- The run hours (R123). -/
def runHours (minutes : Nat) : Nat := min 65535 (minutes / 60)

/-- The current one running rectifier should carry (R124). -/
def usableCurrent (c : RotSettings) : Nat := c.rectRating * c.targetPct / 100

/-- The required count for a total current (R124). -/
def requiredCount (c : RotSettings) (t : Nat) : Nat := max 1 (ceilDiv t (usableCurrent c)) + c.redundancy

/-- The limit of a soft start at a ramp step (R131). -/
def rampTarget (c : RotSettings) (step : Nat) : Nat := c.rectRating * step / 10

/-- Rest rank (R125): more run hours ranks higher, at equal hours the higher number. -/
def outranksForRest (hours station hours' station' : Nat) : Bool :=
  hours' < hours || (hours == hours' && station' < station)

/-- Wake rank (R125): fewer run hours ranks higher, at equal hours the lower number. -/
def outranksForWake (hours station hours' station' : Nat) : Bool :=
  hours < hours' || (hours == hours' && station < station')

end Sys2Proof.Machine
end

