-- ==== Sys2Proof/Machine/Views.lean ====
section
/-! DEFINITION. What a block reads of the others at the moment of the read: the plant view (R103), the effective
rectifier states and the counts of the rotation (R96, R124, R125), the source view and generator-running knowledge
as the inputs and records give them (R104, R105, R107). Nothing here changes the state. -/

namespace Sys2Proof.Machine

/-! ## The plant view (R103) -/

/-- The known peers, with their statuses: FRESH or AGED records that hold one. -/
def State.known (s : State) : List (PeerRecord × StatusContent) :=
  s.ptb.peers.filterMap fun p =>
    match p.state, p.status with
    | .fresh, some st => some (p, st.content)
    | .aged, some st => some (p, st.content)
    | _, _ => none

/-- The rectifier states that carry load (R103, R124). -/
def carriesLoad : RectState → Bool
  | .run => true
  | .restPending => true
  | .forcedRun => true
  | _ => false

/-- SAC's deficit as it is reported: 0 while HOT (R40). -/
def State.reportedDeficit (s : State) : Nat := if s.csc.hot then 0 else s.sac.lineDeficit

/-- The load L of the plant view; a sum below 0 is taken as 0. -/
def State.plantLoad (s : State) : Nat :=
  let own : Int := if carriesLoad s.rot.state then s.rectISum - s.strISum else 0
  let peers := (s.known.map fun p => if carriesLoad p.2.rect then (p.2.rectI : Int) - p.2.strI else 0).sum
  (own + peers).toNat

/-- The deficit sum of the plant view, in dAh. -/
def State.deficitSum (s : State) : Nat := s.reportedDeficit + (s.known.map fun p => p.2.deficit).sum

/-- The plant SoC of the plant view. -/
def State.plantSoc (s : State) : Nat :=
  (s.sac.soc * s.settings.sac.capacityAh + (s.known.map fun p => p.2.soc * p.2.capacityAh).sum) /
    (s.settings.sac.capacityAh + (s.known.map fun p => p.2.capacityAh).sum)

/-- The number of LOST records. -/
def State.lostCount (s : State) : Nat := (s.ptb.peers.filter fun p => p.state == .lost).length

/-- Whether the station is exercise leader: its number the lowest of itself and its known peers, and not 0. -/
def State.exerciseLeader (s : State) : Bool :=
  s.sup.number != 0 && s.known.all fun p => s.sup.number < p.1.station

/-! ## The rotation's counts (R96, R124, R125) -/

/-- A peer's effective rectifier state and run hours: those of its intent when one is held, else of its status. -/
def effective (p : PeerRecord) : Option (RectState × Nat) :=
  match p.intent, p.status with
  | some i, _ => some (match i.kind with | .rest => .restPending | .wake => .softStart, i.runHours)
  | none, some st => some (st.content.rect, st.content.runHours)
  | none, none => none

/-- The known peers with station number, effective state and run hours. -/
def State.effectivePeers (s : State) : List (Nat × RectState × Nat) :=
  s.known.filterMap fun p => (effective p.1).map fun e => (p.1.station, e.1, e.2)

/-- T (R124): the sum of RECT_I over the station and its known peers whose rectifier carries load. -/
def State.runningCurrent (s : State) : Nat :=
  (if carriesLoad s.rot.state then s.rectISum else 0) +
    (s.known.map fun p => if carriesLoad p.2.rect then p.2.rectI else 0).sum

/-- NREQ (R124). -/
def State.nreq (s : State) : Nat := requiredCount s.settings.rot s.runningCurrent

/-- The station's own run hours. -/
def State.ownHours (s : State) : Nat := runHours s.rot.runMinutes

/-- Nr (R125): peers running, and pending peers that the station outranks for rest. -/
def State.runningForRest (s : State) : Nat :=
  (s.effectivePeers.filter fun p =>
    match p.2.1 with
    | .run => true
    | .forcedRun => true
    | .restPending => outranksForRest s.ownHours s.sup.number p.2.2 p.1
    | _ => false).length

/-- Nw (R125): peers running, pending or in a soft start. -/
def State.runningForWake (s : State) : Nat :=
  (s.effectivePeers.filter fun p =>
    match p.2.1 with
    | .run => true
    | .forcedRun => true
    | .restPending => true
    | .softStart => true
    | _ => false).length

/-- Whether the station holds the best wake rank among itself and its known peers in RESTING (R129). -/
def State.bestWakeRank (s : State) : Bool :=
  s.effectivePeers.all fun p =>
    p.2.1 != .resting || outranksForWake s.ownHours s.sup.number p.2.2 p.1

/-- The highest run hours among the known peers in RUN; none when there is no such peer (R130). -/
def State.highestRunning (s : State) : Option Nat :=
  s.effectivePeers.foldl (fun m p =>
    if p.2.1 = .run then some (match m with | some x => max x p.2.2 | none => p.2.2) else m) none

/-! ## The source view and generator-running knowledge (R104, R105, R107) -/

/-- The later of two statuses, by arrival. -/
def laterStatus (m : Option PeerStatus) (st : PeerStatus) : Option PeerStatus :=
  match m with
  | some x => if x.arrival ≤ st.arrival then some st else some x
  | none => some st

/-- The latest status among the FRESH records that show gen-sense wired and satisfy `ok`. -/
def latestWired (ps : List PeerRecord) (ok : StatusContent → Bool) : Option PeerStatus :=
  ps.foldl (fun m p =>
    match p.state, p.status with
    | .fresh, some st => if p.wired && ok st.content then laterStatus m st else m
    | _, _ => m) none

/-- The source view as the station's inputs and records give it. -/
def State.viewNow (s : State) : SourceView :=
  if s.wired then
    if s.mch.ac.valid then
      match s.contact .xferGen with
      | .active => .gen
      | .inactive => .mains
      | .unqualified => .noSource
    else .noSource
  else
    match s.contact .rectAcok with
    | .active =>
      match latestWired s.ptb.peers fun c => c.view == .mains || c.view == .gen with
      | some st => st.content.view
      | none => .acUnknown
    | _ => .noSource

/-- Generator-running knowledge as the station's inputs and records give it. -/
def State.runningNow (s : State) : Bool :=
  if s.wired then s.contact .genRunFb == .active
  else
    match latestWired s.ptb.peers fun _ => true with
    | some st => st.content.flags.getLsbD 1
    | none => false

end Sys2Proof.Machine
end

