-- ==== Sys2Proof/Machine/Flags.lean ====
section
/-! DEFINITION. The flags and conditions the blocks hold for others: which points stand and how many (R163, R166),
the condition of each point as its owner holds it (R160), the station flags (R188), the content of the station's
own STATUS (R90), the owned tags and the values of the subscriptions (R168, R170). -/

namespace Sys2Proof.Machine

/-! ## Points -/

/-- A point stands while it is ACTIVE, CLEARING or LATCHED (R163). -/
def standing : PointState → Bool
  | .active => true
  | .clearing => true
  | .latched => true
  | _ => false

/-- The points with their configurations, by id. -/
def State.configuredPoints (s : State) : List (PointConfig × Point) := s.settings.alu.points.zip s.alu.points

/-- The number of standing points of a class (R166). -/
def State.classCount (s : State) (c : PointClass) : Nat :=
  (s.configuredPoints.filter fun p => p.1.cls == c && standing p.2.state).length

/-- PEER_LOST (R98). -/
def State.peerLost (s : State) : Bool := s.ptb.peers.any fun p => p.state == .lost

/-- The mismatch condition (R100). -/
def State.mismatch (s : State) : Bool := s.ptb.peers.any fun p => p.digestMatch == some false

/-- LINE_FAULT (R82). -/
def State.lineFault (s : State) : Bool := s.pli.rateFault || s.pli.stuck

/-- SENSOR_FAULT (R10): a used channel is FAILED. -/
def State.sensorFault (s : State) : Bool := (chList s.mch.channels).any fun c => c.status == .failed

/-- The condition of a point as its owner holds it (R160). -/
def State.ownerCondition (s : State) : Nat → Bool
  | 1 => s.ptb.acFail
  | 2 => s.alu.busLow
  | 3 => s.alu.busHigh
  | 4 => s.csc.lvdWarn
  | 5 => s.csc.stage == .isolated
  | 6 => s.csc.hot
  | 7 => s.csc.imbalance
  | 8 => s.rot.state == .failed
  | 9 => s.sdo.contactorFault
  | 10 => s.gco.state == .demandRun && s.ptb.genRunning
  | 11 => s.gco.startFail
  | 12 => s.gco.lockSet
  | 13 => s.gco.state == .runRest
  | 14 => s.alu.effFuel
  | 15 => s.peerLost
  | 16 => s.pli.dup
  | 17 => s.lineFault
  | 18 => s.sup.configPart || s.mismatch
  | 19 => s.sensorFault
  | 20 => s.mch.calDefault
  | 21 => s.sup.retainLost
  | 22 => s.alu.roomHot
  | 23 => !s.sac.synced
  | 24 => s.csc.stage == .equalize
  | 25 => s.contact .in1 == .active
  | 26 => s.contact .in2 == .active
  | 27 => s.contact .in3 == .active
  | 28 => s.contact .in4 == .active
  | 29 => s.contact .in5 == .active
  | 30 => s.contact .in6 == .active
  | 31 => s.contact .in7 == .active
  | 32 => s.contact .in8 == .active
  | _ => false

/-! ## The station's own STATUS (R90, R188, R189) -/

/-- Whether a demand stands (R159): the DEMAND flag. -/
def GenState.demanding : GenState → Bool
  | .demandWait => true
  | .demandRun => true
  | _ => false

/-- The station flags byte (R188). -/
def State.stationFlags (s : State) : Byte :=
  BitVec.ofNat 8 (flagBits s.wired s.ptb.genRunning (!s.sac.synced) s.sac.frozen s.csc.hot s.sup.configFault
    s.gco.state.demanding false)

/-- The station flags of a REST: bits 0 and 1 are 0 (R188). -/
def State.restFlags (s : State) : Byte :=
  BitVec.ofNat 8 (flagBits false false (!s.sac.synced) s.sac.frozen s.csc.hot s.sup.configFault
    s.gco.state.demanding false)

/-- The content of a STATUS at this moment. -/
def State.ownStatus (s : State) : StatusContent :=
  { mode := s.sup.mode, causeCode := s.sup.startCause.code, flags := s.stationFlags, view := s.ptb.view
    rect := s.rot.state, stage := s.csc.stage
    lock := if s.gco.unsettled then .unsettled else if s.gco.lockSet then .set else .clear
    epoch := s.gco.epoch
    reasonCode := match s.gco.demand with | some d => d.reason.code | none => 0
    rectI := s.rectISum, strI := s.strISum, busV := (s.busV.getD 0).toNat, soc := s.sac.soc
    deficit := s.reportedDeficit, capacityAh := s.settings.sac.capacityAh, runHours := s.ownHours
    digest := s.sup.digest, urgent := s.classCount .urgent, nonUrgent := s.classCount .nonUrgent }

/-! ## Tags and subscriptions (R168, R170) -/

/-- The points with a forward tag, by id, each tag once, at most 16: the owned tags, from the `i`-th point on, with
`seen` the pairs taken so far. DESIGN CHOICE (log entry 35): a tag repeated by a second point is not counted among
the 16 (R168). -/
def ownedFrom : Nat → List (Nat × Nat) → List PointConfig → List (Nat × Nat)
  | _, seen, [] => seen
  | i, seen, p :: ps =>
    match p.tag with
    | some t =>
      if seen.length < 16 && !(seen.any fun x => x.2 == t) then ownedFrom (i + 1) (seen ++ [(i, t)]) ps
      else ownedFrom (i + 1) seen ps
    | none => ownedFrom (i + 1) seen ps

/-- The owned tags: point id and tag, by point id (R168). -/
def ownedTags (ps : List PointConfig) : List (Nat × Nat) := ownedFrom 1 [] ps

/-- Whether a tag given to a point is not forwarded (R168): a finding. -/
def tagsLeftOut (ps : List PointConfig) : Bool :=
  (ownedTags ps).length != (ps.filter fun p => p.tag.isSome).length

def State.owned (s : State) : List (Nat × Nat) := ownedTags s.settings.alu.points

/-- Whether a point owns a tag. -/
def State.ownsTag (s : State) (id : Nat) : Bool := s.owned.any fun x => x.1 == id

/-- The owned tags with their states (R168): 1 while the point stands. -/
def State.tagStates (s : State) : List (Nat × Bool) :=
  s.owned.map fun x => (x.2, standing (pointGet s.alu.points x.1).state)

/-- The payload of a POINT note at this moment (R169, R189). -/
def State.pointPayload (s : State) : List Byte :=
  s.tagStates.flatMap fun x => [BitVec.ofNat 8 x.1, if x.2 then 1 else 0]

/-- Whether the target is one of the two functions of the generator coordinator. -/
def SubTarget.isFunction : SubTarget → Bool
  | .fuelLowFn => true
  | .genInhibitFn => true
  | _ => false

/-- What one peer contributes to a subscription (R170). -/
def peerContributes (sub : Subscription) (p : PeerRecord) : Bool :=
  match p.state with
  | .lost =>
    p.points.any fun x => x.1 == sub.tag &&
      (match sub.lostDefault with
       | .on => true
       | .hold => x.2
       | .off => false)
  | _ => p.points.any fun x => x.1 == sub.tag && x.2

/-- The value of a subscription (R170). -/
def State.subValue (s : State) (sub : Subscription) : Bool :=
  (s.ptb.peers.any (peerContributes sub)) ||
    (!sub.target.isFunction && s.tagStates.any fun x => x.1 == sub.tag && x.2)

/-- The subscriptions with their held values, in configuration order. -/
def State.subs (s : State) : List (Subscription × Bool) := s.settings.alu.subs.zip s.alu.subValues

/-- The OR of the held values of the subscriptions that name a target (R171). -/
def State.targetValue (s : State) (t : SubTarget) : Bool := s.subs.any fun x => x.1.target == t && x.2

/-! ## Relay demands (R122, R142, R167) -/

/-- Whether a standing point is bound to a relay. -/
def State.boundStands (s : State) (f : Binding → Bool) : Bool :=
  s.configuredPoints.any fun p => f p.1.binding && standing p.2.state

/-- The four demands of the alarm unit (R167). -/
def State.aluDemandsNow (s : State) : AluDemands :=
  let up := s.operating && s.sup.mode != .dormant
  { rla := up && !s.boundStands Binding.rla && !s.targetValue .rla
    rlb := up && !s.boundStands Binding.rlb && !s.targetValue .rlb
    out1 := s.boundStands Binding.out1 || s.targetValue .out1
    out2 := s.boundStands Binding.out2 || s.targetValue .out2 }

/-- The RECT_EN demand of a rectifier state (R122). -/
def RectState.enables : RectState → Bool
  | .resting => false
  | .forcedRest => false
  | .failed => false
  | _ => true

/-- Whether a rectifier state counts run minutes (R122). -/
def RectState.countsRun : RectState → Bool
  | .run => true
  | .restPending => true
  | .forcedRun => true
  | _ => false

/-- The gates of a demand (R144). -/
def State.gatesHold (s : State) : Bool :=
  s.operating && s.sup.mode != .dormant && !s.sup.configFault && !s.gco.lockSet && !s.gco.unsettled &&
    !s.gco.fuelLow && !s.gco.inhibit

end Sys2Proof.Machine
end

