-- ==== Sys2Proof/Machine/Ops.lean ====
section
/-! DEFINITION. The shared operations: the clocks, hand-offs in any order, the event log, SDO's targets and relays,
the transmit queue and STATUS, the point machine with its relays and tags, and the retained-record writer. -/

namespace Sys2Proof.Machine

/-! ## The clocks (R172, Units) -/

/-- The log clock runs from the end of LOAD in every phase and mode (R172). -/
def State.logClockRuns (s : State) : Bool :=
  match s.sup.phase with
  | .held => false
  | .straps => false
  | .load => false
  | _ => true

/-- Time passes: the uptime, and the log clock where it runs. -/
def advance (elapsed : Nat) (s : State) : State :=
  let s := s.onClock (· + elapsed)
  if s.logClockRuns then
    s.onAlu fun a => { a with clockS := min 4294967295 (a.clockS + (a.clockFrac + elapsed) / 1000000)
                              clockFrac := (a.clockFrac + elapsed) % 1000000 }
  else s

/-- Whether a time, present, has come. -/
def due (t : Option Nat) (now : Nat) : Bool :=
  match t with
  | some x => x ≤ now
  | none => false

/-! ## Hand-offs in any order -/

/-- The takers of a hand-off in the order a moment asks for: those it names first, then the others in the model's
order. It is a rearrangement of `takers`. -/
def arrange : List Taker → List Taker → List Taker
  | [], takers => takers
  | t :: order, takers => if t ∈ takers then t :: arrange order (takers.erase t) else arrange order takers

/-- A hand-off to several takers, in the order a moment asks for. -/
def fan (order takers : List Taker) (f : Taker → State → State) (s : State) : State :=
  (arrange order takers).foldl (fun s t => f t s) s

/-! ## The event log (R172) -/

/-- An entry appended at the present log clock; the oldest goes, counted, when the log holds 64. -/
def logEntry (kind : LogKind) (origin value : Nat) (s : State) : State :=
  s.onAlu fun a =>
    let entry : LogEntry := { time := a.clockS, kind := kind, origin := origin, value := value }
    if a.log.length < 64 then { a with log := a.log ++ [entry] }
    else { a with log := a.log.drop 1 ++ [entry], overflow := satInc 255 a.overflow }

/-! ## Setpoint outputs and relays (R20, R23, R24) -/

/-- An output with a new target and the code it gives (R20, R22). -/
def driveTarget (d : Dac) (v : Nat) (o : Output) : Output :=
  { o with target := v, code := outputCode d o.calibration v }

/-- An owner's target write: driven in OPERATING if it differs from the target held, and otherwise held as the
pending target (R20, R23, R25). -/
def writeTarget (d : Dac) (v : Nat) (s : State) : State :=
  s.onSdo fun x =>
    let o := dacGet x.outputs d
    if x.live then
      if o.target = v then x else { x with outputs := dacSet x.outputs d (driveTarget d v o) }
    else { x with outputs := dacSet x.outputs d { o with waiting := some v } }

/-- An owner's relay demand: driven from OPERATING entry on (R24). -/
def writeRelay (r : Relay) (v : Bool) (s : State) : State :=
  s.onSdo fun x => if x.live then { x with relays := relaySet x.relays r v } else x

/-! ## The transmit queue and STATUS (R84, R88 to R90) -/

/-- A note placed in a queue: a new slot at the end, or the content of its kind's slot replaced in place. A slot
whose frame is on the line (`sending`, the head) is marked. -/
def enqueueSlot (kind : NoteKind) (payload : List Byte) (sending : Bool) : List Slot → List Slot
  | [] => [{ kind := kind, payload := payload, replaced := false }]
  | x :: xs =>
    if x.kind = kind then { x with payload := payload, replaced := x.replaced || sending } :: xs
    else x :: enqueueSlot kind payload false xs

/-- An enqueue (R84): taken while transmission is granted only (R86). -/
def enqueue (kind : NoteKind) (payload : List Byte) (s : State) : State :=
  if s.pli.granted then
    s.onPli fun p => { p with queue := enqueueSlot kind payload (p.tx == .send) p.queue
                              tx := if p.tx = .empty then .wait else p.tx }
  else s

/-- The STATUS interval of a mode in ms (R88). -/
def statusInterval : Mode → Nat
  | .lean => 10000
  | _ => 2000

/-- A STATUS enqueue (R88 to R90): the content read now, the periodic timer and the spacing started again. -/
def enqueueStatus (s : State) : State :=
  if s.pli.granted then
    (enqueue .status (encodeStatus s.ownStatus) s).onPli fun p =>
      { p with statusDue := some (s.now + statusInterval s.sup.mode), spacingEnd := some (s.now + 250)
               deferred := false }
  else s

/-- A STATUS request (R89): queued at once, or deferred while the spacing runs; discarded while transmission is not
granted. -/
def requestStatus (s : State) : State :=
  if s.pli.granted then
    match s.pli.spacingEnd with
    | some e => if s.now < e then s.onPli fun p => { p with deferred := true } else enqueueStatus s
    | none => enqueueStatus s
  else s

/-- A POINT enqueue (R169): every owned tag with its state; the POINT timer starts again at 60 s. -/
def enqueuePoint (s : State) : State :=
  if s.pli.granted then
    (enqueue .point s.pointPayload s).onAlu fun a => { a with pointTimerAt := some (s.now + 60000) }
  else s

/-! ## Relays of the alarm unit, tags and subscriptions (R167, R168, R171) -/

/-- The four relay demands recomputed, each change handed to SDO (R167). -/
def recomputeRelays (s : State) : State :=
  let old := s.alu.demands
  let new := s.aluDemandsNow
  let s := s.onAlu fun a => { a with demands := new }
  let s := if old.rla = new.rla then s else writeRelay .rla new.rla s
  let s := if old.rlb = new.rlb then s else writeRelay .rlb new.rlb s
  let s := if old.out1 = new.out1 then s else writeRelay .out1 new.out1 s
  if old.out2 = new.out2 then s else writeRelay .out2 new.out2 s

/-- The entries of LOG_ONLY subscriptions whose own value changed (R171). DESIGN CHOICE (log entry 34): in the order of
the configuration. -/
def logSubChanges : List (Subscription × Bool × Bool) → State → State
  | [], s => s
  | (sub, old, new) :: rest, s =>
    logSubChanges rest
      (if sub.target = .logOnly ∧ old ≠ new then logEntry .tag 0 (twoParts sub.tag new.toNat) s else s)

/-- The values of the subscriptions, recomputed; those with a function target only when `functions` (R170: the
station's own tags do not enter them). -/
def State.newSubValues (s : State) (functions : Bool) : List Bool :=
  s.subs.map fun x => if x.1.target.isFunction && !functions then x.2 else s.subValue x.1

/-- The subscriptions recomputed with their effects on the relays and the log (R171). -/
def recomputeSubs (functions : Bool) (s : State) : State :=
  let values := s.newSubValues functions
  let changes := (s.subs.zip values).map fun x => (x.1.1, x.1.2, x.2)
  recomputeRelays (logSubChanges changes (s.onAlu fun a => { a with subValues := values }))

/-! ## The point machine (R163, R164) -/

/-- The end of an alarm: LATCHED for a latching point not acknowledged, INACTIVE otherwise. -/
def endAlarm (c : PointConfig) (p : Point) : Point :=
  { p with state := if c.latch && !p.acked then .latched else .inactive, acked := false, timerEnd := none }

/-- A point entering ACTIVE from INACTIVE, QUALIFYING or LATCHED. -/
def enterActive (p : Point) : Point := { p with state := .active, acked := false, timerEnd := none }

/-- A point on a change of its condition (the table of R163). -/
def pointOnCondition (c : PointConfig) (now : Nat) (v : Bool) (p : Point) : Point :=
  let p := { p with condition := v }
  let timer := some (now + 1000 * c.qualify)
  match p.state, v with
  | .inactive, true => if c.qualify = 0 then enterActive p else { p with state := .qualifying, timerEnd := timer }
  | .inactive, false => p
  | .qualifying, true => p
  | .qualifying, false => { p with state := .inactive, timerEnd := none }
  | .active, true => p
  | .active, false => if c.qualify = 0 then endAlarm c p else { p with state := .clearing, timerEnd := timer }
  | .clearing, true => { p with state := .active, timerEnd := none }
  | .clearing, false => p
  | .latched, true => if c.qualify = 0 then enterActive p else { p with timerEnd := timer }
  | .latched, false => { p with timerEnd := none }

/-- A point on the expiry of its qualify timer (the table of R163). -/
def pointOnExpiry (c : PointConfig) (p : Point) : Point :=
  match p.state with
  | .qualifying => enterActive p
  | .clearing => endAlarm c p
  | .latched => enterActive p
  | _ => p

/-- Whether a change of a point's state is logged (R164). -/
def pointLogged (old new : PointState) : Bool :=
  match new with
  | .active => old != .active && old != .clearing
  | .latched => old != .latched
  | .inactive => standing old
  | _ => false

/-- A changed point put in its place, and the change handed on: to the relays, to the owned tag and to the log, in
any order (R164). -/
def handPoint (order : List Taker) (id : Nat) (new : Point) (s : State) : State :=
  let old := pointGet s.alu.points id
  let moved := standing old.state != standing new.state
  let s := s.onAlu fun a => { a with points := pointSet a.points id new }
  fan order [.sdo, .pli, .log] (fun t s =>
    match t with
    | .sdo => if moved then recomputeRelays s else s
    | .pli => if moved && s.ownsTag id then enqueuePoint (recomputeSubs false s) else s
    | .log => if pointLogged old.state new.state then logEntry .point 0 (twoParts id new.state.code) s else s
    | _ => s) s

/-- An owner hands a change of a point's condition: ALU takes the condition as its owner then holds it, if it is
running and the condition differs from the one it last took (R160, R163, R174). -/
def takeCondition (order : List Taker) (id : Nat) (s : State) : State :=
  let p := pointGet s.alu.points id
  let v := s.ownerCondition id
  if s.alu.running && p.condition != v then
    handPoint order id (pointOnCondition (pointConfig s id) s.now v p) s
  else s

/-- Changes of several conditions of one owner. DESIGN CHOICE (log entry 34): in the order of the list, which each
caller gives, whatever the order operand. -/
def takeConditions (order : List Taker) (ids : List Nat) (s : State) : State :=
  ids.foldl (fun s id => takeCondition order id s) s

/-! ## The retained-record writer (R48, R183) -/

/-- The values of the retained record as their owners hold them now. -/
def State.retainedNow (s : State) : Retained :=
  { q := s.sac.q, r := s.sac.r, synced := s.sac.synced, runMinutes := s.rot.runMinutes, lockSet := s.gco.lockSet
    epoch := s.gco.epoch, eqDays := s.csc.eqDays, exMinutes := s.gco.exMinutes }

/-- The periodic write timer at the start of a write at `now` (R183): it runs 15 min from each from the end of LOAD
on, has not started before it, and is stopped in DORMANT. -/
def periodicFrom (now : Nat) (x : Sup) : Option Nat :=
  match x.phase with
  | .held => x.periodicAt
  | .straps => x.periodicAt
  | .load => x.periodicAt
  | .dormant => none
  | _ => some (now + 900000)

/-- A write begins with the values held now, and the periodic timer runs anew (R183). -/
def beginWrite (s : State) : State :=
  s.onSup fun x => { x with writing := some s.retainedNow, periodicAt := periodicFrom s.now x }

/-- A trigger of a write (R183). -/
def triggerWrite (s : State) : State :=
  if s.gco.unsettled ∨ s.sup.writing.isSome then s.onSup fun x => { x with pendingWrite := true }
  else beginWrite s

/-- A pending write begins when nothing holds it: at the end of a write, or when the epoch mark becomes SETTLED
(R183). -/
def beginPendingWrite (s : State) : State :=
  if s.sup.pendingWrite ∧ s.gco.unsettled = false ∧ s.sup.writing = none then
    (beginWrite s).onSup fun x => { x with pendingWrite := false }
  else s

end Sys2Proof.Machine
end

