-- ==== Sys2Proof/Machine/Generator.lean ====
section
/-! DEFINITION. The generator coordinator (R142 to R158). Each event is a change of GCO's own fields, and then
one hand-off of everything that changed. -/

namespace Sys2Proof.Machine

/-! ## GCO's own fields -/

/-- The raise dwells at 0. -/
def gcoNoDwells (g : Gco) : Gco := { g with busDwell := 0, ownDwell := 0, plantDwell := 0 }

/-- Whether the present run has held the generator for 5 min since its confirmation (R143). -/
def ranFiveMinutes (d : Option Demand) (now : Nat) : Bool :=
  match d.bind (·.confirmedAt) with
  | some t => t + 300000 ≤ now
  | none => false

/-- A departure from a demand state to the state `next` (R143). -/
def gcoDepart (next : GenState) (now : Nat) (g : Gco) : Gco :=
  let ran := ranFiveMinutes g.demand now
  { gcoNoDwells g with
    state := next, demand := none, startAt := none, acceptDwell := 0
    exMinutes := if ran then 0 else g.exMinutes, exSeconds := if ran then 0 else g.exSeconds }

/-- Confirmation (R149). -/
def gcoConfirm (now : Nat) (g : Gco) : Gco :=
  { g with state := .demandRun, startAt := none
           demand := g.demand.map fun d => { d with confirmedAt := some now } }

/-- A raise (R146), with the confirmation in the same raise when the generator is already running. -/
def gcoRaise (a : GcoSettings) (reason : DemandReason) (testEnd : Option Nat) (now : Nat) (running : Bool)
    (g : Gco) : Gco :=
  let g := { gcoNoDwells g with
             state := .demandWait, restAt := none, startAt := some (now + a.startTimeoutS * 1000)
             demand := some { reason := reason, raisedAt := now, confirmedAt := none, testEnd := testEnd } }
  if running then gcoConfirm now g else g

/-- The log entries of a raise (R146). -/
def raiseLog (reason : DemandReason) (running : Bool) : List (LogKind × Nat × Nat) :=
  (.demRaise, 0, reason.code) :: (if running then [(.demConfirm, 0, reason.code)] else [])

/-- The log entry of a release (R143). -/
def releaseLog (g : Gco) : List (LogKind × Nat × Nat) :=
  match g.demand with
  | some d => [(.demRelease, 0, d.reason.code)]
  | none => []

/-! ## What GCO hands on (R142, R143, R155) -/

/-- GCO hands on what has changed since `old`: the relay demand to SDO, a GEN note and the STATUS requests to PLI,
the entries to the log, the conditions of points 10 to 13 to ALU, and the change of the lockout record or of the
epoch mark to the retained-record writer, in any order. DESIGN CHOICE (log entry 34): within one event ALU takes the
points by rising number, and PLI the GEN note before the STATUS requests (R142, R150, R155). `adopted` when a heard
lockout has been adopted. -/
def gcoHand (order : List Taker) (old : Gco) (adopted : Bool) (gen : Option (List Byte))
    (logs : List (LogKind × Nat × Nat)) (s : State) : State :=
  let new := s.gco
  let lockChanged := old.lockSet ≠ new.lockSet ∨ old.epoch ≠ new.epoch
  fan order [.sdo, .pli, .log, .alu, .sup] (fun t s =>
    match t with
    | .sdo => if old.state = new.state then s else writeRelay .genDemand new.state.demanding s
    | .pli =>
      let s := match gen with | some p => enqueue .gen p s | none => s
      let s := if old.state.demanding = new.state.demanding then s else requestStatus s
      if lockChanged ∨ adopted then requestStatus s else s
    | .log => logs.foldl (fun s e => logEntry e.1 e.2.1 e.2.2 s) s
    | .alu => takeConditions order [10, 11, 12, 13] s
    | .sup =>
      let s := if old.unsettled ∧ new.unsettled = false then beginPendingWrite s else s
      if lockChanged then triggerWrite s else s
    | _ => s) s

/-- GCO's fields changed by `f`, and the change handed on. -/
def gcoMove (order : List Taker) (f : Gco → Gco) (logs : List (LogKind × Nat × Nat)) (s : State) : State :=
  gcoHand order s.gco false none logs (s.onGco f)

/-- The demand released to IDLE (R143). -/
def gcoRelease (order : List Taker) (s : State) : State :=
  gcoMove order (gcoDepart .idle s.now) (releaseLog s.gco) s

/-- A demand raised (R146). -/
def gcoRaiseNow (order : List Taker) (reason : DemandReason) (testEnd : Option Nat) (s : State) : State :=
  gcoMove order (gcoRaise s.settings.gco reason testEnd s.now s.ptb.genRunning)
    (raiseLog reason s.ptb.genRunning) s

/-! ## The tick (R145 to R147, R151, R153) -/

/-- The exercise counter and the run-length timer at a tick (R147). -/
def gcoCount (running : Bool) (g : Gco) : Gco :=
  let length := match g.runLength with | some n => if running then some (n + 1) else none | none => none
  let held : Bool := match length with | some n => 300 ≤ n | none => false
  let g := { g with runLength := length }
  if held then { g with exMinutes := 0, exSeconds := 0 }
  else if g.exSeconds < 59 then { g with exSeconds := g.exSeconds + 1 }
  else { g with exSeconds := 0, exMinutes := satInc 65535 g.exMinutes }

/-- A raise dwell at a check: it gains 1 s, up to 60, while its condition is met. -/
def raiseDwell (met : Bool) (d : Nat) : Nat := if met then satInc 60 d else 0

/-- The BUS_LOW condition of R145. -/
def State.gcoBusLow (s : State) : Bool :=
  match s.busV with
  | some v => v ≤ s.settings.gco.startMV
  | none => false

/-- The OWN_SOC condition of R145. -/
def State.gcoOwnLow (s : State) : Bool := s.ptb.view == .noSource && s.sac.soc ≤ s.settings.gco.startSoc

/-- The PLANT_SOC condition of R145. -/
def State.gcoPlantLow (s : State) : Bool := s.ptb.view == .noSource && s.plantSoc ≤ s.settings.gco.plantStartSoc

/-- The dwells built at a check (R145). -/
def gcoDwells (s : State) (g : Gco) : Gco :=
  match g.state with
  | .idle => { g with busDwell := raiseDwell s.gcoBusLow g.busDwell, ownDwell := raiseDwell s.gcoOwnLow g.ownDwell
                      plantDwell := raiseDwell s.gcoPlantLow g.plantDwell }
  | .runRest => { gcoNoDwells g with busDwell := raiseDwell s.gcoBusLow g.busDwell }
  | _ => gcoNoDwells g

/-- The exercise test of R147. -/
def State.exerciseTest (s : State) : Bool :=
  s.settings.gco.exerciseIntervalH != 0 && s.settings.gco.exerciseIntervalH * 60 ≤ s.gco.exMinutes &&
    s.exerciseLeader && (s.ptb.view == .mains || s.ptb.view == .noSource)

/-- The reason satisfied at a check in IDLE, in the order of R146. -/
def State.raiseReason (s : State) : Option DemandReason :=
  if 30 ≤ s.gco.busDwell then some .busLow
  else if 60 ≤ s.gco.ownDwell then some .ownSoc
  else if 60 ≤ s.gco.plantDwell then some .plantSoc
  else if s.exerciseTest then some .exercise
  else none

/-- Whether `minutes` have passed since the confirmed time. -/
def Demand.since (d : Demand) (minutes now : Nat) : Bool :=
  match d.confirmedAt with
  | some t => t + minutes * 60000 ≤ now
  | none => false

/-- The acceptance dwell at a check (R151). -/
def State.acceptNext (s : State) : Nat :=
  let low : Bool :=
    match s.channel .strI with
    | some i => s.csc.stage == .absorb && i < s.settings.gco.acceptMinDA
    | none => false
  if low then satInc (s.settings.gco.acceptTime * 60) s.gco.acceptDwell else 0

/-- The release condition of a demand's reason with its further need (R151). -/
def State.releaseMet (s : State) (d : Demand) : Bool :=
  let a := s.settings.gco
  let low : Bool := a.acceptTime * 60 ≤ s.gco.acceptDwell
  let own : Bool := s.csc.stage == .float || a.stopSoc ≤ s.sac.soc || low
  match d.reason with
  | .ownSoc => own && d.since a.minRun s.now
  | .busLow => own && d.since a.minRun s.now
  | .plantSoc => (a.stopSoc ≤ s.plantSoc || low) && d.since a.minRun s.now
  | .exercise => d.since a.exerciseDuration s.now
  | .test => due d.testEnd s.now

/-- The check in DEMAND_RUN (R151, R153). -/
def gcoRunCheck (order : List Taker) (d : Demand) (s : State) : State :=
  if d.since s.settings.gco.maxRun s.now then
    gcoMove order (fun g => { gcoDepart .runRest s.now g with
                              restAt := some (s.now + s.settings.gco.runRest * 60000) }) (releaseLog s.gco) s
  else
    let s := s.onGco fun g => { g with acceptDwell := s.acceptNext }
    if s.releaseMet d then gcoRelease order s else s

/-- The check of R145 in OPERATING. -/
def gcoCheck (order : List Taker) (s : State) : State :=
  let s := s.onGco (gcoDwells s)
  match s.gco.state with
  | .idle =>
    match s.raiseReason with
    | some reason => if s.gatesHold then gcoRaiseNow order reason none s else s
    | none => s
  | .runRest => if 30 ≤ s.gco.busDwell ∧ s.gatesHold then gcoRaiseNow order .busLow none s else s
  | .demandRun =>
    match s.gco.demand with
    | some d => gcoRunCheck order d s
    | none => s
  | _ => s

/-- GCO's 1 s tick (R145, R147). -/
def gcoTick (order : List Taker) (s : State) : State :=
  let s := s.onGco (gcoCount s.ptb.genRunning)
  if s.operating then gcoCheck order s else s

/-! ## Timers (R150, R153, R156) -/

/-- The lockout record after a new decision: one epoch on, and known to be current (R150, R157). -/
def gcoNewEpoch (set : Bool) (g : Gco) : Gco :=
  { g with lockSet := set, epoch := (g.epoch + 1) % 256, unsettled := false, settleAt := none }

/-- The start timer expires unconfirmed (R150): the lockout is set, FAIL is announced and the state is LOCKED. -/
def gcoStartFailure (order : List Taker) (s : State) : State :=
  let reason := match s.gco.demand with | some d => d.reason.code | none => 0
  let s' := s.onGco fun g => { gcoDepart .locked s.now (gcoNewEpoch true g) with startFail := true }
  gcoHand order s.gco false (some [1, BitVec.ofNat 8 s'.gco.epoch]) [(.demFail, 0, reason)] s'

/-- The rest timer expires (R153). -/
def gcoRestEnd (order : List Taker) (s : State) : State :=
  gcoMove order (fun g => { g with state := .idle, restAt := none }) [] s

/-- 10 s after OPERATING entry the epoch mark becomes SETTLED with the record as it stands (R156). -/
def gcoSettle (order : List Taker) (s : State) : State :=
  gcoMove order (fun g => { g with unsettled := false, settleAt := none }) [] s

/-! ## Events from other blocks (R149, R152, R154, R155) -/

/-- GCO takes a change of generator-running knowledge (R147, R149). -/
def gcoOnKnowledge (order : List Taker) (s : State) : State :=
  let running := s.ptb.genRunning
  let confirms : Bool := running && s.gco.state == .demandWait
  let logs := match s.gco.demand with
    | some d => if confirms then [(LogKind.demConfirm, 0, d.reason.code)] else []
    | none => []
  gcoMove order (fun g =>
    let g := { g with runLength := if running then some 0 else none }
    if confirms then gcoConfirm s.now g else g) logs s

/-- Whether a demand is released by the return of the mains (R152). -/
def DemandReason.endsOnMains : DemandReason → Bool
  | .ownSoc => true
  | .busLow => true
  | .plantSoc => true
  | .exercise => false
  | .test => false

/-- GCO takes a change of the source view (R152). -/
def gcoOnView (order : List Taker) (s : State) : State :=
  match s.gco.demand with
  | some d =>
    if s.ptb.view = .mains ∧ s.gco.state.demanding ∧ d.reason.endsOnMains then gcoRelease order s else s
  | none => s

/-- GCO takes a change of the effective fuel-low (R154). -/
def gcoOnFuel (order : List Taker) (s : State) : State :=
  let s := s.onGco fun g => { g with fuelLow := s.alu.effFuel }
  if s.gco.fuelLow ∧ s.gco.state.demanding then gcoRelease order s else s

/-- GCO takes a change of the effective gen-inhibit (R154). -/
def gcoOnInhibit (order : List Taker) (s : State) : State :=
  let s := s.onGco fun g => { g with inhibit := s.alu.effInhibit }
  if s.gco.inhibit ∧ s.gco.state.demanding then gcoRelease order s else s

/-- Whether a heard lockout is adopted (R155, R156). -/
def adopts (g : Gco) (set : Bool) (epoch : Nat) : Bool :=
  g.unsettled ||
    (let ahead := (epoch + 256 - g.epoch % 256) % 256
     (1 ≤ ahead && ahead ≤ 127) || (ahead == 0 && set && !g.lockSet))

/-- GCO's fields after an adoption (R155). -/
def gcoAdopt (set : Bool) (epoch now : Nat) (g : Gco) : Gco :=
  let g := { g with lockSet := set, epoch := epoch, unsettled := false, settleAt := none }
  if set then { gcoDepart .locked now g with restAt := none }
  else if g.state = .locked then { gcoNoDwells g with state := .idle, acceptDwell := 0, startFail := false }
  else { g with startFail := false }

/-- GCO hears the lockout of a GEN or STATUS note from `sender` (R155, R156). -/
def gcoHear (order : List Taker) (sender : Nat) (set : Bool) (epoch : Nat) (s : State) : State :=
  if adopts s.gco set epoch then
    gcoHand order s.gco true none [(.lockAdopt, sender, twoParts set.toNat epoch)]
      (s.onGco (gcoAdopt set epoch s.now))
  else s

/-! ## Site commands (R148, R157) -/

/-- GEN_TEST (R148). -/
def gcoTest (order : List Taker) (minutes : Nat) (s : State) : RefuseReason ⊕ State :=
  let testing : Bool := match s.gco.demand with | some d => s.gco.state.demanding && d.reason == .test | none => false
  if minutes = 0 then .inr (if testing then gcoRelease order s else s)
  else if s.operating = false then .inl .notOperating
  else if s.sup.configFault then .inl .configFault
  else if s.gco.lockSet ∨ s.gco.unsettled then .inl .locked
  else if s.gco.fuelLow then .inl .fuelLow
  else if s.gco.inhibit then .inl .inhibit
  else if s.gco.state = .runRest then .inl .genRest
  else
    let testEnd := some (s.now + min 240 minutes * 60000)
    if s.gco.state.demanding then
      if testing then .inr (s.onGco fun g => { g with demand := g.demand.map fun d => { d with testEnd := testEnd } })
      else .inl .demandActive
    else .inr (gcoRaiseNow order .test testEnd s)

/-- LOCKOUT_CLEAR (R157). -/
def gcoClear (order : List Taker) (s : State) : RefuseReason ⊕ State :=
  if s.operating = false then .inl .notOperating
  else if s.gco.unsettled then .inl .unsettled
  else if s.gco.lockSet = false then .inl .notLocked
  else
    let s' := s.onGco fun g =>
      { gcoNoDwells (gcoNewEpoch false g) with state := .idle, acceptDwell := 0, startFail := false }
    .inr (gcoHand order s.gco false (some [2, BitVec.ofNat 8 s'.gco.epoch]) [] s')

/-! ## OPERATING and DORMANT entry (R154, R156) -/

/-- GCO takes OPERATING entry: the 10 s of an unsettled epoch begin (R156). -/
def gcoOnOperating (s : State) : State :=
  s.onGco fun g => { g with settleAt := if g.unsettled then some (s.now + 10000) else none }

/-- GCO takes the DORMANT entry (R154): a demand state or a rest ends to IDLE, and every dwell is 0. -/
def gcoOnDormant (order : List Taker) (s : State) : State :=
  match s.gco.state with
  | .demandWait => gcoRelease order s
  | .demandRun => gcoRelease order s
  | .runRest => gcoMove order (fun g => { gcoNoDwells g with state := .idle, restAt := none, acceptDwell := 0 }) [] s
  | _ => s.onGco fun g => { gcoNoDwells g with acceptDwell := 0 }

end Sys2Proof.Machine
end

