-- ==== Sys2Proof/Machine/Alarm.lean ====
section
/-! DEFINITION. The alarm unit's own events (R160, R161, R165, R171, R173, R174): the analogue conditions, the two
functions it composes for the generator coordinator, ACK, LOG_READ, and its start and stop. -/

namespace Sys2Proof.Machine

/-! ## The functions (R171) -/

/-- The tag that stands for FUEL_LOW_FN in a TAG entry (R190). -/
def fuelTag : Nat := 64
/-- The tag that stands for GEN_INHIBIT_FN in a TAG entry (R190). -/
def inhibitTag : Nat := 65

/-- The effective fuel-low composed anew; a change goes to the point machine, to GCO and to the log (R171). -/
def recomputeFuel (order : List Taker) (s : State) : State :=
  let fn := s.targetValue .fuelLowFn
  let eff := s.alu.fuelAnalog || fn
  let changed := s.alu.effFuel ≠ eff
  let s := s.onAlu fun a => { a with fuelFn := fn, effFuel := eff }
  if changed then
    fan order [.alu, .gco, .log] (fun t s =>
      match t with
      | .alu => takeCondition order 14 s
      | .gco => gcoOnFuel order s
      | .log => logEntry .tag 0 (twoParts fuelTag eff.toNat) s
      | _ => s) s
  else s

/-- The effective gen-inhibit composed anew; a change goes to GCO and to the log (R171). -/
def recomputeInhibit (order : List Taker) (s : State) : State :=
  let eff := s.targetValue .genInhibitFn
  let changed := s.alu.effInhibit ≠ eff
  let s := s.onAlu fun a => { a with effInhibit := eff }
  if changed then
    fan order [.gco, .log] (fun t s =>
      match t with
      | .gco => gcoOnInhibit order s
      | .log => logEntry .tag 0 (twoParts inhibitTag eff.toNat) s
      | _ => s) s
  else s

/-- The subscriptions recomputed, with the effects of every target (R171). Nothing while ALU is stopped (R174). DESIGN
CHOICE (log entry 34): the relays and LOG_ONLY first, then FUEL_LOW_FN, then GEN_INHIBIT_FN. -/
def aluRecompute (order : List Taker) (s : State) : State :=
  if s.alu.running then recomputeInhibit order (recomputeFuel order (recomputeSubs true s)) else s

/-! ## A measurement set (R161) -/

/-- The analogue fuel-low after a set: it holds its value within 20 permille above its threshold (R161). -/
def fuelLowNext (threshold : Nat) (fuel : Option Int) (held : Bool) : Bool :=
  match fuel with
  | some v => if v ≤ threshold then true else if (threshold : Int) + 20 ≤ v then false else held
  | none => false

/-- ALU takes a measurement set (R161). DESIGN CHOICE (log entry 34): the conditions that one set changes reach the
point machine as points 2, 3 and 22, and the fuel-low after them; the manual gives no order. -/
def aluOnSet (order : List Taker) (s : State) : State :=
  if s.alu.running then
    let c := s.settings.alu
    let atMost (v : Option Int) (x : Nat) : Bool := match v with | some v => v ≤ x | none => false
    let atLeast (v : Option Int) (x : Nat) : Bool := match v with | some v => (x : Int) ≤ v | none => false
    let s := s.onAlu fun a =>
      { a with busLow := atMost s.busV c.busLowMV, busHigh := atLeast s.busV c.busHighMV
               fuelAnalog := fuelLowNext c.fuelLowPm (s.channel .fuel) a.fuelAnalog
               roomHot := atLeast (s.channel .ambT) c.roomHotDC }
    recomputeFuel order (takeConditions order [2, 3, 22] s)
  else s

/-! ## ACK and LOG_READ (R165, R173) -/

/-- A point at an ACK (R165). -/
def ackPoint (p : Point) : Point :=
  match p.state with
  | .latched => if p.timerEnd.isSome then { p with state := .qualifying } else { p with state := .inactive }
  | .active => { p with acked := true }
  | .clearing => { p with acked := true }
  | _ => p

/-- The ids of the points. -/
def pointIds : List Nat := (List.range 32).map (· + 1)

/-- ACK: every point in turn, its change handed on by R164. DESIGN CHOICE (log entry 34): in rising order of id. -/
def aluAck (order : List Taker) (s : State) : State :=
  pointIds.foldl (fun s id => handPoint order id (ackPoint (pointGet s.alu.points id)) s) s

/-- The log after a LOG_READ: up to 8 oldest entries gone, the overflow count 0. -/
def aluConsumeLog (s : State) : State := s.onAlu fun a => { a with log := a.log.drop 8, overflow := 0 }

/-! ## Start and stop (R160, R174) -/

/-- ALU takes LISTEN entry: it runs, takes each condition as its owner holds it, and recomputes the subscriptions and
the relay demands (DESIGN CHOICE, log entry 36: R167 and R171 do not list this moment). DESIGN CHOICE (log entry 34):
the conditions are taken by rising point, whatever the order operand, where R178 leaves the owners in any order. -/
def aluOnListen (order : List Taker) (s : State) : State :=
  aluRecompute order (takeConditions order pointIds (s.onAlu fun a => { a with running := true }))

/-- A point at DORMANT entry (R174). -/
def sleepPoint (p : Point) : Point :=
  match p.state with
  | .qualifying => { p with state := .inactive, timerEnd := none }
  | .clearing => { p with state := .active, timerEnd := none }
  | _ => { p with timerEnd := none }

/-- ALU takes the DORMANT entry (R174). -/
def aluOnDormant (a : Alu) : Alu := { a with running := false, points := a.points.map sleepPoint }

/-- A point over a PIN or RESTART reset, by the latch it was configured with (R174). -/
def keepPoint (latch : Bool) (p : Point) : Point :=
  let held : Bool :=
    match p.state with
    | .latched => true
    | .active => latch && !p.acked
    | .clearing => latch && !p.acked
    | _ => false
  { Point.reset with state := if held then .latched else .inactive }

/-- The point table over a PIN or RESTART reset (R174). -/
def State.keptPoints (s : State) : List Point := s.configuredPoints.map fun x => keepPoint x.1.latch x.2

end Sys2Proof.Machine
end

