-- ==== Sys2Proof/Machine/Rectifier.lean ====
section
/-! DEFINITION. The rotation controller (R122 to R139). -/

namespace Sys2Proof.Machine

/-- The RECT_ILIM target a state writes at its entry (R122, R131). -/
def rectTarget (a : RotSettings) : RectState → Nat
  | .run => a.rectRating
  | .restPending => a.rectRating
  | .forcedRun => a.rectRating
  | _ => 0

/-- ROT's fields at the entry to a state: the entry time, a ramp at step 0 in SOFT_START, and no settle, fail-clear
timer or own intent of another state (R122, R131 to R137). -/
def rectEntry (new : RectState) (now : Nat) (r : Rot) : Rot :=
  { r with state := new, entryAt := now, ramp := if new = .softStart then some 0 else none, settleAt := none
           failSince := none, intent := none }

/-- The demand and the target of the present state written to SDO (R122). -/
def rectDrive (s : State) : State :=
  writeTarget .rectIlim (rectTarget s.settings.rot s.rot.state) (writeRelay .rectEn s.rot.state.enables s)

/-- A rectifier state entered, and handed on in any order (R122). -/
def enterRect (order : List Taker) (new : RectState) (s : State) : State :=
  let old := s.rot.state
  fan order [.sdo, .pli, .log, .alu] (fun t s =>
    match t with
    | .sdo => rectDrive s
    | .pli => requestStatus s
    | .log => logEntry .rect 0 (twoParts old.code new.code) s
    | .alu => takeCondition order 8 s
    | _ => s) (s.onRot (rectEntry new s.now))

/-! ## The tick and the check (R123, R126, R129, R130) -/

/-- Run seconds and run minutes at a tick (R123). -/
def rectCount (r : Rot) : Rot :=
  if r.state.countsRun then
    if r.runSeconds < 59 then { r with runSeconds := r.runSeconds + 1 }
    else { r with runSeconds := 0, runMinutes := satInc 4294967295 r.runMinutes }
  else r

/-- Whether `minutes` have passed since the entry to the present state. -/
def State.rectHeld (s : State) (minutes : Nat) : Bool := s.rot.entryAt + minutes * 60000 ≤ s.now

/-- The rest test of R126. -/
def State.restTest (s : State) : Bool :=
  s.rectHeld s.settings.rot.runHold && !s.sup.configFault && s.pli.tx != .off && s.nreq ≤ s.runningForRest

/-- The wake test of R129. -/
def State.wakeTest (s : State) : Bool := s.runningForWake < s.nreq && s.bestWakeRank

/-- The swap test of R130. -/
def State.swapTest (s : State) : Bool :=
  s.rectHeld s.settings.rot.restHold && s.bestWakeRank &&
    (match s.highestRunning with
     | some h => s.ownHours + s.settings.rot.swapGapH ≤ h
     | none => false)

/-- The own intent at its queuing (R137). -/
def State.announce (s : State) (kind : IntentKind) (reason : Option WakeReason) : OwnIntent :=
  { kind := kind, reason := reason, runHours := s.ownHours, queuedAt := s.now, sent := false }

/-- REST_PENDING entered with its announcement and its settle (R126). DEDUCED (log entry 30): in that order, so that the
STATUS request of the entry comes before the REST. -/
def beginRest (order : List Taker) (s : State) : State :=
  let s := enterRect order .restPending s
  let s := enqueue .rest (leBytes 2 s.ownHours ++ [s.restFlags]) s
  s.onRot fun r => { r with intent := some (s.announce .rest none), settleAt := some (s.now + 5000) }

/-- SOFT_START entered with the announcement of a wake (R129, R130). DEDUCED (log entry 30): the WAKE is queued before
the STATUS request of the entry. -/
def beginWake (order : List Taker) (reason : WakeReason) (s : State) : State :=
  let s := enterRect order .softStart
    (enqueue .wake (leBytes 2 s.ownHours ++ [BitVec.ofNat 8 reason.code]) s)
  s.onRot fun r => { r with intent := some (s.announce .wake (some reason)) }

/-- The rotation check (R126). -/
def rotCheck (order : List Taker) (s : State) : State :=
  let s := s.onRot fun r => { r with lastT := s.runningCurrent, lastNreq := s.nreq }
  if s.ptb.view = .mains then
    let hour := 3600 ≤ s.rot.swapClock + 1
    let s := s.onRot fun r =>
      { r with lastNr := s.runningForRest, lastNw := s.runningForWake
               swapClock := if hour then 0 else r.swapClock + 1 }
    match s.rot.state with
    | .run => if s.restTest then beginRest order s else s
    | .resting =>
      if s.wakeTest then beginWake order .need s
      else if hour ∧ s.swapTest then beginWake order .swap s
      else s
    | _ => s
  else s.onRot fun r => { r with swapClock := 0 }

/-- ROT's 1 s tick (R123, R126). -/
def rotTick (order : List Taker) (s : State) : State :=
  let s := s.onRot rectCount
  if s.operating then rotCheck order s else s

/-! ## Settle, ramp and fail-clear (R128, R131, R134) -/

/-- The settle expiry (R128). -/
def rotSettle (order : List Taker) (s : State) : State :=
  enterRect order (if s.ptb.view = .mains ∧ s.nreq ≤ s.runningForRest then .resting else .run) s

/-- One step of the ramp (R131), from step `n`. -/
def rotRamp (order : List Taker) (n : Nat) (s : State) : State :=
  if n + 1 < 10 then
    writeTarget .rectIlim (rampTarget s.settings.rot (n + 1)) (s.onRot fun r => { r with ramp := some (n + 1) })
  else enterRect order .run (writeTarget .rectIlim (rampTarget s.settings.rot 10) s)

/-- FAILED ends (R134). -/
def rotFailClear (order : List Taker) (s : State) : State :=
  enterRect order (if s.contact .rectAcok = .active then .softStart else .noInput) s

/-! ## Events from other blocks (R127, R132 to R134, R137) -/

/-- ROT takes a change of the source view (R132). -/
def rotOnView (order : List Taker) (s : State) : State :=
  if s.ptb.view = .mains then s
  else
    match s.rot.state with
    | .resting => enterRect order .softStart s
    | .restPending => enterRect order .softStart s
    | .forcedRest => enterRect order .softStart s
    | _ => s

/-- ROT takes a qualified change of RECT_ACOK (R133). DESIGN CHOICE (log entry 41): a change to 0 in NO_INPUT is no
entry to NO_INPUT and changes nothing. -/
def rotOnAcok (order : List Taker) (s : State) : State :=
  match s.contact .rectAcok with
  | .active => if s.rot.state = .noInput then enterRect order .softStart s else s
  | _ =>
    match s.rot.state with
    | .failed => s
    | .noInput => s
    | _ => enterRect order .noInput s

/-- ROT takes a qualified change of RECT_FAIL (R134). -/
def rotOnFail (order : List Taker) (s : State) : State :=
  match s.contact .rectFail with
  | .active =>
    if s.rot.state = .failed then s.onRot fun r => { r with failSince := none } else enterRect order .failed s
  | _ =>
    if s.rot.state = .failed then s.onRot fun r => { r with failSince := some s.now } else s

/-- ROT takes a REST arrival from a peer (R127). -/
def rotOnRest (order : List Taker) (station hours : Nat) (s : State) : State :=
  if s.rot.state = .restPending ∧ outranksForRest hours station s.ownHours s.sup.number then
    enterRect order .run s
  else s

/-- ROT takes the completion of a REST or WAKE frame (R137). -/
def rotOnSent (kind : IntentKind) (s : State) : State :=
  s.onRot fun r =>
    match r.intent with
    | some i => if i.kind = kind then { r with intent := some { i with sent := true } } else r
    | none => r

/-! ## Site forcing (R135, R136) -/

/-- RECT_FORCE RUN (R135). -/
def rotForceRun (order : List Taker) (s : State) : RefuseReason ⊕ State :=
  if s.operating = false then .inl .notOperating
  else
    match s.rot.state with
    | .noInput => .inl .rectNoInput
    | .failed => .inl .rectFailed
    | .forcedRun => .inr s
    | _ => .inr (enterRect order .forcedRun s)

/-- RECT_FORCE REST (R135). -/
def rotForceRest (order : List Taker) (s : State) : RefuseReason ⊕ State :=
  if s.operating = false then .inl .notOperating
  else if s.sup.configFault then .inl .configFault
  else if s.ptb.view ≠ .mains then .inl .notMains
  else
    match s.rot.state with
    | .noInput => .inl .rectNoInput
    | .failed => .inl .rectFailed
    | .forcedRest => .inr s
    | _ => .inr (enterRect order .forcedRest s)

/-- RECT_FORCE RELEASE (R136). -/
def rotRelease (order : List Taker) (s : State) : RefuseReason ⊕ State :=
  match s.rot.state with
  | .forcedRun => .inr (enterRect order .run s)
  | .forcedRest => .inr (enterRect order .softStart s)
  | _ => .inl .notForced

/-! ## DORMANT entry (R139) -/

/-- ROT takes the DORMANT entry: NO_INPUT entered, logged when it is a change, with the clocks and counts at 0. -/
def rotOnDormant (order : List Taker) (s : State) : State :=
  let s := if s.rot.state = .noInput then rectDrive (s.onRot (rectEntry .noInput s.now))
           else enterRect order .noInput s
  s.onRot fun r => { r with swapClock := 0, lastNreq := 0, lastT := 0, lastNr := 0, lastNw := 0 }

end Sys2Proof.Machine
end

