-- ==== Sys2Proof/Machine/Accounting.lean ====
section
/-! DEFINITION. The string accountant (R33 to R49). -/

namespace Sys2Proof.Machine

/-- SoC, D and the line deficit from Q and C_eff (R39, R40). -/
def sacDerive (x : Sac) : Sac :=
  let d := deficit x.q x.cEff
  { x with soc := stateOfCharge x.q x.cEff, d := d, lineDeficit := lineDeficit d }

/-- k_T and C_eff at a temperature (R37, R38). -/
def sacCapacity (a : SacSettings) (t : Int) (x : Sac) : Sac :=
  let k := capacityFactor a t
  { x with kT := k, cEff := effectiveCapacity (cRated a) k }

/-- The effect of every full resync (R42). -/
def sacResync (x : Sac) : Sac :=
  sacDerive { x with q := x.cEff, r := 0, synced := true, resyncDwell := 0 }

/-- Whether a string current lies in the band of R43 and R44. -/
def inTailBand (tail : Nat) (i : Int) : Bool := -20 ≤ i && i ≤ tail

/-- The five steps of R33 on a set of period `p`, with the readable STR_I (none makes the accountant FROZEN), the
temperature and whether the stage read is FLOAT. -/
def sacTakeSet (a : SacSettings) (tail p : Nat) (i : Option Int) (t : Int) (floating : Bool) (x : Sac) : Sac :=
  match i with
  | none => { x with frozen := true, resyncDwell := 0, lastI := none }
  | some i =>
    let qr := countCharge a p i x.q x.r
    let x := sacCapacity a t { x with frozen := false, lastI := some i, q := qr.1, r := qr.2 }
    let dwell := if floating && inTailBand tail i then x.resyncDwell + p else 0
    if a.resyncHold * 60000 ≤ dwell then sacResync x else sacDerive { x with resyncDwell := dwell }

/-- SAC takes a measurement set; a change of the sync state is handed to ALU (R41, R46). -/
def sacOnSet (order : List Taker) (p : Nat) (s : State) : State :=
  takeCondition order 23
    (s.onSac (sacTakeSet s.settings.sac s.settings.csc.tailDA p (s.channel .strI) s.stringT
      (s.csc.stage == .float)))

/-- SAC performs a full resync (R42). -/
def sacFullResync (order : List Taker) (s : State) : State := takeCondition order 23 (s.onSac sacResync)

/-- SAC takes the change of the stage from ABSORB to FLOAT (R44). -/
def sacOnAbsorbEnd (order : List Taker) (s : State) : State :=
  match s.sac.lastI with
  | some i => if inTailBand s.settings.csc.tailDA i then sacFullResync order s else s
  | none => s

/-- SAC at the end of LOAD (R47): Q clamped to the capacity just loaded, the values derived at 250 dC. -/
def sacAtLoad (a : SacSettings) (x : Sac) : Sac :=
  sacDerive (sacCapacity a 250 { x with q := min (cRated a) x.q, frozen := false, resyncDwell := 0 })

end Sys2Proof.Machine
end

