-- ==== Sys2Proof/Machine/Modes.lean ====
section
/-! DEFINITION. The supervisor's dwells, its operating mode, and what a change of the source view or of the stage
does to them (R179, R180, R182). -/

namespace Sys2Proof.Machine

/-- The lean dwell runs while the station is OPERATING and the source view is NONE, from when that began (R179). -/
def updateLeanDwell (s : State) : State :=
  s.onSup fun x =>
    { x with leanSince := if s.operating && s.ptb.view == .noSource then some (x.leanSince.getD s.now) else none }

/-- Whether the dormant dwell runs: OPERATING, ISOLATED, no source (R180). -/
def State.dormantDwellRuns (s : State) : Bool :=
  s.operating && s.csc.stage == .isolated && s.ptb.view == .noSource

/-- The dormant dwell runs from when its conditions began to hold, and returns to 0 when one fails (R180). -/
def updateDormantDwell (s : State) : State :=
  s.onSup fun x =>
    if s.dormantDwellRuns then { x with dormantSince := some (x.dormantSince.getD s.now) }
    else { x with dormantSince := none, dormantHeld := false }

/-- Whether the lean dwell has reached lean_delay (R179). -/
def State.leanComplete (s : State) : Bool :=
  match s.sup.leanSince with
  | some t => t + s.settings.sup.leanDelay * 60000 ≤ s.now
  | none => false

/-- Whether the dormant dwell has reached dormant_delay (R180). -/
def State.dormantComplete (s : State) : Bool :=
  match s.sup.dormantSince with
  | some t => t + s.settings.sup.dormantDelay * 60000 ≤ s.now
  | none => false

/-- An entry wait is abandoned: the dormant dwell returns to 0 (R180). -/
def abandonEntryWait (s : State) : State :=
  if s.sup.entryWait.isSome then
    updateDormantDwell (s.onSup fun x => { x with entryWait := none, dormantSince := none, dormantHeld := false })
  else s

/-- A change between FULL and LEAN (R179): logged, a STATUS request, and handed to ALU for its relays. MCH and GCO
read the mode when they next need it. -/
def changeMode (order : List Taker) (m : Mode) (s : State) : State :=
  let old := s.sup.mode
  if old = m then s
  else
    fan order [.log, .pli, .alu] (fun t s =>
      match t with
      | .log => logEntry .mode 0 (twoParts old.code m.code) s
      | .pli => requestStatus s
      | .alu => recomputeRelays s
      | _ => s) (s.onSup fun x => { x with mode := m })

/-- LEAN to FULL at once, in OPERATING (R179). -/
def leaveLean (order : List Taker) (s : State) : State :=
  if s.operating && s.sup.mode == .lean then changeMode order .full s else s

/-- The supervisor takes a change of the source view (R179, R180, R182). -/
def supOnView (order : List Taker) (s : State) : State :=
  let s := if s.ptb.view = .noSource then s
           else leaveLean order (abandonEntryWait (s.onSup fun x => { x with found := true }))
  updateDormantDwell (updateLeanDwell s)

/-- The supervisor takes a change of the stage (R180, R182). -/
def supOnStage (s : State) : State :=
  updateDormantDwell (if s.csc.stage = .isolated then s
                      else abandonEntryWait (s.onSup fun x => { x with found := true }))

end Sys2Proof.Machine
end

