-- ==== Sys2Proof/Machine/Budget.lean ====
section
/-! DEFINITION. The charge budget unit (R109 to R119). -/

namespace Sys2Proof.Machine

/-- One computation of R111 to R114 on the values as they stand. -/
def State.budgetNow (s : State) : BudgetCalc :=
  let c := s.settings.cbu
  let ilim := sourceLimit c s.ptb.view
  let b := budgetOf c ilim s.plantLoad s.lostCount
  let share := shareOf c s.csc.hot s.csc.stage s.ptb.view b s.reportedDeficit s.deficitSum
  { ilim := ilim, load := s.plantLoad, deficitSum := s.deficitSum, ownDeficit := s.reportedDeficit
    lost := s.lostCount, budget := b, share := share.1, shareCase := share.2 }

/-- The applied limit set, and written as the STR_ILIM target when it has changed (R115). -/
def applyLimit (a : Nat) (s : State) : State :=
  let s' := s.onCbu fun x => { x with applied := a }
  if a = s.cbu.applied then s' else writeTarget .strIlim a s'

/-- CBU takes a change of the source view, the stage or HOT (R116): the share is computed, and the applied limit
falls to it or stays. Nothing before OPERATING (R117) or in CONFIG_FAULT (R118). -/
def cbuOnEvent (s : State) : State :=
  if s.operating && !s.sup.configFault then
    let c := s.budgetNow
    applyLimit (min s.cbu.applied c.share) (s.onCbu fun x => { x with computed := some c })
  else s

/-- CBU takes a measurement set of period `p` and number `n` (R109, R115, R118). -/
def cbuOnSet (p n : Nat) (s : State) : State :=
  if s.operating then
    let c := s.budgetNow
    let s' := s.onCbu fun x => { x with computed := some c, lastSet := some n }
    if s.sup.configFault then s'
    else applyLimit (slewToward c.share s.cbu.applied (slewStep s.settings.cbu p)) s'
  else s

/-- CBU takes OPERATING entry (R117, R118). In CONFIG_FAULT it writes the fixed 20 dA and computes nothing yet. -/
def cbuOnOperating (s : State) : State :=
  if s.sup.configFault then writeTarget .strIlim 20 (s.onCbu fun x => { x with fixed := true, applied := 20 })
  else
    let c := s.budgetNow
    let a := min s.cbu.applied c.share
    writeTarget .strIlim a (s.onCbu fun x => { x with computed := some c, applied := a })

end Sys2Proof.Machine
end

