-- ==== Sys2Proof/Machine/Contactor.lean ====
section
/-! DEFINITION. The contactor operation (R26 to R30) and CSC's record of its command (R64). -/

namespace Sys2Proof.Machine

/-- An attempt begins: its pulse is driven from now (R26, R27). -/
def beginAttempt (d : Direction) (attempt : Nat) (s : State) : State :=
  s.onSdo fun x =>
    { x with operation := some { direction := d, attempt := attempt, pulseStart := s.now, driven := true } }

/-- A contactor command reaches SDO (R26, R28): pended while an operation is in flight or CTR_FB is UNQUALIFIED,
ignored when CTR_FB already shows the position, and otherwise the start of an operation. -/
def contactorCommand (d : Direction) (s : State) : State :=
  if s.sdo.operation.isSome then s.onSdo fun x => { x with waitingCommand := some d }
  else
    match s.position with
    | none => s.onSdo fun x => { x with waitingCommand := some d }
    | some p => if p = d then s else beginAttempt d 1 s

/-- The pending command taken, when there is one and no operation is in flight (R26, R28). -/
def takeWaitingCommand (s : State) : State :=
  match s.sdo.waitingCommand with
  | some d => contactorCommand d (s.onSdo fun x => { x with waitingCommand := none })
  | none => s

/-- CSC takes SDO's report of an outcome (R64): a FAILED report with the record's direction removes the record. -/
def cscOnReport (d : Direction) (failed : Bool) (s : State) : State :=
  if failed ∧ s.csc.record = some d then s.onCsc fun c => { c with record := none } else s

/-- The CONTACTOR log value of an outcome report (R188): direction, then attempt in bits 0 and 1 and outcome in
bit 2 of the high byte. -/
def outcomeValue (d : Direction) (attempt : Nat) (failed : Bool) : Nat :=
  twoParts d.code (attempt % 4 + 4 * failed.toNat)

/-- The CONTACTOR log value of a manual operation (R188): the direction that leads to the new position, and bit 7
of the high byte. -/
def manualValue (d : Direction) : Nat := twoParts d.code 128

/-- An operation ends (R27, R29): the side returns to IDLE, CONTACTOR_FAULT follows the outcome, the report goes to
CSC and to the log, and then the pending command is taken. -/
def endOperation (order : List Taker) (op : ContactorOp) (failed : Bool) (s : State) : State :=
  let s := s.onSdo fun x =>
    { x with operation := none, contactorFault := failed, lastFailed := if failed then some op.direction else none }
  takeWaitingCommand
    (fan order [.csc, .log, .alu] (fun t s =>
      match t with
      | .csc => cscOnReport op.direction failed s
      | .log => logEntry .contactor 0 (outcomeValue op.direction op.attempt failed) s
      | .alu => takeCondition order 9 s
      | _ => s) s)

/-- SDO takes a qualified change of CTR_FB (R26, R27, R29). -/
def sdoOnCtrFb (order : List Taker) (s : State) : State :=
  match s.sdo.operation with
  | some op => if s.position = some op.direction then endOperation order op false s else s
  | none =>
    let s := if s.sdo.contactorFault ∧ s.position = s.sdo.lastFailed ∧ s.position.isSome then
        takeCondition order 9 (s.onSdo fun x => { x with contactorFault := false, lastFailed := none })
      else s
    takeWaitingCommand s

/-- SDO takes the expiry of an attempt's window (R27): a second attempt, or the end FAILED. -/
def sdoOnWindow (order : List Taker) (op : ContactorOp) (s : State) : State :=
  if op.attempt = 1 then beginAttempt op.direction 2 s else endOperation order op true s

end Sys2Proof.Machine
end

