-- ==== Sys2Proof/Machine/Stages.lean ====
section
/-! DEFINITION. The charge stage controller (R51 to R69): what a set, a change of the source view, a change of
CTR_FB, OPERATING entry and the equalize commands do to it, and what it hands on (R68). -/

namespace Sys2Proof.Machine

/-! ## Taking a set (R52) -/

/-- What CSC reads on a set of period `p`: the readable channels, the temperature after its fallback, and the held
values of other blocks. -/
structure CscInput where
  p : Nat
  strV : Option Int
  midV : Option Int
  strI : Option Int
  t : Int
  busV : Option Int
  view : SourceView
  soc : Nat
  operating : Bool
  midUsed : Bool
deriving DecidableEq, Repr

/-- What CSC reads of the machine on a set of period `p`. -/
def State.cscInput (s : State) (p : Nat) : CscInput :=
  { p := p, strV := s.channel .strV, midV := s.channel .midV, strI := s.channel .strI, t := s.stringT
    busV := s.busV, view := s.ptb.view, soc := s.sac.soc, operating := s.operating
    midUsed := !s.settings.unusedMid }

/-- A readable value that meets a comparison; an unreadable one meets none (R11, R51). -/
def meets (v : Option Int) (ok : Int → Bool) : Bool :=
  match v with
  | some x => ok x
  | none => false

/-- Step 1, HOT (R54). -/
def cscHot (a : CscSettings) (t : Int) (c : Csc) : Csc :=
  if c.hot then { c with hot := !decide (t ≤ (a.hotDC : Int) - 50) } else { c with hot := decide ((a.hotDC : Int) ≤ t) }

/-- The dwell of a condition that turns at `hold` ms: the condition and the dwell after a set that meets (or not)
the comparison toward its change. -/
def turnDwell (hold p dwell : Nat) (met condition : Bool) : Bool × Nat :=
  if met then (if hold ≤ dwell + p then (!condition, 0) else (condition, dwell + p)) else (condition, 0)

/-- Step 2, imbalance (R61); its change to true makes an equalize due (R59). -/
def cscImbalance (a : CscSettings) (i : CscInput) (c : Csc) : Csc :=
  if i.midUsed then
    let met :=
      match i.midV, i.strV with
      | some m, some v =>
        let apart := (2 * m - v).natAbs
        if c.imbalance then decide (apart ≤ a.imbalanceMV) else decide (a.imbalanceMV < apart)
      | _, _ => false
    let r := turnDwell 60000 i.p c.imbalanceDwell met c.imbalance
    { c with imbalance := r.1, imbalanceDwell := r.2, eqDue := c.eqDue || (r.1 && !c.imbalance) }
  else { c with imbalance := false, imbalanceDwell := 0 }

/-- Step 3, LVD_WARN (R62). -/
def cscWarn (a : CscSettings) (i : CscInput) (c : Csc) : Csc :=
  let met := meets i.strV fun v =>
    if c.lvdWarn then decide ((a.lvdWarnMV : Int) < v) else decide (v ≤ a.lvdWarnMV)
  let r := turnDwell 10000 i.p c.warnDwell met c.lvdWarn
  { c with lvdWarn := r.1, warnDwell := r.2 }

/-- Step 4, the LVD dwell and its OPEN (R63). -/
def cscLvd (a : CscSettings) (i : CscInput) (c : Csc) : Csc :=
  if c.stage ≠ .isolated ∧ c.record = none ∧ meets i.strV (fun v => decide (v ≤ a.lvdMV)) then
    if a.lvdDwellS * 1000 ≤ c.lvdDwell + i.p then { c with lvdDwell := 0, record := some .opening }
    else { c with lvdDwell := c.lvdDwell + i.p }
  else { c with lvdDwell := 0 }

/-- A stage entered: the stage timer and the tail dwell start from 0 (R51, R57). -/
def enterStage (stage : Stage) (c : Csc) : Csc := { c with stage := stage, stageTimer := 0, tailDwell := 0 }

/-- The stage timer gains a later set's period (R51); no stage has been entered while the stage is absent. -/
def cscTimer (p : Nat) (c : Csc) : Csc :=
  if c.stage = .absent then c else { c with stageTimer := c.stageTimer + p }

/-- The absorb target at a temperature, whatever HOT is (R53). -/
def absorbTarget (a : CscSettings) (t : Int) : Nat := targetFor a a.absorbCell t

/-- Step 5, at most one stage transition (R56, R57, R60). DESIGN CHOICE (log entry 33): in EQUALIZE, HOT is tested
before the stage timer, so that a set at which both end it does not complete the equalize. -/
def cscTransition (a : CscSettings) (i : CscInput) (c : Csc) : Csc :=
  match c.stage with
  | .float =>
    if i.soc < a.bulkEntrySoc then enterStage .bulk c
    else if c.eqDue ∧ i.view = .mains ∧ c.hot = false ∧ 3600000 ≤ c.stageTimer then enterStage .equalize c
    else c
  | .bulk =>
    if meets i.strV fun v => decide ((absorbTarget a i.t : Int) - 200 ≤ v) then enterStage .absorb c else c
  | .absorb =>
    let dwell := if meets i.strI fun x => decide (x ≤ a.tailDA) then c.tailDwell + i.p else 0
    if a.tailTime * 60000 ≤ dwell ∨ a.absorbMax * 60000 ≤ c.stageTimer then enterStage .float c
    else { c with tailDwell := dwell }
  | .equalize =>
    if c.hot then enterStage .float c
    else if a.eqTime * 60000 ≤ c.stageTimer then enterStage .float { c with eqDue := false, eqDays := 0 }
    else c
  | _ => c

/-- Step 6, the reconnect dwell and its CLOSE (R66). -/
def cscReconnect (a : CscSettings) (i : CscInput) (c : Csc) : Csc :=
  if c.stage = .isolated ∧ c.record = none ∧ i.view ≠ .noSource ∧
      meets i.busV (fun v => decide ((a.reconnectMV : Int) ≤ v)) then
    if a.reconnectDwellS * 1000 ≤ c.reconnectDwell + i.p then
      { c with reconnectDwell := 0, record := some .closing }
    else { c with reconnectDwell := c.reconnectDwell + i.p }
  else { c with reconnectDwell := 0 }

/-- Step 7, the day clock (R58). -/
def cscDay (a : CscSettings) (p : Nat) (c : Csc) : Csc :=
  if 86400000 ≤ c.dayClock + p then
    let days := satInc 65535 c.eqDays
    { c with dayClock := c.dayClock + p - 86400000, eqDays := days
             eqDue := c.eqDue || decide (a.eqIntervalDays ≤ days) }
  else { c with dayClock := c.dayClock + p }

/-- The voltage target of a stage and HOT at a temperature (R53). -/
def cscTarget (a : CscSettings) (t : Int) (c : Csc) : Csc :=
  { c with target := targetFor a (stageCell a c.stage c.hot) t }

/-- The eight steps of R52. -/
def cscTakeSet (a : CscSettings) (i : CscInput) (c : Csc) : Csc :=
  let c := cscTimer i.p (cscWarn a i (cscImbalance a i (cscHot a i.t c)))
  let c := if i.operating then cscDay a i.p (cscReconnect a i (cscTransition a i (cscLvd a i c))) else c
  cscTarget a i.t c

/-! ## What CSC hands on (R68) -/

/-- The command CSC issues with a record it has created. -/
def newCommand (old new : Csc) : Option Direction := if old.record = none then new.record else none

/-- CSC hands on what has changed since `old`: its command and its target to SDO, the conditions of points 4, 5, 6,
7 and 24 to ALU, the stage change to the log (with a manual movement, if it was one), to SAC, CBU, PLI and the
supervisor, in any order. DESIGN CHOICE (log entry 34): within one event ALU takes the points by rising number, and the
log the STAGE entry before that of a manual movement (R65). -/
def cscHand (order : List Taker) (old : Csc) (manual : Option Direction) (s : State) : State :=
  let new := s.csc
  let moved := old.stage ≠ new.stage
  fan order [.sdo, .alu, .log, .sac, .cbu, .pli, .sup] (fun t s =>
    match t with
    | .sdo =>
      writeTarget .strVref new.target
        (match newCommand old new with | some d => contactorCommand d s | none => s)
    | .alu => takeConditions order [4, 5, 6, 7, 24] s
    | .log =>
      let s := if moved then logEntry .stage 0 (twoParts old.stage.code new.stage.code) s else s
      match manual with
      | some d => logEntry .contactor 0 (manualValue d) s
      | none => s
    | .sac => if old.stage = .absorb ∧ new.stage = .float then sacOnAbsorbEnd order s else s
    | .cbu => if moved ∨ old.hot ≠ new.hot then cbuOnEvent s else s
    | .pli => if moved then requestStatus s else s
    | .sup => if moved then supOnStage s else s
    | _ => s) s

/-- CSC takes a measurement set of period `p` (R52). -/
def cscOnSet (order : List Taker) (p : Nat) (s : State) : State :=
  cscHand order s.csc none (s.onCsc (cscTakeSet s.settings.csc (s.cscInput p)))

/-- A stage change on an event other than a set: the stage entered and the target computed at the temperature of the
most recent set (R53). -/
def stageEvent (order : List Taker) (new : Csc) (manual : Option Direction) (s : State) : State :=
  if s.csc.stage = new.stage then s.onCsc fun _ => new
  else cscHand order s.csc manual (s.onCsc fun _ => cscTarget s.settings.csc s.stringT new)

/-! ## The source view (R55) -/

/-- The stage after a change of the source view to `view` (R55). -/
def stageOnView (view : SourceView) : Stage → Stage
  | .bulk => if view = .noSource then .discharge else .bulk
  | .absorb => if view = .noSource then .discharge else .absorb
  | .float => if view = .noSource then .discharge else .float
  | .equalize =>
    match view with
    | .noSource => .discharge
    | .mains => .equalize
    | .gen => .float
    | .acUnknown => .float
  | .discharge => if view = .noSource then .discharge else .bulk
  | st => st

/-- CSC takes a change of the source view from `old`. DISCHARGE becomes BULK only when the view was NONE. -/
def cscOnView (order : List Taker) (old : SourceView) (s : State) : State :=
  if s.operating then
    let view := s.ptb.view
    let c := if view = .noSource then { s.csc with reconnectDwell := 0 } else s.csc
    let stage := if c.stage = .discharge ∧ old ≠ .noSource then c.stage else stageOnView view c.stage
    stageEvent order (if stage = c.stage then c else enterStage stage c) none s
  else s

/-! ## The contactor feedback (R64, R65, R67) -/

/-- The stage decided for a closed contactor in OPERATING from the source view and the SoC (R67). -/
def State.decidedStage (s : State) : Stage :=
  if s.ptb.view = .noSource then .discharge
  else if s.settings.csc.bulkEntrySoc ≤ s.sac.soc then .float
  else .bulk

/-- A stage decided: the stage timer and every dwell of the chapter start from 0 (R67). -/
def decideStage (stage : Stage) (c : Csc) : Csc :=
  { enterStage stage c with imbalanceDwell := 0, warnDwell := 0, lvdDwell := 0, reconnectDwell := 0 }

/-- CSC takes a qualified change of CTR_FB to `p` (R65, R67). It is commanded when it removes the command record and
manual otherwise; the qualification that ends the absence of the stage after a reset is R67's decision and no
movement (log entry 21), while the first one after a wake, which meets the stage kept, is a change like any other. -/
def cscOnCtrFb (order : List Taker) (p : Direction) (s : State) : State :=
  let commanded := s.csc.record = some p
  let c := if commanded then { s.csc with record := none } else s.csc
  let follow (stage : Stage) : State :=
    stageEvent order { enterStage stage c with lvdDwell := 0, reconnectDwell := 0 }
      (if commanded ∨ c.stage = .absent then none else some p) s
  match c.stage, p with
  | .absent, .opening => if s.operating then stageEvent order (decideStage .isolated c) none s else follow .isolated
  | .absent, .closing =>
    if s.operating then stageEvent order (decideStage s.decidedStage c) none s else follow .discharge
  | .isolated, .opening => s.onCsc fun _ => c
  | .isolated, .closing => follow (if s.operating ∧ s.ptb.view ≠ .noSource then .bulk else .discharge)
  | _, .opening => follow .isolated
  | _, .closing => s.onCsc fun _ => c

/-! ## OPERATING entry and the equalize commands (R58, R59, R67) -/

/-- CSC takes OPERATING entry: equalize due by the days count, and a stage of DISCHARGE decided afresh. -/
def cscOnOperating (order : List Taker) (s : State) : State :=
  let old := s.csc
  let s := s.onCsc fun c =>
    { c with eqDue := c.eqDue || decide (s.settings.csc.eqIntervalDays ≤ c.eqDays) }
  if old.stage = .discharge then
    cscHand order old none
      (s.onCsc fun c => cscTarget s.settings.csc s.stringT (decideStage s.decidedStage c))
  else s

/-- EQUALIZE START (R59). -/
def cscEqualizeStart (s : State) : State := s.onCsc fun c => { c with eqDue := true }

/-- EQUALIZE STOP (R59). -/
def cscEqualizeStop (order : List Taker) (s : State) : State :=
  let c := { s.csc with eqDue := false }
  stageEvent order (if c.stage = .equalize then enterStage .float c else c) none s

/-- CSC takes the DORMANT entry (R69). -/
def cscOnDormant (c : Csc) : Csc :=
  { c with stageTimer := 0, tailDwell := 0, imbalanceDwell := 0, warnDwell := 0, lvdDwell := 0, reconnectDwell := 0 }

end Sys2Proof.Machine
end

