-- ==== Sys2Proof/Machine/Peers.lean ====
section
/-! DEFINITION. The peer table (R92 to R107): the recomputation of the source view, what an accepted note does to
its sender's record and to the other blocks, aging, and the removal of records. -/

namespace Sys2Proof.Machine

/-! ## The recomputation (R102, R106, R107) -/

/-- The source view and generator-running knowledge recomputed; each change is handed to its owners in any order
(R106, R107). PTB does not recompute while the station sleeps (R102). -/
def recomputeViews (order : List Taker) (s : State) : State :=
  if s.awake then
    let old := s.ptb.view
    let known := s.ptb.genRunning
    let view := s.viewNow
    let running := s.runningNow
    let moved := old ≠ view
    let s := s.onPtb fun p => { p with view := view, genRunning := running, acFail := view == .noSource }
    fan order [.csc, .cbu, .rot, .gco, .pli, .sup, .alu, .knowledge] (fun t s =>
      match t with
      | .csc => if moved then cscOnView order old s else s
      | .cbu => if moved then cbuOnEvent s else s
      | .rot => if moved then rotOnView order s else s
      | .gco => if moved then gcoOnView order s else s
      | .pli => if moved then requestStatus s else s
      | .sup => if moved then supOnView order s else s
      | .alu => takeCondition order 1 s
      | .knowledge => if known ≠ running then gcoOnKnowledge order s else s
      | _ => s) s
  else s

/-! ## Records (R92, R93, R98) -/

/-- A record at its creation, before its first note is counted (R92). -/
def PeerRecord.blank (station : Nat) : PeerRecord :=
  { station := station, state := .fresh, lastSequence := 0, heard := 0, gaps := 0, lastHeard := 0, intervalS := 10
    status := none, intent := none, points := [], digestMatch := none, startCause := none, quietReason := none }

/-- The code of a record's state, 0 where there is no record (R188). -/
def recordCode (r : Option PeerRecord) : Nat :=
  match r with
  | some p => p.state.code
  | none => 0

/-- The PEER entry of a record's removal (R98): its station, and its state giving way to none. -/
def removalEntry (p : PeerRecord) : Nat × Nat := (p.station, twoParts p.state.code 0)

/-- The updates of R93 for a note of kind `kind` with sequence `seq` at time `now`. -/
def touchRecord (kind : NoteKind) (seq now : Nat) (existed : Bool) (p : PeerRecord) : PeerRecord :=
  { p with
    heard := (p.heard + 1) % 256
    gaps := if existed && kind != .hello then min 65535 (p.gaps + (seq + 31 - p.lastSequence % 16) % 16) else p.gaps
    lastSequence := seq, lastHeard := now, state := if kind = .quiet then .quiet else .fresh }

/-- Whether a change of a record's state is logged (R98): creation, and entry to and exit from LOST and QUIET. -/
def peerLogged (old : Option RecordState) (new : RecordState) : Bool :=
  match old with
  | none => true
  | some o => o != new && (o == .lost || o == .quiet || new == .lost || new == .quiet)

/-- Whether a note makes the station announce itself anew (R99). -/
def reannounces (kind : NoteKind) (old : Option RecordState) : Bool :=
  kind == .hello ||
    (kind != .quiet &&
      match old with
      | none => true
      | some o => o == .lost || o == .quiet)

/-- The LOST record with the oldest last-heard time (R92). -/
def oldestLost (ps : List PeerRecord) : Option PeerRecord :=
  ps.foldl (fun m p =>
    if p.state = .lost then
      match m with
      | some q => if p.lastHeard < q.lastHeard then some p else some q
      | none => some p
    else m) none

/-- What removals or changes of records bring about for the other blocks: the log entries, the conditions of points
15 and 18 and the subscriptions at ALU, and the recomputation of the views, in any order (R95, R98, R101). DESIGN
CHOICE (log entry 34): ALU takes the two conditions before it recomputes the subscriptions. -/
def peerHand (order : List Taker) (logs : List (Nat × Nat)) (subs views : Bool) (also : Taker → State → State)
    (s : State) : State :=
  fan order [.log, .alu, .ptb, .pli, .gco, .rot] (fun t s =>
    match t with
    | .log => logs.foldl (fun s e => logEntry .peer e.1 e.2 s) s
    | .alu =>
      let s := takeConditions order [15, 18] s
      if subs then aluRecompute order s else s
    | .ptb => if views then recomputeViews order s else s
    | t => also t s) s

/-! ## Taking a note (R93 to R99) -/

/-- What the content of a note does: to the record (`replaces` when it replaces its status), and what is handed to
GCO and ROT. -/
structure NoteContent where
  kind : NoteKind
  replaces : Bool := false
  record : PeerRecord → PeerRecord
  gco : State → State
  rot : State → State

/-- PTB takes an accepted note of sender `station` (R92, R93): into its record, created if absent (in the place of
the oldest LOST record when all 14 are in use, or not at all when none is LOST); then its content and hand-offs.
DESIGN CHOICE (log entry 34): of a re-announcement the STATUS request is taken before the POINT request (R99). -/
def takeNote (order : List Taker) (station seq : Nat) (n : NoteContent) (s : State) : State :=
  let old := findPeer s.ptb.peers station
  let victim := if old.isNone ∧ 14 ≤ s.ptb.peers.length then oldestLost s.ptb.peers else none
  if old.isNone ∧ 14 ≤ s.ptb.peers.length ∧ victim.isNone then s
  else
    let before := old.getD (.blank station)
    let after := n.record (touchRecord n.kind seq s.now old.isSome before)
    let changed : Bool := decide (old.map (·.state) ≠ some after.state)
    let kept := match victim with | some v => dropPeer s.ptb.peers v.station | none => s.ptb.peers
    let removal := match victim with | some v => [removalEntry v] | none => []
    let change := if peerLogged (old.map (·.state)) after.state
      then [(station, twoParts (recordCode old) after.state.code)] else []
    let wired := before.wired || after.wired
    let views := (wired && (changed || n.replaces)) ||
      (match victim with | some v => v.wired | none => false)
    let again := reannounces n.kind (old.map (·.state))
    peerHand order (removal ++ change) (changed || n.kind == .point || victim.isSome) views
      (fun t s =>
        match t with
        | .pli => if again then enqueuePoint (requestStatus s) else s
        | .gco => n.gco s
        | .rot => n.rot s
        | _ => s) (s.onPtb fun p => { p with peers := putPeer after kept })

/-- A note whose content is disregarded: its liveness alone is taken. -/
def livenessOnly (kind : NoteKind) : NoteContent := { kind := kind, record := id, gco := id, rot := id }

/-- Whether a STATUS clears a held intent (R96). -/
def clearsIntent (rect : RectState) (i : Intent) : Bool :=
  match i.kind with
  | .rest => rect != .restPending
  | .wake => rect != .resting

/-- The digest match of a carried digest (R100). -/
def State.matchDigest (s : State) (digest : Nat) : Option Bool := some (digest == s.sup.digest)

/-- A STATUS (R94). -/
def statusContent (order : List Taker) (station : Nat) (payload : List Byte) (s : State) : NoteContent :=
  match decodeStatus payload with
  | none => livenessOnly .status
  | some c =>
    { kind := .status, replaces := true
      record := fun p =>
        { p with status := some { content := c, arrival := s.now }
                 intervalS := if c.mode = .lean then 10 else 2
                 digestMatch := s.matchDigest c.digest
                 intent := p.intent.filter fun i => !clearsIntent c.rect i }
      gco := fun s =>
        match c.lock with
        | .clear => gcoHear order station false c.epoch s
        | .set => gcoHear order station true c.epoch s
        | .unsettled => s
      rot := id }

/-- A GEN (R95, R155). -/
def genContent (order : List Taker) (station event epoch : Nat) : NoteContent :=
  { kind := .gen, record := id, rot := id
    gco := fun s =>
      if event = 1 then gcoHear order station true epoch s
      else if event = 2 then gcoHear order station false epoch s
      else s }

/-- A REST (R95, R96, R127). -/
def restContent (order : List Taker) (station hours : Nat) (flags : Byte) (s : State) : NoteContent :=
  { kind := .rest, gco := id
    record := fun p =>
      { p with intent := some { kind := .rest, runHours := hours, arrival := s.now, detail := knownFlags flags } }
    rot := rotOnRest order station hours }

/-- A WAKE (R95, R96); its arrival changes no state of ROT (R127). -/
def wakeContent (hours : Nat) (reason : Byte) (s : State) : NoteContent :=
  if wakeReasonDefined reason.toNat then
    { kind := .wake, gco := id, rot := id
      record := fun p =>
        { p with intent := some { kind := .wake, runHours := hours, arrival := s.now, detail := reason } } }
  else livenessOnly .wake

/-- One pair of a POINT taken into a list (R97): a tag above 63 is disregarded, and a tag already in the list takes
the later state. -/
def takePair (l : List (Nat × Bool)) (p : Byte × Byte) : List (Nat × Bool) :=
  let tag := p.1.toNat
  let on := p.2.toNat != 0
  if 63 < tag then l
  else if l.any fun x => x.1 == tag then l.map fun x => if x.1 = tag then (tag, on) else x
  else l ++ [(tag, on)]

/-- A POINT (R97). -/
def pointContent (pairs : List (Byte × Byte)) : NoteContent :=
  { kind := .point, record := fun p => { p with points := pairs.foldl takePair [] }, gco := id, rot := id }

/-- A HELLO (R95, R100). -/
def helloContent (digest : Nat) (cause : Byte) (s : State) : NoteContent :=
  { kind := .hello, gco := id, rot := id
    record := fun p =>
      { p with intent := none, digestMatch := s.matchDigest digest
               startCause := match startCauseOf cause.toNat with | some c => some c | none => p.startCause } }

/-- A QUIET (R95). -/
def quietContent (reason : Byte) : NoteContent :=
  { kind := .quiet, gco := id, rot := id
    record := fun p =>
      { p with intent := none
               quietReason := match quietReasonOf reason.toNat with | some r => some r | none => p.quietReason } }

/-! ## Aging and intents (R96, R98) -/

/-- A record at an aging check (R98). -/
def ageRecord (now : Nat) (p : PeerRecord) : PeerRecord :=
  let age := now - p.lastHeard
  let lost := 5 * p.intervalS * 1000 < age
  match p.state with
  | .fresh =>
    if lost then { p with state := .lost, intent := none }
    else if 2 * p.intervalS * 1000 < age then { p with state := .aged }
    else p
  | .aged => if lost then { p with state := .lost, intent := none } else p
  | _ => p

/-- The aging check (R98). -/
def ageRecords (order : List Taker) (s : State) : State :=
  let old := s.ptb.peers
  let new := old.map (ageRecord s.now)
  let moved := (old.zip new).filter fun x => x.1.state != x.2.state
  let logs := (moved.filter fun x => x.2.state == .lost).map fun x =>
    (x.1.station, twoParts x.1.state.code x.2.state.code)
  peerHand order logs (!moved.isEmpty) (moved.any fun x => x.1.wired) (fun _ s => s)
    (s.onPtb fun p => { p with peers := new })

/-- The expiry of a peer's intent, 8 s after its arrival (R96). -/
def expireIntent (station : Nat) (s : State) : State :=
  match findPeer s.ptb.peers station with
  | some p =>
    match p.intent with
    | some i =>
      if i.arrival + 8000 ≤ s.now then
        s.onPtb fun t => { t with peers := putPeer { p with intent := none } t.peers }
      else s
    | none => s
  | none => s

/-! ## Forgetting and clearing (R101, R102) -/

/-- A record removed (R101). -/
def forgetRecord (order : List Taker) (p : PeerRecord) (s : State) : State :=
  peerHand order [removalEntry p] true p.wired (fun _ s => s)
    (s.onPtb fun t => { t with peers := dropPeer t.peers p.station })

/-- The table cleared at a wake: each record removed, with its entry (R98), and the views recomputed with no peers
(R102). -/
def clearPeers (order : List Taker) (s : State) : State :=
  peerHand order (s.ptb.peers.map removalEntry) true true (fun _ s => s) (s.onPtb fun t => { t with peers := [] })

end Sys2Proof.Machine
end

