-- ==== Sys2Proof/Machine/Line.lean ====
section
/-! DEFINITION. The plant line interface apart from what a received note means (R70 to R91): grant and withdrawal,
the frame on the line, the receiver, and the line faults. -/

namespace Sys2Proof.Machine

/-! ## Grant and withdrawal (R86) -/

/-- The transmitter's state when it may work: EMPTY or WAIT by the queue. -/
def idleTx (queue : List Slot) : TxState := if queue.isEmpty then .empty else .wait

/-- Transmission granted (R73, R86, R88, R169): OFF stays for station number 0 or DUP_STATION; courtesy is
satisfied; the periodic STATUS timer and the POINT timer run. -/
def grantTransmission (s : State) : State :=
  (s.onPli fun p =>
    { p with granted := true, courtesyPending := false, sending := none
             tx := if s.sup.number = 0 ∨ p.dup then .off else idleTx p.queue
             statusDue := some (s.now + statusInterval s.sup.mode) }).onAlu fun a =>
    { a with pointTimerAt := some (s.now + 60000) }

/-- What PLI does when the frame on the line has ended after a withdrawal (R86). -/
def pliOff (p : Pli) : Pli :=
  { p with tx := .off, queue := [], lossRun := 0, statusDue := none, spacingEnd := none, deferred := false
           sending := none }

/-- Transmission withdrawn (R86): a frame on the line runs on to its end first. -/
def withdrawTransmission (s : State) : State :=
  (s.onPli fun p =>
    let p := { p with granted := false }
    if p.tx = .send then p else pliOff p).onAlu fun a => { a with pointTimerAt := none }

/-! ## The receiver (R80, R91) -/

/-- Whether the receiver runs: from LISTEN entry while awake, and asleep when LINE is an enabled wake source. -/
def State.receiving (s : State) : Bool := s.awake || (s.asleep && s.settings.sup.mask.line)

/-- Whether another station's frame can have been received: the receiver runs and has seen the line idle. -/
def State.canReceive (s : State) : Bool := s.receiving && s.pli.rx != .hunt

/-- Another station's frame has ended: the receiver is in HUNT, and courtesy is satisfied, because the frame was
seen on the line (R73, R80). -/
def frameSeen (s : State) : State := s.onPli fun p => { p with rx := .hunt, courtesyPending := false }

/-! ## Line faults (R78, R82) -/

/-- A time placed in the fault window (R82). -/
def addFault (t : Nat) (p : Pli) : Pli :=
  let w := (if p.window.length < 21 then p.window else p.window.drop 1) ++ [t]
  if w.length = 21 then { p with window := w, rateFault := true, belowSince := none } else { p with window := w }

/-- A line fault counted by `count`, its time in the window, and LINE_FAULT handed to ALU (R80, R82). -/
def lineFaultNow (order : List Taker) (count : Pli → Pli) (s : State) : State :=
  takeCondition order 17 (s.onPli fun p => addFault s.now (count p))

/-- A frame discarded (R80); asleep it enters neither the counter nor the window (R91). -/
def discardFrame (order : List Taker) (s : State) : State :=
  if s.canReceive then
    if s.awake then lineFaultNow order (fun p => { p with errors := satInc 65535 p.errors }) (frameSeen s)
    else frameSeen s
  else s

/-- A stuck line (R78). -/
def lineStuckNow (order : List Taker) (s : State) : State :=
  if s.receiving then takeCondition order 17 (s.onPli fun p => { p with stuck := true, rx := .hunt }) else s

/-- The stuck line freed for a second (R78). -/
def lineStuckEnd (order : List Taker) (s : State) : State :=
  if s.receiving then takeCondition order 17 (s.onPli fun p => { p with stuck := false }) else s

/-- The oldest time of the window leaves it at 60 s (R82). -/
def faultTimeOut (s : State) : State :=
  match s.pli.window with
  | t :: rest =>
    if t + 60000 ≤ s.now then
      s.onPli fun p =>
        { p with window := rest
                 belowSince := if p.rateFault ∧ p.belowSince = none then some s.now else p.belowSince }
    else s
  | [] => s

/-- The rate fault ends after 60 s at 20 times or fewer (R82). -/
def rateFaultEnd (order : List Taker) (s : State) : State :=
  match s.pli.belowSince with
  | some t =>
    if t + 60000 ≤ s.now ∧ s.pli.rateFault then
      takeCondition order 17 (s.onPli fun p => { p with rateFault := false, belowSince := none })
    else s
  | none => s

/-! ## The frame on the line (R72 to R77, R79, R85) -/

/-- The head slot at the start of its frame: nothing has replaced its content since. -/
def markHead : List Slot → List Slot
  | [] => []
  | x :: xs => { x with replaced := false } :: xs

/-- Whether a frame can begin (R72, R73, R78): a note waits, the line is idle, courtesy is satisfied and the line is
not stuck. -/
def State.canBegin (s : State) : Bool :=
  s.awake && s.pli.tx == .wait && s.pli.rx == .ready && !s.pli.courtesyPending && !s.pli.stuck

/-- The head note's frame begins (R79, R81). -/
def beginFrame (s : State) : State :=
  match s.pli.queue with
  | x :: _ =>
    if s.canBegin then
      s.onPli fun p =>
        { p with tx := .send, rx := .hunt, queue := markHead p.queue
                 sending := some (buildFrame x.kind s.sup.number p.sequence x.payload) }
    else s
  | [] => s

/-- The attempt on the line ends without completing: the note stays, and the transmitter waits, or is OFF when
transmission has been withdrawn meanwhile (R74, R75, R86). -/
def endAttempt (p : Pli) : Pli :=
  if p.granted then { p with tx := .wait, sending := none } else pliOff p

/-- The loss run after a contention loss, and the congestion counter (R77). -/
def countLoss (p : Pli) : Pli :=
  let p := { p with losses := satInc 65535 p.losses }
  if p.lossRun + 1 < 16 then { p with lossRun := p.lossRun + 1 }
  else { p with lossRun := 0, congestion := satInc 65535 p.congestion }

/-- A contention loss (R74, R81): the receiver goes on with the winner's frame. -/
def loseContention (s : State) : State :=
  if s.pli.tx = .send then
    s.onPli fun p => { endAttempt (countLoss p) with rx := if s.receiving then .frame else p.rx }
  else s

/-- A drive fault (R75, R81). -/
def failDrive (order : List Taker) (s : State) : State :=
  if s.pli.tx = .send then
    lineFaultNow order (fun p => { p with driveFaults := satInc 65535 p.driveFaults, rx := .hunt })
      (s.onPli endAttempt)
  else s

/-- The queue after the completion of its head's frame (R85): the slot leaves, or stays with the content that
replaced the one sent. -/
def settleHead : List Slot → List Slot
  | [] => []
  | x :: xs => if x.replaced then { x with replaced := false } :: xs else xs

/-- PLI's fields at a completion (R73, R77, R85, R86). -/
def completeSlot (p : Pli) : Pli :=
  let q := settleHead p.queue
  let p := { p with sequence := (p.sequence + 1) % 16, lossRun := 0, courtesyPending := true, queue := q
                    sending := none, tx := if p.dup then .off else idleTx q }
  if p.granted then p else pliOff p

/-! ## DUP_STATION, LISTEN and DORMANT entry (R80, R83, R91) -/

/-- An accepted frame with the station's own number (R83). -/
def duplicateFound (order : List Taker) (s : State) : State :=
  takeCondition order 16 (s.onPli fun p => { p with dup := true, tx := .off, sending := none })

/-- PLI takes LISTEN entry: the receiver starts in HUNT. -/
def pliOnListen (s : State) : State := s.onPli fun p => { p with rx := .hunt }

/-- PLI takes the DORMANT entry (R91). -/
def pliOnDormant (order : List Taker) (s : State) : State :=
  takeCondition order 17
    (s.onPli fun p => { p with window := [], rateFault := false, belowSince := none, stuck := false, rx := .hunt })

end Sys2Proof.Machine
end

