-- ==== Sys2Proof/Machine/Load.lean ====
section
/-! DEFINITION. What LOAD takes from the store (R4, R7, R21, R31, R47, R50, R108, R121, R141, R158, R161, R162, R170,
R176, R177, R191): the settings with their findings, the plant digest, the calibrations and the retained values. -/

namespace Sys2Proof.Machine

/-! ## Ranged fields -/

/-- A numeric field of the configuration record: its place, its width in bytes and its range. -/
structure Range where
  pos : Nat
  width : Nat
  lo : Nat
  hi : Nat
deriving DecidableEq, Repr

/-- The number a field carries. -/
def Range.raw (r : Range) (b : List Byte) : Nat := if r.width = 1 then byteAt b r.pos else u16At b r.pos

/-- The value held for a field: clamped to the nearer limit. -/
def Range.value (r : Range) (b : List Byte) : Nat := clampNat r.lo r.hi (r.raw b)

/-- Whether a field had to be clamped: a finding. -/
def Range.clamped (r : Range) (b : List Byte) : Bool := r.value b != r.raw b

/-- The `i`-th field of a group. -/
def fieldOf (g : List Range) (b : List Byte) (i : Nat) : Nat :=
  match g[i]? with
  | some r => r.value b
  | none => 0

/-- Fields standing one after another from a place, given width, least and greatest value (R191). -/
def layOut : Nat → List (Nat × Nat × Nat) → List Range
  | _, [] => []
  | pos, (w, lo, hi) :: rest => { pos := pos, width := w, lo := lo, hi := hi } :: layOut (pos + w) rest

/-- lean_delay, dormant_delay and dormant_check (R177). -/
def supRanges : List Range := layOut 1 [(1, 1, 60), (1, 1, 60), (1, 1, 240)]

/-- bus_float_mV. -/
def busRanges : List Range := layOut 6 [(2, 44000, 58000)]

/-- The table of R31. -/
def sacRanges : List Range :=
  layOut 8 [(2, 20, 500), (2, 200, 256), (2, 512, 1100), (2, 512, 1100), (2, 512, 1100), (2, 512, 1100), (1, 1, 240)]

/-- The table of R50. -/
def cscRanges : List Range :=
  layOut 21 [(1, 22, 26), (2, 2150, 2350), (2, 2250, 2450), (2, 2300, 2500), (2, 2000, 2250), (2, 2350, 2500),
    (2, 0, 6000), (2, 500, 990), (1, 5, 200), (1, 1, 120), (2, 60, 1440), (2, 7, 365), (2, 30, 480), (2, 300, 650),
    (2, 100, 3000), (2, 40000, 52000), (2, 38000, 50000), (2, 5, 600), (2, 44000, 56000), (2, 10, 3600)]

/-- The table of R108 apart from the limits by chg_max_dA. -/
def cbuRanges : List Range :=
  layOut 58 [(2, 0, 20000), (2, 0, 20000), (2, 0, 2000), (2, 0, 2000), (2, 10, 4000), (2, 0, 65535), (2, 0, 500),
    (2, 0, 65535), (2, 1, 400)]

/-- The table of R121. -/
def rotRanges : List Range :=
  layOut 76 [(2, 50, 4000), (1, 50, 100), (1, 0, 3), (1, 1, 240), (1, 1, 240), (2, 1, 5000)]

/-- The table of R141. -/
def gcoRanges : List Range :=
  layOut 84 [(2, 42000, 52000), (2, 100, 900), (2, 100, 900), (2, 500, 1000), (2, 30, 600), (1, 5, 240),
    (2, 60, 1440), (2, 10, 1440), (2, 0, 1000), (1, 1, 120), (2, 0, 1000), (1, 5, 120)]

/-- The thresholds of R161. -/
def aluRanges : List Range := layOut 105 [(2, 40000, 52000), (2, 54000, 60000), (2, 0, 900), (2, 250, 700)]

/-- The fields that are clamped to fixed ranges. -/
def allRanges : List Range :=
  supRanges ++ busRanges ++ sacRanges ++ cscRanges ++ cbuRanges ++ rotRanges ++ gcoRanges ++ aluRanges

/-! ## The groups of the configuration record -/

/-- The wake mask of its bit set (R191). -/
def maskOf (c : Nat) : WakeMask :=
  { acSense := c.testBit 0, line := c.testBit 1, sitePort := c.testBit 2, timer := c.testBit 3 }

def loadSup (b : List Byte) : SupSettings :=
  let v := fieldOf supRanges b
  { wired := byteAt b 0 != 0, leanDelay := v 0, dormantDelay := v 1, dormantCheck := v 2, mask := maskOf (byteAt b 4) }

def loadSac (b : List Byte) : SacSettings :=
  let v := fieldOf sacRanges b
  { capacityAh := v 0, eta := v 1, k1 := v 2, k2 := v 3, k3 := v 4, k4 := v 5, resyncHold := v 6 }

def loadCsc (b : List Byte) : CscSettings :=
  let v := fieldOf cscRanges b
  { cells := v 0, floatCell := v 1, absorbCell := v 2, eqCell := v 3, vminCell := v 4, vmaxCell := v 5, kUV := v 6
    bulkEntrySoc := v 7, tailDA := v 8, tailTime := v 9, absorbMax := v 10, eqIntervalDays := v 11, eqTime := v 12
    hotDC := v 13, imbalanceMV := v 14, lvdWarnMV := v 15, lvdMV := v 16, lvdDwellS := v 17, reconnectMV := v 18
    reconnectDwellS := v 19 }

/-- The charge budget unit's settings: chg_max_dA first, then three fields against it (R108). -/
def loadCbu (b : List Byte) : CbuSettings :=
  let v := fieldOf cbuRanges b
  { mainsLimit := v 0, genLimit := v 1, reserve := v 2, lostAllowance := v 3, chgMax := v 4, chgMin := min (v 4) (v 5)
    floatHold := min (v 4) (v 6), eqMax := min (v 4) (v 7), slew := v 8 }

/-- Whether one of the three fields was clamped against chg_max_dA. -/
def cbuClamped (b : List Byte) : Bool :=
  let v := fieldOf cbuRanges b
  decide (v 4 < v 5) || decide (v 4 < v 6) || decide (v 4 < v 7)

def loadRot (b : List Byte) : RotSettings :=
  let v := fieldOf rotRanges b
  { rectRating := v 0, targetPct := v 1, redundancy := v 2, runHold := v 3, restHold := v 4, swapGapH := v 5 }

def loadGco (b : List Byte) : GcoSettings :=
  let v := fieldOf gcoRanges b
  { startMV := v 0, startSoc := v 1, plantStartSoc := v 2, stopSoc := v 3, startTimeoutS := v 4, minRun := v 5
    maxRun := v 6, runRest := v 7, acceptMinDA := v 8, acceptTime := v 9, exerciseIntervalH := v 10
    exerciseDuration := v 11 }

/-- Where a point's entry stands, by id 1..32. -/
def pointPos (id : Nat) : Nat := 113 + 5 * (id - 1)

/-- A point's configuration (R162, R191). -/
def loadPoint (b : List Byte) (id : Nat) : PointConfig :=
  let at0 := pointPos id
  let tag := byteAt b (at0 + 3)
  { cls := pointClassOf (byteAt b at0), binding := bindingOf (byteAt b (at0 + 1)), latch := byteAt b (at0 + 2) != 0
    tag := if tag ≤ 63 then some tag else none, qualify := byteAt b (at0 + 4) }

/-- Whether a point's entry gives a finding: a class code outside the three, or a tag above 63 that is not none. -/
def pointFinding (b : List Byte) (id : Nat) : Bool :=
  let tag := byteAt b (pointPos id + 3)
  decide (2 < byteAt b (pointPos id)) || (decide (63 < tag) && tag != 255)

/-- The number of subscription slots used: a count above 16 is taken as 16 (R191). -/
def subCount (b : List Byte) : Nat := min 16 (byteAt b 273)

/-- One subscription slot; none where it is dropped (R170). -/
def loadSub (b : List Byte) (i : Nat) : Option Subscription :=
  let at0 := 274 + 3 * i
  match subTargetOf (byteAt b (at0 + 1)), lostDefaultOf (byteAt b (at0 + 2)) with
  | some target, some lost =>
    if byteAt b at0 ≤ 63 then some { tag := byteAt b at0, target := target, lostDefault := lost } else none
  | _, _ => none

def loadAlu (b : List Byte) : AluSettings :=
  let v := fieldOf aluRanges b
  { busLowMV := v 0, busHighMV := v 1, fuelLowPm := v 2, roomHotDC := v 3
    points := (List.range 32).map fun i => loadPoint b (i + 1)
    subs := (List.range (subCount b)).filterMap (loadSub b) }

/-- Every setting a configuration record gives. -/
def loadSettings (b : List Byte) : Settings :=
  { sup := loadSup b, unusedMid := (byteAt b 5).testBit 2, unusedFuel := (byteAt b 5).testBit 7
    busFloatMV := fieldOf busRanges b 0, sac := loadSac b, csc := loadCsc b, cbu := loadCbu b, rot := loadRot b
    gco := loadGco b, alu := loadAlu b }

/-- Whether the configuration record gives a finding for the supervisor's part of CONFIG: a clamped field, an UNUSED
mark on a channel that cannot be UNUSED, a bad class or tag, a tag not forwarded, a count above 16 or a dropped
subscription. -/
def configFindings (b : List Byte) : Bool :=
  allRanges.any (·.clamped b) || cbuClamped b || byteAt b 5 &&& 0x7B != 0 ||
    (List.range 32).any (fun i => pointFinding b (i + 1)) || tagsLeftOut (loadAlu b).points ||
    decide (16 < byteAt b 273) || (List.range (subCount b)).any fun i => (loadSub b i).isNone

/-! ## The plant digest (R176, R189) -/

/-- The bytes of the plant-wide settings in configuration-record order, each in its width (R189, R191). -/
def digestBytes (c : Settings) : List Byte :=
  leBytes 2 c.busFloatMV ++
  leBytes 2 c.cbu.mainsLimit ++ leBytes 2 c.cbu.genLimit ++ leBytes 2 c.cbu.reserve ++ leBytes 2 c.cbu.lostAllowance ++
  leBytes 2 c.rot.rectRating ++ leBytes 1 c.rot.targetPct ++ leBytes 1 c.rot.redundancy ++ leBytes 1 c.rot.runHold ++
  leBytes 1 c.rot.restHold ++ leBytes 2 c.rot.swapGapH ++
  leBytes 2 c.gco.plantStartSoc ++ leBytes 2 c.gco.stopSoc ++ leBytes 2 c.gco.exerciseIntervalH ++
  leBytes 1 c.gco.exerciseDuration

/-- The plant digest. -/
def plantDigest (c : Settings) : Nat := crc16 (digestBytes c)

/-! ## Calibrations (R4, R21) -/

/-- A calibration record's content as it is used: off16 clamped. -/
def calibrationOf (b : List Byte) : Calibration := { g := s16At b 0, off16 := clampInt (-2048) 2047 (s16At b 2) }

/-- Whether off16 had to be clamped: a finding. -/
def calibrationClamped (b : List Byte) : Bool := (calibrationOf b).off16 != s16At b 2

/-- What LOAD found for a record. -/
abbrev Found := StoreError ⊕ List Byte

/-- The calibration a record gives: none that corrects when it failed. -/
def calibrationFrom (f : Found) : Calibration :=
  match f with
  | .inl _ => .plain
  | .inr b => calibrationOf b

def foundBad (f : Found) : Bool := f.isLeft

/-- Whether a calibration record that passed gives a finding. -/
def calibrationFinding (f : Found) : Bool :=
  match f with
  | .inl _ => false
  | .inr b => calibrationClamped b

/-- The record code of a channel's calibration (R188). -/
def channelRecord : Ch → Nat
  | .busV => 1 | .strV => 2 | .midV => 3 | .strI => 4 | .rectI => 5 | .strT => 6 | .ambT => 7 | .fuel => 8

/-- The record code of an output's calibration (R188). -/
def outputRecord : Dac → Nat
  | .rectVref => 9 | .rectIlim => 10 | .strVref => 11 | .strIlim => 12

/-! ## What each block takes at the end of LOAD -/

/-- Whether a channel is configured out (R7). -/
def Settings.unused (c : Settings) : Ch → Bool
  | .midV => c.unusedMid
  | .fuel => c.unusedFuel
  | _ => false

/-- MCH at the end of LOAD (R4, R7, R21): the calibrations in use, the channels configured out, CAL_DEFAULT. -/
def mchAtLoad (c : Settings) (found : Nat → Found) (m : Mch) : Mch :=
  { m with
    channels := chMap (fun ch x =>
      { x with calibration := calibrationFrom (found (channelRecord ch))
               status := if c.unused ch then .unused else x.status }) m.channels
    calDefault := (List.range 12).any fun i => foundBad (found (i + 1)) }

/-- SDO at the end of LOAD (R21): each code recomputed from the target held. -/
def sdoAtLoad (found : Nat → Found) (x : Sdo) : Sdo :=
  { x with
    outputs := dacMap (fun d o =>
      driveTarget d o.target { o with calibration := calibrationFrom (found (outputRecord d)) }) x.outputs }

/-- Whether a kind of reset keeps the retained state in RAM (R175). -/
def ResetKind.keepsRam : ResetKind → Bool
  | .pin => true
  | .restart => true
  | _ => false

/-- The values of a valid retained record, where the start takes them (R47, R158). -/
def retainedFrom (f : Found) : Option Retained :=
  match f with
  | .inl _ => none
  | .inr b => some (decodeRetained b)

/-- SAC before its derivation at the end of LOAD (R47). -/
def sacRetained (a : SacSettings) (v : Option Retained) (x : Sac) : Sac :=
  match v with
  | some r => { x with q := r.q, r := r.r, synced := r.synced }
  | none => { x with q := cRated a / 2, r := 0, synced := false }

/-- CSC at the end of LOAD of a POWER_ON or BROWN_OUT start (R58, R59). -/
def cscRetained (v : Option Retained) (c : Csc) : Csc :=
  { c with eqDays := match v with | some r => r.eqDays | none => 0, dayClock := 0, eqDue := false }

/-- ROT at the end of LOAD of a POWER_ON or BROWN_OUT start (R138). -/
def rotRetained (v : Option Retained) (r : Rot) : Rot :=
  { r with runMinutes := match v with | some x => x.runMinutes | none => 0, runSeconds := 0 }

/-- GCO at the end of LOAD of a POWER_ON or BROWN_OUT start (R156, R158). -/
def gcoRetained (v : Option Retained) (g : Gco) : Gco :=
  match v with
  | some r => { g with lockSet := r.lockSet, epoch := r.epoch, unsettled := false, exMinutes := r.exMinutes
                       exSeconds := 0, state := if r.lockSet then .locked else .idle }
  | none => { g with lockSet := false, epoch := 0, unsettled := true, exMinutes := 0, exSeconds := 0
                     state := .idle }

/-- The retained values taken from the store, at the kinds of start that take them (R47, R58, R138, R158). DESIGN CHOICE
(log entry 40): a PIN start takes none, also when the PIN reset came before the end of LOAD of a POWER_ON or BROWN_OUT
start. -/
def takeRetained (a : SacSettings) (v : Option Retained) (s : State) : State :=
  if s.sup.resetKind.keepsRam then s
  else (((s.onSac (sacRetained a v)).onCsc (cscRetained v)).onRot (rotRetained v)).onGco (gcoRetained v)

/-- The STORE entries of LOAD: one for each record that failed (R176). DESIGN CHOICE (log entry 34): in the order in
which LOAD reads the records. -/
def storeEntries (found : Nat → Found) : List Nat :=
  (List.range 14).filterMap fun r =>
    match found r with
    | .inl e => some (twoParts r e.code)
    | .inr _ => none

/-- The end of LOAD apart from the log and LISTEN (R176, R177): settings, digest, calibrations, retained values and
the conditions LOAD decides; the periodic write timer starts. -/
def loadBlocks (found : Nat → Found) (s : State) : State :=
  let c := match found 0 with | .inr b => loadSettings b | .inl _ => .builtIn
  let findings :=
    (match found 0 with | .inr b => configFindings b | .inl _ => true) ||
      (List.range 12).any fun i => calibrationFinding (found (i + 1))
  let s := takeRetained c.sac (retainedFrom (found 13)) (s.onSettings fun _ => c)
  let s := ((s.onMch (mchAtLoad c found)).onSdo (sdoAtLoad found)).onSac (sacAtLoad c.sac)
  let s := s.onAlu fun a => { a with subValues := c.alu.subs.map fun _ => false }
  s.onSup fun x =>
    { x with configFault := foundBad (found 0), digest := plantDigest c
             configPart := findings || decide (x.number = 0), retainLost := foundBad (found 13)
             periodicAt := some (s.now + 900000) }

end Sys2Proof.Machine
end

