-- ==== Sys2Proof/Machine/Phases.lean ====
section
/-! DEFINITION. The supervisor's phases: resets, LISTEN, OPERATING, DORMANT and the wake, with what each block does on
them (R8, R17, R18, R23 to R25, R30, R175 to R182), and the supply monitor. -/

namespace Sys2Proof.Machine

/-! ## Resets (R175) -/

def ResetKind.cause : ResetKind → StartCause
  | .powerOn => .powerOn
  | .brownOut => .brownOut
  | .pin => .pin
  | .restart => .restart

/-- The store and the counter of spoiled writes over a reset: a write in flight is cut short (R183, R191). -/
def cutWrite (s : State) : List Host.Cell × Nat :=
  if s.sup.writing.isSome then (storeAfterCutWrite s.spoiled s.store, s.spoiled + 1) else (s.store, s.spoiled)

/-- The state after a POWER_ON or BROWN_OUT reset: RAM is lost. -/
def coldReset (kind : ResetKind) (s : State) : State :=
  { State.reset with
    sup := { Sup.reset with resetKind := kind, startCause := kind.cause }
    store := (cutWrite s).1, spoiled := (cutWrite s).2, pending := s.pending }

/-- The state after a PIN or RESTART reset: what the chapters keep in RAM is kept (R47, R58, R59, R138, R158, R174).
DESIGN CHOICE (log entry 1): k_T, C_eff, SoC, D and the line deficit, which R47 computes anew at the end of LOAD,
keep their values until then. DESIGN CHOICE (log entry 40): before the end of LOAD of a POWER_ON or BROWN_OUT start RAM
holds the values of log entry 1, and a PIN reset then keeps those. -/
def warmReset (kind : ResetKind) (s : State) : State :=
  { coldReset kind s with
    settings := s.settings
    sac := { s.sac with frozen := false, resyncDwell := 0, lastI := none }
    csc := { Csc.reset with eqDue := s.csc.eqDue, eqDays := s.csc.eqDays, dayClock := s.csc.dayClock }
    rot := { Rot.reset with runMinutes := s.rot.runMinutes, runSeconds := s.rot.runSeconds }
    gco := { Gco.reset with
             state := if s.gco.lockSet then .locked else .idle, lockSet := s.gco.lockSet, epoch := s.gco.epoch
             unsettled := s.gco.unsettled, exMinutes := s.gco.exMinutes, exSeconds := s.gco.exSeconds }
    alu := { Alu.reset with
             points := s.keptPoints, log := s.alu.log, overflow := s.alu.overflow, clockS := s.alu.clockS
             clockFrac := s.alu.clockFrac } }

/-- A reset of a kind. -/
def resetNow (kind : ResetKind) (s : State) : State :=
  if kind.keepsRam then warmReset kind s else coldReset kind s

/-- A PIN or BROWN_OUT cause: in HELD it prolongs HELD and leaves the recorded kind, and the monitor starts afresh. -/
def resetCause (kind : ResetKind) (s : State) : State :=
  if s.sup.phase = .held then s.onSup fun x => { x with lowCount := 0, armed := true, rearmCount := 0 }
  else resetNow kind s

/-! ## The supply monitor (R175) -/

/-- The low count after a check. -/
def lowCountNext (zone : SupplyZone) (n : Nat) : Nat :=
  match zone with
  | .belowReset => satInc 4 n
  | _ => 0

/-- A check of the supply: the counts move, and a supply warning triggers a write and disarms. -/
def checkSupply (zone : SupplyZone) (s : State) : State :=
  let s := s.onSup fun x => { x with lowCount := lowCountNext zone x.lowCount }
  match zone with
  | .good =>
    s.onSup fun x =>
      { x with rearmCount := satInc 1000 x.rearmCount, armed := x.armed || decide (1000 ≤ satInc 1000 x.rearmCount) }
  | _ =>
    let warns := s.sup.armed
    let s := s.onSup fun x => { x with rearmCount := 0, armed := false }
    if warns then triggerWrite s else s

/-! ## LISTEN entry (R18, R19, R102, R178) -/

/-- A contact held at 0 without qualification (R19). -/
def ContactInput.heldOff : ContactInput := { state := .inactive, candidate := none, count := 0 }

/-- MCH takes LISTEN entry: the first period is a FULL one; an unwired station holds its two sense inputs at 0. -/
def mchOnListen (wired : Bool) (m : Mch) : Mch :=
  { m with
    period := some 250
    contacts := if wired then m.contacts
                else { m.contacts with xferGen := .heldOff, genRunFb := .heldOff } }

/-- LISTEN entered, in FULL (R178), and handed to the blocks in any order; at a wake PTB clears its table, and at a
start ROT writes the demand and the target of its NO_INPUT entry (R122, R138; DESIGN CHOICE, log entry 37: at this
moment, at which the blocks begin to run). -/
def listenEntry (order : List Taker) (wake : Bool) (s : State) : State :=
  fan order [.mch, .pli, .ptb, .rot, .alu] (fun t s =>
    match t with
    | .mch => s.onMch (mchOnListen s.wired)
    | .pli => pliOnListen s
    | .ptb => if wake then clearPeers order s else s
    | .rot => if wake then s else rectDrive s
    | .alu => aluOnListen order s
    | _ => s)
    (s.onSup fun x => { x with phase := .listen, mode := .full, listenEnd := s.now + 3000, found := false })

/-! ## OPERATING entry (R23, R24, R178) -/

/-- An output at OPERATING entry: it takes its pending target. -/
def takeWaiting (d : Dac) (o : Output) : Output :=
  match o.waiting with
  | some v => { driveTarget d v o with waiting := none }
  | none => o

/-- SDO takes OPERATING entry (R23, R24). -/
def sdoOnOperating (s : State) : State :=
  let d := s.alu.demands
  s.onSdo fun x =>
    let outputs := dacMap takeWaiting x.outputs
    { x with
      live := true
      outputs := { outputs with
                   rectVref := { driveTarget .rectVref s.settings.busFloatMV outputs.rectVref with waiting := none } }
      relays := { rla := d.rla, rlb := d.rlb, out1 := d.out1, out2 := d.out2
                  genDemand := s.gco.state.demanding, rectEn := s.rot.state.enables } }

/-- The START and MODE entries of a wake (R181, R182), in this order. -/
def logWake (s : State) : State :=
  logEntry .mode 0 (twoParts Mode.dormant.code Mode.full.code)
    (logEntry .start 0 (twoParts s.sup.resetKind.code s.sup.startCause.code) s)

/-- HELLO queued (R178). -/
def enqueueHello (s : State) : State :=
  enqueue .hello (leBytes 2 s.sup.digest ++ [BitVec.ofNat 8 s.sup.startCause.code]) s

/-- OPERATING entered (R178): the entries of a TIMER wake, the grant, HELLO, STATUS and POINT, and then every block in
any order. DESIGN CHOICE (log entry 34): the START and MODE entries of a TIMER wake stand before every entry that a
block makes on taking OPERATING entry, such as STAGE, where R172 and R181 leave the order open. -/
def enterOperating (order : List Taker) (s : State) : State :=
  let s := if s.sup.startCause = .wakeTimer then logWake s else s
  let s := grantTransmission (s.onSup fun x => { x with phase := .operating })
  fan order [.sdo, .csc, .cbu, .gco, .alu, .sup] (fun t s =>
    match t with
    | .sdo => sdoOnOperating s
    | .csc => cscOnOperating order s
    | .cbu => cbuOnOperating s
    | .gco => gcoOnOperating s
    | .alu => recomputeRelays s
    | .sup => updateDormantDwell (updateLeanDwell s)
    | _ => s) (enqueuePoint (enqueueStatus (enqueueHello s)))

/-! ## DORMANT entry (R8, R17, R18, R25, R180, R182) -/

/-- A channel at DORMANT entry (R8). -/
def sleepChannel (c : Channel) : Channel :=
  { c with status := if c.status = .unused then .unused else .unknown, railCount := 0, recoveryCount := 0
           lastValid := none }

/-- MCH takes the DORMANT entry (R1, R8, R12, R17, R18). -/
def mchOnDormant (m : Mch) : Mch :=
  { m with channels := chMap (fun _ c => sleepChannel c) m.channels, period := none, ac := .reset
           contacts := everyContact .reset }

/-- SDO takes the DORMANT entry (R25): an operation in flight runs on. -/
def sdoOnDormant (x : Sdo) : Sdo :=
  { x with
    outputs := dacMap (fun d o => { driveTarget d (dacGet Sdo.reset.outputs d).target o with waiting := none })
      x.outputs
    relays := .start, live := false, waitingCommand := none }

/-- The points whose conditions MCH owns: SENSOR_FAULT and the general inputs. -/
def mchPoints : List Nat := [19, 25, 26, 27, 28, 29, 30, 31, 32]

/-- DORMANT entry handed to every block in any order, SDO's part first: a write that an owner makes on taking the
entry waits either way (R25). DESIGN CHOICE (log entry 34): MCH's points are taken by rising number. -/
def dormantEntry (order : List Taker) (s : State) : State :=
  fan order [.mch, .sac, .csc, .pli, .cbu, .rot, .gco, .alu] (fun t s =>
    match t with
    | .mch => takeConditions order mchPoints (s.onMch mchOnDormant)
    | .sac => s.onSac fun x => { x with resyncDwell := 0 }
    | .csc => s.onCsc cscOnDormant
    | .pli => pliOnDormant order s
    | .cbu => s.onCbu fun _ => .reset
    | .rot => rotOnDormant order s
    | .gco => gcoOnDormant order s
    | .alu => s.onAlu aluOnDormant
    | _ => s) (s.onSdo sdoOnDormant)

/-- The supervisor's own fields in DORMANT (R180, R182). -/
def supSleep (timer : Option Nat) (x : Sup) : Sup :=
  { x with phase := .dormant, mode := .dormant, leanSince := none, dormantSince := none, dormantHeld := false
           holdEnd := none, entryWait := none, periodicAt := none, wakeAt := timer, siteDiscard := false }

/-- When the wake timer expires, if TIMER is enabled. -/
def State.wakeTime (s : State) : Option Nat :=
  if s.settings.sup.mask.timer then some (s.now + s.settings.sup.dormantCheck * 60000) else none

/-- The station sleeps: the supervisor's fields, the relay demands of a changed mode, DORMANT entry, and a write.
DEDUCED (log entry 30): the write is triggered after the blocks have taken the entry (R180, R182). -/
def fallAsleep (order : List Taker) (s : State) : State :=
  triggerWrite (dormantEntry order (recomputeRelays (s.onSup (supSleep s.wakeTime))))

/-- The stop at the end of the entry wait (R180): transmission is withdrawn and the mode is logged. DESIGN CHOICE (log
entry 34): the MODE entry stands before those that the blocks make on taking DORMANT entry. -/
def stopStation (order : List Taker) (s : State) : State :=
  fallAsleep order
    (logEntry .mode 0 (twoParts s.sup.mode.code Mode.dormant.code) (withdrawTransmission s))

/-! ## The wake (R181) -/

/-- The first wake event of a sleeping station: the cause, FULL, the write timer, the START and MODE entries at once
unless the cause is TIMER, and LISTEN. DESIGN CHOICE (log entry 34): those two stand before the entries that the blocks
make on taking LISTEN entry. -/
def wakeUp (order : List Taker) (cause : StartCause) (s : State) : State :=
  if s.asleep then
    let s := s.onSup fun x =>
      { x with startCause := cause, wakeAt := none, mode := .full, periodicAt := some (s.now + 900000)
               siteDiscard := cause == .wakeSite }
    listenEntry order true (if cause = .wakeTimer then s else logWake s)
  else s

/-! ## The dormant dwell (R180) -/

/-- The dormant dwell is complete with the site hold stopped: CONFIG when no wake source is enabled, and otherwise
QUIET and the entry wait. -/
def tryDormant (order : List Taker) (s : State) : State :=
  if s.dormantComplete ∧ s.sup.dormantHeld = false ∧ s.sup.entryWait = none then
    let m := s.settings.sup.mask
    if m.acSense ∨ m.line ∨ m.sitePort ∨ m.timer then
      (enqueue .quiet [BitVec.ofNat 8 QuietReason.dormant.code] s).onSup fun x =>
        { x with entryWait := some (s.now + 1000) }
    else takeCondition order 18 (s.onSup fun x => { x with configPart := true, dormantHeld := true })
  else s

/-- FULL to LEAN when the lean dwell is complete with the site hold stopped (R179). -/
def tryLean (order : List Taker) (s : State) : State :=
  if s.operating ∧ s.sup.mode = .full ∧ s.leanComplete then changeMode order .lean s else s

/-! ## Every command -/

/-- What follows inside a step: a change found in CHECK enters OPERATING at once (R182). DESIGN CHOICE (log entry 39):
after every other taker of the same event, whatever the order operand, so that a STATUS request of that event comes
before the grant and is discarded. -/
def leaveCheck (order : List Taker) (s : State) : State :=
  if s.sup.phase = .check ∧ s.sup.found then enterOperating order s else s

/-- A command's effect: time passes, then `body`, then what follows of it. -/
def command (w : Moment) (body : State → State) (s : State) : Host.Outcome State Fault Refusal :=
  .next (leaveCheck w.order (body (advance w.elapsed s)))

end Sys2Proof.Machine
end

