-- ==== Sys2Proof/Machine/Reads.lean ====
section
/-! DEFINITION. The data of the four reads of the site port (R12, R29, R41, R68, R84, R92, R101, R120, R140, R159, R173,
R186, R190). Widths and orders that the manual leaves open are those of log entry 18. -/

namespace Sys2Proof.Machine

/-- A time of uptime in ms, sent in whole seconds as a 32-bit count (Units, R187). -/
def fieldTime (ms : Nat) : List Byte := fieldU 4 (ms / 1000)

/-- The ms left until a time, when one is set, in the `n` bytes that hold the timer's range (R187). -/
def fieldLeft (n now : Nat) (t : Option Nat) : List Byte := fieldOpt (fun x => fieldU n (x - now)) t

/-- The value of a channel in a read: two bytes (R190); signed where the quantity is. -/
def readingField : Ch → Int → List Byte
  | .strI, v => fieldS2 v
  | .strT, v => fieldS2 v
  | .ambT, v => fieldS2 v
  | _, v => if 0 ≤ v then fieldU 2 v.toNat else overWide 2 v

/-- One pair of a set: the status byte and the optional value. -/
def readingBytes (c : Ch) (r : Reading) : List Byte := fieldU 1 r.status.code ++ fieldOpt (readingField c) r.value

/-- A measurement set: its number, its period, the eight pairs (R12). -/
def setBytes (m : MeasurementSet) : List Byte :=
  fieldU 2 m.number ++ fieldU 2 m.period ++ (chList (chMap readingBytes m.pairs)).flatten

/-- The wake mask as a bit set (R191). -/
def WakeMask.code (m : WakeMask) : Nat := flagBits m.acSense m.line m.sitePort m.timer false false false false

/-- How long a dwell has run, held at its length in ms. -/
def dwellTime (now : Nat) (since : Option Nat) (minutes : Nat) : Nat :=
  match since with
  | some t => min (minutes * 60000) (now - t)
  | none => 0

/-- SUP's own fields (R186). DESIGN CHOICE (log entry 18): the retained-record writer's state is one byte, 0 IDLE and 1
WRITING, and the site hold is sent as the time left on it. -/
def supBytes (s : State) : List Byte :=
  let x := s.sup
  fieldU 1 x.phase.code ++ fieldU 1 x.mode.code ++ fieldU 1 x.resetKind.code ++ fieldU 1 x.startCause.code ++
  fieldU 1 x.number ++ fieldB x.configFault ++ fieldU 1 s.settings.sup.mask.code ++
  fieldU 4 (dwellTime s.now x.leanSince s.settings.sup.leanDelay) ++
  fieldU 4 (dwellTime s.now x.dormantSince s.settings.sup.dormantDelay) ++ fieldLeft 4 s.now x.holdEnd ++
  fieldB x.writing.isSome ++ fieldB x.pendingWrite ++ fieldU 2 x.badFrames ++ fieldU 2 x.overruns

/-- MCH's fields (R12): the last set, the AC state and frequency, the contact states. -/
def mchBytes (s : State) : List Byte :=
  fieldOpt setBytes s.mch.lastSet ++ fieldB s.mch.ac.valid ++ fieldU 2 s.mch.ac.frequency ++
  (contactList s.mch.contacts).flatMap fun c => fieldU 1 c.state.code

def outputBytes (o : Output) : List Byte := fieldU 2 o.target ++ fieldU 2 o.code ++ fieldOpt (fieldU 2) o.waiting

def operationBytes (o : ContactorOp) : List Byte :=
  fieldU 1 o.direction.code ++ fieldU 1 o.attempt ++ fieldTime o.pulseStart

def directionBytes (d : Direction) : List Byte := fieldU 1 d.code

/-- SDO's fields (R29). DESIGN CHOICE (log entry 18): a relay's position is one byte, 1 energised and 0 de-energised;
R188 gives it no code. -/
def sdoBytes (x : Sdo) : List Byte :=
  outputBytes x.outputs.rectVref ++ outputBytes x.outputs.rectIlim ++ outputBytes x.outputs.strVref ++
  outputBytes x.outputs.strIlim ++
  fieldB x.relays.rla ++ fieldB x.relays.rlb ++ fieldB x.relays.genDemand ++ fieldB x.relays.rectEn ++
  fieldB x.relays.out1 ++ fieldB x.relays.out2 ++
  fieldOpt operationBytes x.operation ++ fieldOpt directionBytes x.waitingCommand ++ fieldB x.contactorFault ++
  fieldOpt directionBytes x.lastFailed

/-- SAC's fields (R41). -/
def sacBytes (s : State) : List Byte :=
  let x := s.sac
  fieldU 4 x.q ++ fieldU 1 x.r ++ fieldB x.synced ++ fieldB x.frozen ++ fieldU 2 x.kT ++ fieldU 4 x.cEff ++
  fieldU 2 x.soc ++ fieldU 4 x.d ++ fieldU 2 s.reportedDeficit ++ fieldU 4 x.resyncDwell

/-- CSC's fields (R68). -/
def cscBytes (c : Csc) : List Byte :=
  fieldU 1 c.stage.code ++ fieldB c.hot ++ fieldU 4 c.stageTimer ++ fieldB c.eqDue ++ fieldU 2 c.eqDays ++
  fieldU 4 c.dayClock ++ fieldB c.imbalance ++ fieldB c.lvdWarn ++ fieldB (c.stage == .isolated) ++
  fieldU 4 c.lvdDwell ++ fieldU 4 c.reconnectDwell ++ fieldOpt directionBytes c.record ++ fieldU 2 c.target

/-- PLI's fields (R84). DESIGN CHOICE (log entry 18): courtesy pending is sent as 1, satisfied as 0. -/
def pliBytes (p : Pli) : List Byte :=
  fieldU 1 p.tx.code ++ fieldU 1 p.queue.length ++ (p.queue.flatMap fun x => fieldU 1 x.kind.code) ++
  fieldU 1 p.lossRun ++ fieldB p.courtesyPending ++ fieldU 1 p.sequence ++ fieldU 1 p.rx.code ++ fieldB p.stuck ++
  fieldU 1 p.window.length ++ fieldB p.rateFault ++ fieldB p.dup ++
  fieldU 2 p.errors ++ fieldU 2 p.losses ++ fieldU 2 p.driveFaults ++ fieldU 2 p.congestion

/-- PTB's fields (R101). -/
def ptbBytes (s : State) : List Byte :=
  fieldU 1 s.ptb.view.code ++ fieldB s.ptb.genRunning ++ fieldB s.peerLost ++ fieldB s.mismatch ++
  fieldB s.ptb.acFail ++ fieldU 1 s.ptb.peers.length ++
  s.ptb.peers.flatMap fun p => fieldU 1 p.station ++ fieldU 1 p.state.code

/-- The share case reported (R117, R118). -/
def Cbu.shareCase (x : Cbu) : ShareCase :=
  if x.fixed then .fixed
  else
    match x.computed with
    | some c => c.shareCase
    | none => .start

/-- CBU's fields (R120). DESIGN CHOICE (log entry 18): L, ΣD, D_self and the lost count are absent like Ilim, B and S
until a computation has given them. -/
def cbuBytes (x : Cbu) : List Byte :=
  let of (f : BudgetCalc → Nat) (n : Nat) : List Byte := fieldOpt (fun c => fieldU n (f c)) x.computed
  of (·.ilim) 2 ++ of (·.load) 4 ++ of (·.deficitSum) 4 ++ of (·.ownDeficit) 2 ++ of (·.lost) 1 ++ of (·.budget) 2 ++
  of (·.share) 2 ++ fieldU 1 x.shareCase.code ++ fieldU 2 x.applied ++ fieldOpt (fieldU 2) x.lastSet

def ownIntentBytes (i : OwnIntent) : List Byte :=
  fieldU 1 i.kind.code ++ fieldOpt (fun r : WakeReason => fieldU 1 r.code) i.reason ++ fieldU 2 i.runHours ++
  fieldTime i.queuedAt ++ fieldB i.sent

/-- ROT's fields (R140). DESIGN CHOICE (log entry 18): NREQ and T take two bytes, Nr and Nw one. The fail-clear timer
is sent as the time RECT_FAIL has been 0, in ms, up to the 30 s of R134. -/
def rotBytes (s : State) : List Byte :=
  let r := s.rot
  fieldU 1 r.state.code ++ fieldTime r.entryAt ++ fieldU 4 r.runMinutes ++ fieldU 1 r.runSeconds ++
  fieldU 2 s.ownHours ++ fieldU 2 r.lastNreq ++ fieldU 2 r.lastT ++ fieldU 1 r.lastNr ++ fieldU 1 r.lastNw ++
  fieldOpt ownIntentBytes r.intent ++ fieldLeft 2 s.now r.settleAt ++ fieldOpt (fieldU 1) r.ramp ++
  fieldOpt (fun t => fieldU 2 (min 30000 (s.now - t))) r.failSince ++ fieldU 2 r.swapClock

def demandBytes (d : Demand) : List Byte :=
  fieldU 1 d.reason.code ++ fieldTime d.raisedAt ++ fieldOpt fieldTime d.confirmedAt ++ fieldOpt fieldTime d.testEnd

/-- GCO's fields (R159). DESIGN CHOICE (log entry 18): the effective fuel-low and gen-inhibit are one byte each, 1
active and 0 inactive, and the exercise counter is sent as its minutes in two bytes and its seconds in one. -/
def gcoBytes (s : State) : List Byte :=
  let g := s.gco
  fieldU 1 g.state.code ++ fieldOpt demandBytes g.demand ++ fieldU 1 g.lockSet.toNat ++ fieldU 1 g.epoch ++
  fieldU 1 g.unsettled.toNat ++ fieldU 1 g.busDwell ++ fieldU 1 g.ownDwell ++ fieldU 1 g.plantDwell ++
  fieldU 2 g.acceptDwell ++ fieldLeft 4 s.now g.startAt ++ fieldLeft 4 s.now g.restAt ++ fieldU 2 g.exMinutes ++
  fieldU 1 g.exSeconds ++ fieldOpt (fieldU 4) g.runLength ++ fieldB g.fuelLow ++ fieldB g.inhibit

/-- ALU's fields (R173). DESIGN CHOICE (log entry 18): each of its four relay demands is one byte, 1 energised and 0
de-energised, and the effective inputs one byte each, 1 active and 0 inactive; R188 gives them no codes. -/
def aluBytes (s : State) : List Byte :=
  let a := s.alu
  fieldB a.busLow ++ fieldB a.busHigh ++ fieldB a.fuelAnalog ++ fieldB a.roomHot ++ fieldB a.fuelFn ++
  fieldB a.effFuel ++ fieldB a.effInhibit ++ fieldB a.demands.rla ++ fieldB a.demands.rlb ++ fieldB a.demands.out1 ++
  fieldB a.demands.out2 ++ fieldU 1 a.subValues.length ++ a.subValues.flatMap fieldB ++
  fieldLeft 2 s.now a.pointTimerAt ++ fieldU 1 a.log.length ++ fieldU 1 a.overflow ++ fieldU 4 a.clockS

/-- The data of STATUS_READ (R190): SUP's own fields, then each block's in the order of the chapters. -/
def statusData (s : State) : List Byte :=
  supBytes s ++ mchBytes s ++ sdoBytes s.sdo ++ sacBytes s ++ cscBytes s.csc ++ pliBytes s.pli ++ ptbBytes s ++
  cbuBytes s.cbu ++ rotBytes s ++ gcoBytes s ++ aluBytes s

def peerStatusBytes (x : PeerStatus) : List Byte := encodeStatus x.content ++ fieldTime x.arrival

def intentBytes (i : Intent) : List Byte :=
  fieldU 1 i.kind.code ++ fieldU 2 i.runHours ++ fieldTime i.arrival ++ [i.detail]

/-- The data of PEER_READ (R92, R101, R190): the record's fields, then its effective state and run hours. -/
def peerData (p : PeerRecord) : List Byte :=
  fieldU 1 p.state.code ++ fieldU 1 p.lastSequence ++ fieldU 1 p.heard ++ fieldU 2 p.gaps ++ fieldTime p.lastHeard ++
  fieldU 1 p.intervalS ++ fieldOpt peerStatusBytes p.status ++ fieldOpt intentBytes p.intent ++
  fieldU 1 p.points.length ++ (p.points.flatMap fun x => fieldU 1 x.1 ++ fieldB x.2) ++
  fieldOpt (fun b : Bool => fieldU 1 b.toNat) p.digestMatch ++
  fieldOpt (fun c : StartCause => fieldU 1 c.code) p.startCause ++
  fieldOpt (fun q : QuietReason => fieldU 1 q.code) p.quietReason ++
  fieldOpt (fun e : RectState × Nat => fieldU 1 e.1.code ++ fieldU 2 e.2) (effective p)

/-- The seconds left on a qualify timer, rounded up; 0 when it is stopped (R190). -/
def secondsLeft (now : Nat) (t : Option Nat) : Nat :=
  match t with
  | some x => ceilDiv (x - now) 1000
  | none => 0

/-- One point of POINTS_READ: 7 bytes (R190). -/
def pointBytes (now : Nat) (x : PointConfig × Point) : List Byte :=
  fieldB x.2.condition ++ fieldU 1 x.2.state.code ++ fieldB x.2.acked ++ fieldU 1 x.1.cls.code ++
  fieldU 1 x.1.binding.code ++ fieldU 1 (x.1.tag.getD 255) ++ fieldU 1 (secondsLeft now x.2.timerEnd)

/-- The data of POINTS_READ (R186, R190). -/
def pointsData (s : State) : List Byte :=
  (s.configuredPoints.flatMap (pointBytes s.now)) ++ fieldU 1 (s.classCount .urgent) ++
  fieldU 1 (s.classCount .nonUrgent)

/-- The data of LOG_READ (R173, R190). -/
def logData (s : State) : List Byte :=
  let entries := s.alu.log.take 8
  fieldU 1 entries.length ++ fieldU 1 s.alu.overflow ++ entries.flatMap encodeLogEntry

end Sys2Proof.Machine
end

