-- ==== Sys2Proof/Machine/Drives.lean ====
section
/-! DEFINITION. The meanings of the contactor drive's events: PULSE_END and CONFIRMATION_WINDOW_EXPIRY (R26, R27). -/

namespace Sys2Proof.Machine

/-- PULSE_END (R26): 100 ms after the pulse start the drive goes inactive. -/
def execPulseEnd (w : Moment) (s : State) : Host.Outcome State Fault Refusal :=
  command w (fun s =>
    match s.sdo.operation with
    | some op =>
      if op.pulseStart + 100 ≤ s.now then
        s.onSdo fun x => { x with operation := some { op with driven := false } }
      else s
    | none => s) s

/-- CONFIRMATION_WINDOW_EXPIRY (R27): 500 ms after the present attempt's pulse start. -/
def execConfirmationWindowExpiry (w : Moment) (s : State) : Host.Outcome State Fault Refusal :=
  command w (fun s =>
    match s.sdo.operation with
    | some op => if op.pulseStart + 500 ≤ s.now then sdoOnWindow w.order op s else s
    | none => s) s

end Sys2Proof.Machine
end

