-- ==== Sys2Proof/Machine/Measurement.lean ====
section
/-! DEFINITION. The meanings of the measurement chain's events: MEASUREMENT_SET, AC_EDGE, EDGE_TIMEOUT,
CONTACT_SAMPLE, CONTACT_QUALIFIED (R1 to R19), with the hand-offs of each. -/

namespace Sys2Proof.Machine

/-! ## A completed period (R1 to R13) -/

/-- A channel VALID with a new last VALID value. -/
def Channel.fresh (e : Int) (c : Channel) : Channel :=
  { c with status := .valid, railCount := 0, recoveryCount := 0, lastValid := some e }

/-- A channel after a sample: a RAIL sample or not, with the engineering value it would publish (R8 to R10). -/
def channelTakes (rail : Bool) (e : Int) (c : Channel) : Channel :=
  match c.status, rail with
  | .unused, _ => c
  | .failed, true => { c with recoveryCount := 0 }
  | .failed, false => if c.recoveryCount + 1 < 8 then { c with recoveryCount := c.recoveryCount + 1 } else c.fresh e
  | .held, true =>
    if c.railCount + 1 < 8 then { c with railCount := c.railCount + 1 }
    else { c with status := .failed, railCount := 8, recoveryCount := 0 }
  | _, true => { c with status := .held, railCount := 1 }
  | _, false => c.fresh e

/-- A channel after its sum of `n` conversions (R3 to R6). -/
def channelSample (n : Nat) (ch : Ch) (sum : Nat) (c : Channel) : Channel :=
  let a := averageCode n sum
  channelTakes (isRail a) (engineering ch (correctedCode c.calibration a)) c

/-- The pair a set carries for a channel (R8, R10, R12). -/
def Channel.reading (c : Channel) : Reading :=
  match c.status with
  | .unused => { status := .unused, value := none }
  | .valid => { status := .valid, value := c.lastValid }
  | .failed => { status := .failed, value := c.lastValid }
  | _ => { status := .held, value := c.lastValid }

/-- Whether a sum can come from `n` conversions of a channel; an UNUSED channel has none (R1, R7). -/
def sumPossible (n : Nat) (c : Channel) (sum : Nat) : Bool := c.status == .unused || sum ≤ 4095 * n

/-- Whether every sum of a period is possible. -/
def sumsPossible (n : Nat) (m : Mch) (sums : PerChannel Nat) : Bool :=
  (chList (chMap (fun ch c => sumPossible n c (chGet sums ch)) m.channels)).all (·)

/-- MCH at the end of a period of `p` ms: the channels, the completed set, and the next period in the mode now in
force (R1, R2, R12). -/
def mchEndPeriod (p : Nat) (mode : Mode) (sums : PerChannel Nat) (m : Mch) : Mch :=
  let channels := chMap (fun ch c => channelSample (conversions p) ch (chGet sums ch) c) m.channels
  { m with
    channels := channels, nextNumber := (m.nextNumber + 1) % 65536, period := periodOf mode
    lastSet := some { number := m.nextNumber, period := p, pairs := chMap (fun _ c => c.reading) channels } }

/-- A completed set delivered to SAC, CSC, CBU and ALU, with MCH's own SENSOR_FAULT, in any order (R10, R13). -/
def deliverSet (order : List Taker) (p number : Nat) (s : State) : State :=
  fan order [.mch, .sac, .csc, .cbu, .alu] (fun t s =>
    match t with
    | .mch => takeCondition order 19 s
    | .sac => sacOnSet order p s
    | .csc => cscOnSet order p s
    | .cbu => cbuOnSet p number s
    | .alu => aluOnSet order s
    | _ => s) s

/-- The end of a period, while periods run. -/
def endPeriod (order : List Taker) (sums : PerChannel Nat) (s : State) : State :=
  match s.mch.period with
  | some p =>
    if s.awake then deliverSet order p s.mch.nextNumber (s.onMch (mchEndPeriod p s.sup.mode sums)) else s
  | none => s

/-- Whether the period in progress can give these sums. -/
def State.sumsFit (s : State) (sums : PerChannel Nat) : Bool :=
  match s.mch.period with
  | some p => sumsPossible (conversions p) s.mch sums
  | none => true

/-- MEASUREMENT_SET (R1 to R13). -/
def execMeasurementSet (w : Moment) (sums : PerChannel Nat) (s : State) : Host.Outcome State Fault Refusal :=
  if s.sumsFit sums then command w (endPeriod w.order sums) s else .fault .impossibleSum

/-! ## The AC sense capture (R14 to R17) -/

/-- Whether the capture runs: while awake, and asleep when AC_SENSE is an enabled wake source. -/
def State.capturing (s : State) : Bool := s.awake || (s.asleep && s.settings.sup.mask.acSense)

/-- The capture on a rising edge at `t` µs (R14, R16). -/
def acOnEdge (t : Nat) (a : AcCapture) : AcCapture :=
  match a.reference with
  | none => { a with reference := some t }
  | some r =>
    let p := t - r
    if acInWindow p then
      let count := satInc 8 a.count
      let valid := a.valid || count == 8
      { reference := some t, count := count, valid := valid, lastPeriod := p
        frequency := if valid then acFrequency p else 0 }
    else { a with reference := some t, count := 0, valid := false, frequency := 0 }

/-- The capture at the edge timeout (R15). -/
def acOnTimeout (a : AcCapture) : AcCapture := { a with reference := none, count := 0, valid := false, frequency := 0 }

/-- The capture changed; a change of the AC state is handed to the peer table and, asleep, is the AC_SENSE wake
(R16, R17), in any order. -/
def acMove (order : List Taker) (f : AcCapture → AcCapture) (s : State) : State :=
  let was := s.mch.ac.valid
  let s := s.onMch fun m => { m with ac := f m.ac }
  if was = s.mch.ac.valid then s
  else
    fan order [.ptb, .sup] (fun t s =>
      match t with
      | .ptb => recomputeViews order s
      | .sup => if s.mch.ac.valid then wakeUp order .wakeAc s else s
      | _ => s) s

/-- AC_EDGE (R14). -/
def execAcEdge (w : Moment) (s : State) : Host.Outcome State Fault Refusal :=
  command w (fun s => if s.capturing then acMove w.order (acOnEdge s.clock) s else s) s

/-- EDGE_TIMEOUT (R15): 40 ms after the reference edge. -/
def execEdgeTimeout (w : Moment) (s : State) : Host.Outcome State Fault Refusal :=
  command w (fun s =>
    if s.capturing ∧ due (s.mch.ac.reference.map (· + 40000)) s.clock then acMove w.order acOnTimeout s else s) s

/-! ## Contact inputs (R18, R19) -/

/-- The qualified state of a level. -/
def qualifiedOf (level : Bool) : Qualified := if level then .active else .inactive

/-- An input at a sample (R18). -/
def sampleContact (level : Bool) (c : ContactInput) : ContactInput :=
  if c.state = qualifiedOf level then { c with candidate := none, count := 0 }
  else if c.candidate = some level then { c with count := satInc 5 c.count }
  else { c with candidate := some level, count := 1 }

/-- Whether an input is sampled: an unwired station does not sample its two sense inputs (R19). -/
def sampled (wired : Bool) : Contact → Bool
  | .xferGen => wired
  | .genRunFb => wired
  | _ => true

/-- CONTACT_SAMPLE (R18). -/
def execContactSample (w : Moment) (levels : PerContact Bool) (s : State) : Host.Outcome State Fault Refusal :=
  command w (fun s =>
    if s.awake then
      s.onMch fun m =>
        { m with contacts := contactMap (fun i c =>
            if sampled s.wired i then sampleContact (contactGet levels i) c else c) m.contacts }
    else s) s

/-- The id of the point of a general input (R160). -/
def inputPoint : Contact → Nat
  | .in1 => 25 | .in2 => 26 | .in3 => 27 | .in4 => 28 | .in5 => 29 | .in6 => 30 | .in7 => 31 | .in8 => 32
  | _ => 0

/-- A qualified change of CTR_FB handed to SDO, CSC and PLI in any order (R19, R89). -/
def handCtrFb (order : List Taker) (s : State) : State :=
  fan order [.sdo, .csc, .pli] (fun t s =>
    match t with
    | .sdo => sdoOnCtrFb order s
    | .csc =>
      match s.position with
      | some p => cscOnCtrFb order p s
      | none => s
    | .pli => requestStatus s
    | _ => s) s

/-- A qualified change handed to the input's consumers, in any order (R19). -/
def handContact (order : List Taker) (i : Contact) (s : State) : State :=
  match i with
  | .xferGen => recomputeViews order s
  | .genRunFb => recomputeViews order s
  | .rectAcok =>
    fan order [.ptb, .rot] (fun t s =>
      match t with
      | .ptb => recomputeViews order s
      | .rot => rotOnAcok order s
      | _ => s) s
  | .rectFail => rotOnFail order s
  | .ctrFb => handCtrFb order s
  | i => takeCondition order (inputPoint i) s

/-- An input whose candidate count has reached 5 takes its candidate (R18). -/
def qualifyContact (order : List Taker) (i : Contact) (s : State) : State :=
  let c := contactGet s.mch.contacts i
  match c.candidate with
  | some level =>
    if s.awake ∧ c.count = 5 then
      handContact order i
        (s.onMch fun m =>
          { m with contacts := contactSet m.contacts i
                     { state := qualifiedOf level, candidate := none, count := 0 } })
    else s
  | none => s

/-- CONTACT_QUALIFIED (R18, R19). -/
def execContactQualified (w : Moment) (input : Contact) (s : State) : Host.Outcome State Fault Refusal :=
  command w (qualifyContact w.order input) s

end Sys2Proof.Machine
end

