-- ==== Sys2Proof/Machine/Notes.lean ====
section
/-! DEFINITION. The meanings of the received notes and of the peer table's timers: STATUS_NOTE, GEN_NOTE, REST_NOTE,
WAKE_NOTE, POINT_NOTE, HELLO_NOTE, QUIET_NOTE, AGING_CHECK, INTENT_EXPIRY (R80, R83, R91 to R100). -/

namespace Sys2Proof.Machine

/-- A frame that the receiver has taken, with its sender, its kind and its payload length (R80): a station number of 0
or a length the kind does not allow discards it; asleep it is the LINE wake (R91); the own number is a duplicate
(R83); any other is a note for the peer table, and counts as a change after a TIMER wake when LINE is enabled
(R182). -/
def hearNote (order : List Taker) (station seq length : Nat) (n : State → NoteContent) (s : State) : State :=
  if station = 0 ∨ lengthAllowed (n s).kind length = false then discardFrame order s
  else if s.canReceive = false then s
  else if s.asleep then wakeUp order .wakeLine (frameSeen s)
  else if station = s.sup.number then duplicateFound order (frameSeen s)
  else
    let s := (frameSeen s).onSup fun x => { x with found := x.found || s.settings.sup.mask.line }
    takeNote order station seq (n s) s

/-- STATUS_NOTE (R94). -/
def execStatusNote (w : Moment) (station seq : BitVec 4) (payload : List Byte) (s : State) :
    Host.Outcome State Fault Refusal :=
  command w (hearNote w.order station.toNat seq.toNat payload.length
    (statusContent w.order station.toNat payload)) s

/-- GEN_NOTE (R95, R155). -/
def execGenNote (w : Moment) (station seq : BitVec 4) (event epoch : Byte) (s : State) :
    Host.Outcome State Fault Refusal :=
  command w (hearNote w.order station.toNat seq.toNat 2
    (fun _ => genContent w.order station.toNat event.toNat epoch.toNat)) s

/-- REST_NOTE (R95, R96, R127). -/
def execRestNote (w : Moment) (station seq : BitVec 4) (hours : BitVec 16) (flags : Byte) (s : State) :
    Host.Outcome State Fault Refusal :=
  command w (hearNote w.order station.toNat seq.toNat 3
    (restContent w.order station.toNat hours.toNat flags)) s

/-- WAKE_NOTE (R95, R96). -/
def execWakeNote (w : Moment) (station seq : BitVec 4) (hours : BitVec 16) (reason : Byte) (s : State) :
    Host.Outcome State Fault Refusal :=
  command w (hearNote w.order station.toNat seq.toNat 3 (wakeContent hours.toNat reason)) s

/-- POINT_NOTE (R97). -/
def execPointNote (w : Moment) (station seq : BitVec 4) (pairs : List (Byte × Byte)) (s : State) :
    Host.Outcome State Fault Refusal :=
  command w (hearNote w.order station.toNat seq.toNat (2 * pairs.length) (fun _ => pointContent pairs)) s

/-- HELLO_NOTE (R95, R99, R100). -/
def execHelloNote (w : Moment) (station seq : BitVec 4) (digest : BitVec 16) (cause : Byte) (s : State) :
    Host.Outcome State Fault Refusal :=
  command w (hearNote w.order station.toNat seq.toNat 3 (helloContent digest.toNat cause)) s

/-- QUIET_NOTE (R95). -/
def execQuietNote (w : Moment) (station seq : BitVec 4) (reason : Byte) (s : State) :
    Host.Outcome State Fault Refusal :=
  command w (hearNote w.order station.toNat seq.toNat 1 (fun _ => quietContent reason)) s

/-- AGING_CHECK (R98). -/
def execAgingCheck (w : Moment) (s : State) : Host.Outcome State Fault Refusal :=
  command w (fun s => if s.awake then ageRecords w.order s else s) s

/-- INTENT_EXPIRY (R96). -/
def execIntentExpiry (w : Moment) (station : BitVec 4) (s : State) : Host.Outcome State Fault Refusal :=
  command w (fun s => if s.awake then expireIntent station.toNat s else s) s

end Sys2Proof.Machine
end

