-- ==== Sys2Proof/Machine/PlantLine.lean ====
section
/-! DEFINITION. The meanings of the plant line's events apart from the notes: FRAME_BEGIN, FRAME_COMPLETE,
CONTENTION_LOSS, DRIVE_FAULT, LINE_STUCK, LINE_STUCK_CLEAR, LINE_ERROR, FAULT_TIME_EXPIRY, RATE_FAULT_CLEAR,
LINE_IDLE, COURTESY_SATISFIED, DORMANT_LINE_FRAME, STATUS_PERIODIC_TIMER, STATUS_SPACING_END (R70 to R91). -/

namespace Sys2Proof.Machine

/-- FRAME_BEGIN (R72, R73, R78, R79). -/
def execFrameBegin (w : Moment) (s : State) : Host.Outcome State Fault Refusal := command w beginFrame s

/-- The completion of a QUIET, by the reason its frame carried: the entry wait ends in the stop (R180), and a restart
wait waits for it no longer (R184). -/
def quietCompleted (order : List Taker) (reason : Nat) (s : State) : State :=
  if reason = QuietReason.dormant.code ∧ s.sup.entryWait.isSome then stopStation order s
  else if reason = QuietReason.restart.code then
    s.onSup fun x => { x with restartWait := x.restartWait.map fun _ => { quietBy := none } }
  else s

/-- A completion handed to the block that queues its kind (R85, R87). -/
def handCompletion (order : List Taker) (frame : List Byte) (kind : NoteKind) (s : State) : State :=
  match kind with
  | .rest => rotOnSent .rest s
  | .wake => rotOnSent .wake s
  | .quiet => quietCompleted order (byteAt frame 3) s
  | _ => s

/-- The frame on the line completes (R85). -/
def completeFrame (order : List Taker) (s : State) : State :=
  match s.pli.tx, s.pli.queue, s.pli.sending with
  | .send, x :: _, some frame => handCompletion order frame x.kind (s.onPli completeSlot)
  | _, _, _ => s

/-- FRAME_COMPLETE (R73, R77, R85). -/
def execFrameComplete (w : Moment) (s : State) : Host.Outcome State Fault Refusal := command w (completeFrame w.order) s

/-- CONTENTION_LOSS (R74, R77). -/
def execContentionLoss (w : Moment) (s : State) : Host.Outcome State Fault Refusal := command w loseContention s

/-- DRIVE_FAULT (R75). -/
def execDriveFault (w : Moment) (s : State) : Host.Outcome State Fault Refusal := command w (failDrive w.order) s

/-- LINE_STUCK (R78). -/
def execLineStuck (w : Moment) (s : State) : Host.Outcome State Fault Refusal := command w (lineStuckNow w.order) s

/-- LINE_STUCK_CLEAR (R78). -/
def execLineStuckClear (w : Moment) (s : State) : Host.Outcome State Fault Refusal :=
  command w (lineStuckEnd w.order) s

/-- LINE_ERROR (R80): every cause has the same effect, once for the frame. -/
def execLineError (w : Moment) (_cause : LineErrorCause) (s : State) : Host.Outcome State Fault Refusal :=
  command w (discardFrame w.order) s

/-- FAULT_TIME_EXPIRY (R82). -/
def execFaultTimeExpiry (w : Moment) (s : State) : Host.Outcome State Fault Refusal := command w faultTimeOut s

/-- RATE_FAULT_CLEAR (R82). -/
def execRateFaultClear (w : Moment) (s : State) : Host.Outcome State Fault Refusal :=
  command w (rateFaultEnd w.order) s

/-- LINE_IDLE (R72, R80): not while the station's own frame is on the line, which its receiver does not take (R81). -/
def execLineIdle (w : Moment) (s : State) : Host.Outcome State Fault Refusal :=
  command w (fun s =>
    if s.receiving ∧ s.pli.rx = .hunt ∧ s.pli.tx ≠ .send then s.onPli fun p => { p with rx := .ready } else s) s

/-- COURTESY_SATISFIED (R73). DESIGN CHOICE (log entry 38): a station asleep, which sends nothing, takes no count of
recessive bits, and a frame it hears satisfies courtesy (`frameSeen`). -/
def execCourtesySatisfied (w : Moment) (s : State) : Host.Outcome State Fault Refusal :=
  command w (fun s => if s.awake then s.onPli fun p => { p with courtesyPending := false } else s) s

/-- A frame heard asleep (R91, R181): one that passes every check is the LINE wake, any other is dropped uncounted. -/
def hearAsleep (order : List Taker) (frame : List Byte) (s : State) : State :=
  if s.asleep ∧ s.canReceive then
    if framePasses frame then wakeUp order .wakeLine (frameSeen s) else frameSeen s
  else s

/-- DORMANT_LINE_FRAME (R91, R181). -/
def execDormantLineFrame (w : Moment) (frame : List Byte) (s : State) : Host.Outcome State Fault Refusal :=
  command w (hearAsleep w.order frame) s

/-- STATUS_PERIODIC_TIMER (R88). -/
def execStatusPeriodicTimer (w : Moment) (s : State) : Host.Outcome State Fault Refusal :=
  command w (fun s => if due s.pli.statusDue s.now then enqueueStatus s else s) s

/-- STATUS_SPACING_END (R89). -/
def execStatusSpacingEnd (w : Moment) (s : State) : Host.Outcome State Fault Refusal :=
  command w (fun s =>
    if due s.pli.spacingEnd s.now then
      if s.pli.deferred then enqueueStatus s else s.onPli fun p => { p with spacingEnd := none }
    else s) s

end Sys2Proof.Machine
end

