-- ==== Sys2Proof/Machine/Resets.lean ====
section
/-! DEFINITION. The meanings of the resets, the supply monitor and the start phases: POWER_ON, PIN, SUPPLY_CHECK,
BROWN_OUT, HELD_END, LOAD_END, LISTEN_END, CHECK_END, RESTART_RESET (R175 to R178, R182, R184). -/

namespace Sys2Proof.Machine

/-- POWER_ON (R175): taken in every phase. -/
def execPowerOn (w : Moment) (s : State) : Host.Outcome State Fault Refusal := command w (resetNow .powerOn) s

/-- PIN (R175). -/
def execPin (w : Moment) (s : State) : Host.Outcome State Fault Refusal := command w (resetCause .pin) s

/-- SUPPLY_CHECK (R175). -/
def execSupplyCheck (w : Moment) (zone : SupplyZone) (s : State) : Host.Outcome State Fault Refusal :=
  command w (checkSupply zone) s

/-- BROWN_OUT (R175): at a low count of 4. -/
def execBrownOut (w : Moment) (s : State) : Host.Outcome State Fault Refusal :=
  command w (fun s => if s.sup.lowCount = 4 then resetCause .brownOut s else s) s

/-- HELD_END (R175, R176): STRAPS reads the station number, and LOAD follows. -/
def execHeldEnd (w : Moment) (straps : BitVec 4) (s : State) : Host.Outcome State Fault Refusal :=
  command w (fun s =>
    if s.sup.phase = .held then s.onSup fun x => { x with phase := .load, number := straps.toNat } else s) s

/-- The end of LOAD (R176): the blocks, the START entry, the STORE entries, a write triggered meanwhile, and LISTEN.
DESIGN CHOICE (log entry 34): those entries stand before the ones that the blocks make on taking LISTEN entry. -/
def endLoad (order : List Taker) (programmed : List (Nat × Byte)) (silent : List Nat) (s : State) : State :=
  let s := s.onStore fun m => storeProgram m programmed
  let found := readRecord s.store silent
  let s := loadBlocks found s
  let s := logEntry .start 0 (twoParts s.sup.resetKind.code s.sup.startCause.code) s
  let s := (storeEntries found).foldl (fun s v => logEntry .store 0 v s) s
  listenEntry order false (beginPendingWrite s)

/-- LOAD_END (R176 to R178). -/
def execLoadEnd (w : Moment) (programmed : List (Nat × Byte)) (silent : List Nat) (s : State) :
    Host.Outcome State Fault Refusal :=
  command w (fun s => if s.sup.phase = .load then endLoad w.order programmed silent s else s) s

/-- LISTEN_END (R178, R182): OPERATING, or CHECK after a TIMER wake that found no change. -/
def execListenEnd (w : Moment) (s : State) : Host.Outcome State Fault Refusal :=
  command w (fun s =>
    if s.sup.phase = .listen ∧ s.sup.listenEnd ≤ s.now then
      if s.sup.startCause = .wakeTimer ∧ s.sup.found = false then
        s.onSup fun x => { x with phase := .check, checkEnd := s.now + 60000 }
      else enterOperating w.order s
    else s) s

/-- CHECK_END (R182). -/
def execCheckEnd (w : Moment) (s : State) : Host.Outcome State Fault Refusal :=
  command w (fun s => if s.sup.phase = .check ∧ s.sup.checkEnd ≤ s.now then fallAsleep w.order s else s) s

/-- Whether the reset of a waiting RESTART is taken (R184). -/
def State.restartDue (s : State) : Bool :=
  match s.sup.restartWait with
  | some r =>
    s.sup.writing.isNone && !s.sup.pendingWrite &&
      (match r.quietBy with
       | some t => t ≤ s.now
       | none => true)
  | none => false

/-- RESTART_RESET (R184). -/
def execRestartReset (w : Moment) (s : State) : Host.Outcome State Fault Refusal :=
  command w (fun s => if s.restartDue then resetNow .restart s else s) s

end Sys2Proof.Machine
end

