-- ==== Sys2Proof/Machine/Timers.lean ====
section
/-! DEFINITION. The meanings of the ticks and timers of ROT, GCO, ALU and the supervisor: ROTATION_TICK,
SETTLE_EXPIRY, RAMP_STEP, FAIL_CLEAR_EXPIRY; GEN_CHECK, START_TIMEOUT, REST_TIMER_EXPIRY, EPOCH_SETTLE;
QUALIFY_EXPIRY, POINT_TIMER; LEAN_DWELL, SITE_HOLD_END, DORMANT_DWELL, ENTRY_WAIT_TIMEOUT, WAKE_TIMER,
SITE_PORT_WAKE, PERIODIC_WRITE_TIMER, RETAINED_WRITE_END. A timer acts when it runs and its time has come. -/

namespace Sys2Proof.Machine

/-! ## Rotation (R123, R126, R128, R131, R134) -/

/-- ROTATION_TICK (R123, R126). -/
def execRotationTick (w : Moment) (s : State) : Host.Outcome State Fault Refusal :=
  command w (fun s => if s.awake then rotTick w.order s else s) s

/-- SETTLE_EXPIRY (R128). -/
def execSettleExpiry (w : Moment) (s : State) : Host.Outcome State Fault Refusal :=
  command w (fun s =>
    if s.rot.state = .restPending ∧ due s.rot.settleAt s.now then rotSettle w.order s else s) s

/-- RAMP_STEP (R131). -/
def execRampStep (w : Moment) (s : State) : Host.Outcome State Fault Refusal :=
  command w (fun s =>
    match s.rot.state, s.rot.ramp with
    | .softStart, some n => if s.rot.entryAt + 1000 * (n + 1) ≤ s.now then rotRamp w.order n s else s
    | _, _ => s) s

/-- FAIL_CLEAR_EXPIRY (R134). -/
def execFailClearExpiry (w : Moment) (s : State) : Host.Outcome State Fault Refusal :=
  command w (fun s =>
    if s.rot.state = .failed ∧ due (s.rot.failSince.map (· + 30000)) s.now then rotFailClear w.order s else s) s

/-! ## Generator (R145, R150, R153, R156) -/

/-- GEN_CHECK (R145). -/
def execGenCheck (w : Moment) (s : State) : Host.Outcome State Fault Refusal :=
  command w (fun s => if s.awake then gcoTick w.order s else s) s

/-- START_TIMEOUT (R150). -/
def execStartTimeout (w : Moment) (s : State) : Host.Outcome State Fault Refusal :=
  command w (fun s =>
    if s.gco.state = .demandWait ∧ due s.gco.startAt s.now then gcoStartFailure w.order s else s) s

/-- REST_TIMER_EXPIRY (R153). -/
def execRestTimerExpiry (w : Moment) (s : State) : Host.Outcome State Fault Refusal :=
  command w (fun s => if s.gco.state = .runRest ∧ due s.gco.restAt s.now then gcoRestEnd w.order s else s) s

/-- EPOCH_SETTLE (R156). -/
def execEpochSettle (w : Moment) (s : State) : Host.Outcome State Fault Refusal :=
  command w (fun s => if s.gco.unsettled ∧ due s.gco.settleAt s.now then gcoSettle w.order s else s) s

/-! ## Alarms (R163, R169) -/

/-- QUALIFY_EXPIRY (R163, R164). -/
def execQualifyExpiry (w : Moment) (point : Nat) (s : State) : Host.Outcome State Fault Refusal :=
  command w (fun s =>
    let p := pointGet s.alu.points point
    if point ∈ pointIds ∧ due p.timerEnd s.now then
      handPoint w.order point (pointOnExpiry (pointConfig s point) p) s
    else s) s

/-- POINT_TIMER (R169). -/
def execPointTimer (w : Moment) (s : State) : Host.Outcome State Fault Refusal :=
  command w (fun s => if due s.alu.pointTimerAt s.now then enqueuePoint s else s) s

/-! ## Operating modes (R179 to R182) -/

/-- LEAN_DWELL (R179). -/
def execLeanDwell (w : Moment) (s : State) : Host.Outcome State Fault Refusal :=
  command w (fun s => if s.sup.holdEnd = none then tryLean w.order s else s) s

/-- SITE_HOLD_END (R179, R180). DESIGN CHOICE (log entry 34): with both dwells complete, the change to LEAN, its MODE
entry and its STATUS request come before the QUIET of the entry wait. -/
def execSiteHoldEnd (w : Moment) (s : State) : Host.Outcome State Fault Refusal :=
  command w (fun s =>
    if due s.sup.holdEnd s.now then
      tryDormant w.order (tryLean w.order (s.onSup fun x => { x with holdEnd := none }))
    else s) s

/-- DORMANT_DWELL (R177, R180). -/
def execDormantDwell (w : Moment) (s : State) : Host.Outcome State Fault Refusal :=
  command w (fun s => if s.sup.holdEnd = none then tryDormant w.order s else s) s

/-- ENTRY_WAIT_TIMEOUT (R180). -/
def execEntryWaitTimeout (w : Moment) (s : State) : Host.Outcome State Fault Refusal :=
  command w (fun s => if due s.sup.entryWait s.now then stopStation w.order s else s) s

/-- WAKE_TIMER (R181). -/
def execWakeTimer (w : Moment) (s : State) : Host.Outcome State Fault Refusal :=
  command w (fun s => if due s.sup.wakeAt s.now then wakeUp w.order .wakeTimer s else s) s

/-- A byte on the site port of a sleeping station with SITE_PORT enabled (R181). -/
def siteWake (order : List Taker) (s : State) : State :=
  if s.settings.sup.mask.sitePort then wakeUp order .wakeSite s else s

/-- SITE_PORT_WAKE (R181). -/
def execSitePortWake (w : Moment) (s : State) : Host.Outcome State Fault Refusal := command w (siteWake w.order) s

/-! ## The retained-record writer (R183) -/

/-- PERIODIC_WRITE_TIMER (R183). -/
def execPeriodicWriteTimer (w : Moment) (s : State) : Host.Outcome State Fault Refusal :=
  command w (fun s =>
    if due s.sup.periodicAt s.now then triggerWrite (s.onSup fun x => { x with periodicAt := none }) else s) s

/-- The store after a write of the retained record: the record as it was taken, or free bytes when the store did not
acknowledge it. -/
def storeWritten (v : Retained) (acknowledged : Bool) (s : State) : State :=
  if acknowledged then s.onStore fun m => storeWriteAll m (recordAddress 13) (recordBytes (encodeRetained v))
  else (s.onStore (storeAfterFailedWrite s.spoiled)).onSpoiled (· + 1)

/-- The end of a write (R183): RETAIN_LOST follows its outcome, a failure is logged, and a pending write begins. -/
def endWrite (order : List Taker) (v : Retained) (acknowledged : Bool) (s : State) : State :=
  let s := (storeWritten v acknowledged s).onSup fun x => { x with writing := none, retainLost := !acknowledged }
  beginPendingWrite
    (fan order [.log, .alu] (fun t s =>
      match t with
      | .log => if acknowledged then s else logEntry .store 0 (twoParts 13 StoreError.write.code) s
      | .alu => takeCondition order 21 s
      | _ => s) s)

/-- RETAINED_WRITE_END (R183). -/
def execRetainedWriteEnd (w : Moment) (acknowledged : Bool) (s : State) : Host.Outcome State Fault Refusal :=
  command w (fun s =>
    match s.sup.writing with
    | some v => endWrite w.order v acknowledged s
    | none => s) s

end Sys2Proof.Machine
end

