-- ==== Sys2Proof/Machine/SitePort.lean ====
section
/-! DEFINITION. The site port (R184 to R186): what every valid request does, who answers it, its response and its log
entry, and the meanings of the site commands, of discarded frames and of overruns. -/

namespace Sys2Proof.Machine

/-! ## Answers -/

/-- What a command's owner answers (R185), with the state after it has acted. -/
structure Answer where
  code : ResponseCode
  reason : Option RefuseReason
  data : List Byte
  after : State

def okAnswer (s : State) : Answer := { code := .ok, reason := none, data := [], after := s }
def dataAnswer (data : List Byte) (s : State) : Answer := { code := .ok, reason := none, data := data, after := s }
def badArg (s : State) : Answer := { code := .badArg, reason := none, data := [], after := s }
def refuse (r : RefuseReason) (s : State) : Answer := { code := .refused, reason := some r, data := [], after := s }

/-- An owner's refusal, which changes nothing, or its OK. -/
def answerOf (s : State) (r : RefuseReason ⊕ State) : Answer :=
  match r with
  | .inl reason => refuse reason s
  | .inr s' => okAnswer s'

/-! ## A valid request (R179, R180, R182, R185, R186) -/

/-- What a valid frame does before its command is handed on: the site hold starts again, an entry wait is abandoned, it
counts as a change after a TIMER wake, a station in CHECK enters OPERATING, and LEAN becomes FULL. -/
def validFrame (order : List Taker) (s : State) : State :=
  let s := s.onSup fun x => { x with holdEnd := some (s.now + 600000), found := true }
  leaveLean order (leaveCheck order (abandonEntryWait s))

/-- A response sent; a command that is not a read is logged with it (R186). -/
def respond (c : SiteCommand) (a : Answer) : State :=
  let s := a.after.onSup fun x =>
    { x with response := some { command := BitVec.ofNat 8 c.code, code := a.code, reason := a.reason, data := a.data } }
  if c.isRead then s else logEntry .siteCmd 0 (twoParts c.code a.code.code) s

/-- The answer to a request of `c` (R184, R186): SUP judges the argument length; while a restart waits it answers
itself; otherwise the owner answers. -/
def answerRequest (c : SiteCommand) (args : List Byte) (owner : State → Answer) (s : State) : Answer :=
  if args.length ≠ c.argLength then badArg s
  else if s.sup.restartWait.isSome then (if c = .restart then okAnswer s else refuse .restarting s)
  else owner s

/-- A request that reaches the site port: asleep its first byte is the SITE_PORT wake; before LISTEN, and while bytes
are being discarded, it is not received; otherwise it is a valid frame, answered. -/
def siteRequest (order : List Taker) (c : SiteCommand) (args : List Byte) (owner : State → Answer) (s : State) :
    State :=
  if s.asleep then siteWake order s
  else if s.awake = false ∨ s.sup.siteDiscard then s
  else respond c (answerRequest c args owner (validFrame order s))

/-! ## The reads (R186) -/

/-- STATUS_READ (R186, R190). -/
def execStatusRead (w : Moment) (args : List Byte) (s : State) : Host.Outcome State Fault Refusal :=
  command w (siteRequest w.order .statusRead args fun s => dataAnswer (statusData s) s) s

/-- PEER_READ's answer (R101). -/
def peerRead (n : Nat) (s : State) : Answer :=
  if n = 0 ∨ 15 < n then badArg s
  else
    match findPeer s.ptb.peers n with
    | some p => dataAnswer (peerData p) s
    | none => refuse .noRecord s

/-- PEER_READ (R101). -/
def execPeerRead (w : Moment) (args : List Byte) (s : State) : Host.Outcome State Fault Refusal :=
  command w (siteRequest w.order .peerRead args (peerRead (byteAt args 0))) s

/-- LOG_READ (R173). -/
def execLogRead (w : Moment) (args : List Byte) (s : State) : Host.Outcome State Fault Refusal :=
  command w (siteRequest w.order .logRead args fun s => dataAnswer (logData s) (aluConsumeLog s)) s

/-- POINTS_READ (R186, R190). -/
def execPointsRead (w : Moment) (args : List Byte) (s : State) : Host.Outcome State Fault Refusal :=
  command w (siteRequest w.order .pointsRead args fun s => dataAnswer (pointsData s) s) s

/-! ## The commands -/

/-- ACK (R165). -/
def execAck (w : Moment) (args : List Byte) (s : State) : Host.Outcome State Fault Refusal :=
  command w (siteRequest w.order .ack args fun s => okAnswer (aluAck w.order s)) s

/-- RECT_FORCE's answer by its argument: 1 RUN, 2 REST, 3 RELEASE (R135, R136, R190). -/
def rectForce (order : List Taker) (arg : Nat) (s : State) : Answer :=
  match arg with
  | 1 => answerOf s (rotForceRun order s)
  | 2 => answerOf s (rotForceRest order s)
  | 3 => answerOf s (rotRelease order s)
  | _ => badArg s

/-- RECT_FORCE_RUN (R135). -/
def execRectForceRun (w : Moment) (args : List Byte) (s : State) : Host.Outcome State Fault Refusal :=
  command w (siteRequest w.order .rectForce args (rectForce w.order (byteAt args 0))) s

/-- RECT_FORCE_REST (R135). -/
def execRectForceRest (w : Moment) (args : List Byte) (s : State) : Host.Outcome State Fault Refusal :=
  command w (siteRequest w.order .rectForce args (rectForce w.order (byteAt args 0))) s

/-- RELEASE (R136). -/
def execRelease (w : Moment) (args : List Byte) (s : State) : Host.Outcome State Fault Refusal :=
  command w (siteRequest w.order .rectForce args (rectForce w.order (byteAt args 0))) s

/-- GEN_TEST (R148). -/
def execGenTest (w : Moment) (args : List Byte) (s : State) : Host.Outcome State Fault Refusal :=
  command w (siteRequest w.order .genTest args fun s => answerOf s (gcoTest w.order (u16At args 0) s)) s

/-- LOCKOUT_CLEAR (R157). -/
def execLockoutClear (w : Moment) (args : List Byte) (s : State) : Host.Outcome State Fault Refusal :=
  command w (siteRequest w.order .lockoutClear args fun s => answerOf s (gcoClear w.order s)) s

/-- EQUALIZE's answer by its argument: 1 START, 2 STOP (R59, R190). -/
def equalize (order : List Taker) (arg : Nat) (s : State) : Answer :=
  match arg with
  | 1 => okAnswer (cscEqualizeStart s)
  | 2 => okAnswer (cscEqualizeStop order s)
  | _ => badArg s

/-- EQUALIZE_START (R59). -/
def execEqualizeStart (w : Moment) (args : List Byte) (s : State) : Host.Outcome State Fault Refusal :=
  command w (siteRequest w.order .equalize args (equalize w.order (byteAt args 0))) s

/-- EQUALIZE_STOP (R59). -/
def execEqualizeStop (w : Moment) (args : List Byte) (s : State) : Host.Outcome State Fault Refusal :=
  command w (siteRequest w.order .equalize args (equalize w.order (byteAt args 0))) s

/-- RESYNC_FULL (R45). -/
def execResyncFull (w : Moment) (args : List Byte) (s : State) : Host.Outcome State Fault Refusal :=
  command w (siteRequest w.order .resyncFull args fun s => okAnswer (sacFullResync w.order s)) s

/-- FORGET_PEER's answer (R101). -/
def forgetPeer (order : List Taker) (n : Nat) (s : State) : Answer :=
  if n = 0 ∨ 15 < n ∨ n = s.sup.number then badArg s
  else
    match findPeer s.ptb.peers n with
    | some p => okAnswer (forgetRecord order p s)
    | none => refuse .noRecord s

/-- FORGET_PEER (R101). -/
def execForgetPeer (w : Moment) (args : List Byte) (s : State) : Host.Outcome State Fault Refusal :=
  command w (siteRequest w.order .forgetPeer args (forgetPeer w.order (byteAt args 0))) s

/-- RESTART taken (R184): QUIET is queued when transmission is granted, a write is triggered, and the wait begins. -/
def beginRestart (s : State) : State :=
  let quiet := s.pli.granted
  (triggerWrite (enqueue .quiet [BitVec.ofNat 8 QuietReason.restart.code] s)).onSup fun x =>
    { x with restartWait := some { quietBy := if quiet then some (s.now + 1000) else none } }

/-- RESTART (R184). -/
def execRestart (w : Moment) (args : List Byte) (s : State) : Host.Outcome State Fault Refusal :=
  command w (siteRequest w.order .restart args fun s => okAnswer (beginRestart s)) s

/-! ## Unknown and discarded frames, overruns (R185) -/

/-- A valid request whose command code is not defined: answered UNKNOWN, and not logged (R185, R186). -/
def siteUnknown (order : List Taker) (code : Byte) (s : State) : State :=
  if s.asleep then siteWake order s
  else if s.awake = false ∨ s.sup.siteDiscard ∨ siteCodeDefined code.toNat then s
  else
    (validFrame order s).onSup fun x =>
      { x with response := some { command := code, code := .unknown, reason := none, data := [] } }

/-- UNKNOWN (R185). -/
def execUnknown (w : Moment) (code : Byte) (_args : List Byte) (s : State) : Host.Outcome State Fault Refusal :=
  command w (siteUnknown w.order code) s

/-- A discarded frame is counted; after a bad length the receiver discards bytes until a gap (R185). -/
def siteBadFrame (order : List Taker) (why : SiteFrameFault) (s : State) : State :=
  if s.asleep then siteWake order s
  else if s.awake = false ∨ s.sup.siteDiscard then s
  else s.onSup fun x => { x with badFrames := satInc 65535 x.badFrames, siteDiscard := why == .badLength }

/-- SITE_BAD_FRAME (R185). -/
def execSiteBadFrame (w : Moment) (why : SiteFrameFault) (s : State) : Host.Outcome State Fault Refusal :=
  command w (siteBadFrame w.order why) s

/-- OVERRUN (R185). -/
def execOverrun (w : Moment) (s : State) : Host.Outcome State Fault Refusal :=
  command w (fun s => if s.awake then s.onSup fun x => { x with overruns := satInc 65535 x.overruns } else s) s

/-- SITE_PORT_GAP (R181, R185). -/
def execSitePortGap (w : Moment) (s : State) : Host.Outcome State Fault Refusal :=
  command w (fun s => if s.awake then s.onSup fun x => { x with siteDiscard := false } else s) s

end Sys2Proof.Machine
end

