-- ==== Sys2Proof/Machine/Dispatch.lean ====
section
/-! DEFINITION. One arm per command: its meaning. -/

namespace Sys2Proof.Machine

/-- A command's effect on everything but the queue. -/
def exec (i : Instr) (s : State) : Host.Outcome State Fault Refusal :=
  match i with
  | .powerOn w => Sys2Proof.Machine.execPowerOn w s
  | .pin w => Sys2Proof.Machine.execPin w s
  | .supplyCheck w zone => Sys2Proof.Machine.execSupplyCheck w zone s
  | .brownOut w => Sys2Proof.Machine.execBrownOut w s
  | .heldEnd w straps => Sys2Proof.Machine.execHeldEnd w straps s
  | .loadEnd w programmed silent => Sys2Proof.Machine.execLoadEnd w programmed silent s
  | .listenEnd w => Sys2Proof.Machine.execListenEnd w s
  | .checkEnd w => Sys2Proof.Machine.execCheckEnd w s
  | .measurementSet w sums => Sys2Proof.Machine.execMeasurementSet w sums s
  | .acEdge w => Sys2Proof.Machine.execAcEdge w s
  | .edgeTimeout w => Sys2Proof.Machine.execEdgeTimeout w s
  | .contactQualified w input => Sys2Proof.Machine.execContactQualified w input s
  | .pulseEnd w => Sys2Proof.Machine.execPulseEnd w s
  | .confirmationWindowExpiry w => Sys2Proof.Machine.execConfirmationWindowExpiry w s
  | .frameBegin w => Sys2Proof.Machine.execFrameBegin w s
  | .frameComplete w => Sys2Proof.Machine.execFrameComplete w s
  | .contentionLoss w => Sys2Proof.Machine.execContentionLoss w s
  | .driveFault w => Sys2Proof.Machine.execDriveFault w s
  | .lineStuck w => Sys2Proof.Machine.execLineStuck w s
  | .lineStuckClear w => Sys2Proof.Machine.execLineStuckClear w s
  | .lineError w cause => Sys2Proof.Machine.execLineError w cause s
  | .faultTimeExpiry w => Sys2Proof.Machine.execFaultTimeExpiry w s
  | .rateFaultClear w => Sys2Proof.Machine.execRateFaultClear w s
  | .statusNote w station seq payload => Sys2Proof.Machine.execStatusNote w station seq payload s
  | .genNote w station seq event epoch => Sys2Proof.Machine.execGenNote w station seq event epoch s
  | .restNote w station seq hours flags => Sys2Proof.Machine.execRestNote w station seq hours flags s
  | .wakeNote w station seq hours reason => Sys2Proof.Machine.execWakeNote w station seq hours reason s
  | .pointNote w station seq pairs => Sys2Proof.Machine.execPointNote w station seq pairs s
  | .helloNote w station seq digest cause => Sys2Proof.Machine.execHelloNote w station seq digest cause s
  | .quietNote w station seq reason => Sys2Proof.Machine.execQuietNote w station seq reason s
  | .dormantLineFrame w frame => Sys2Proof.Machine.execDormantLineFrame w frame s
  | .statusPeriodicTimer w => Sys2Proof.Machine.execStatusPeriodicTimer w s
  | .statusSpacingEnd w => Sys2Proof.Machine.execStatusSpacingEnd w s
  | .agingCheck w => Sys2Proof.Machine.execAgingCheck w s
  | .intentExpiry w station => Sys2Proof.Machine.execIntentExpiry w station s
  | .rotationTick w => Sys2Proof.Machine.execRotationTick w s
  | .settleExpiry w => Sys2Proof.Machine.execSettleExpiry w s
  | .rampStep w => Sys2Proof.Machine.execRampStep w s
  | .failClearExpiry w => Sys2Proof.Machine.execFailClearExpiry w s
  | .genCheck w => Sys2Proof.Machine.execGenCheck w s
  | .startTimeout w => Sys2Proof.Machine.execStartTimeout w s
  | .restTimerExpiry w => Sys2Proof.Machine.execRestTimerExpiry w s
  | .epochSettle w => Sys2Proof.Machine.execEpochSettle w s
  | .qualifyExpiry w point => Sys2Proof.Machine.execQualifyExpiry w point s
  | .pointTimer w => Sys2Proof.Machine.execPointTimer w s
  | .leanDwell w => Sys2Proof.Machine.execLeanDwell w s
  | .siteHoldEnd w => Sys2Proof.Machine.execSiteHoldEnd w s
  | .dormantDwell w => Sys2Proof.Machine.execDormantDwell w s
  | .entryWaitTimeout w => Sys2Proof.Machine.execEntryWaitTimeout w s
  | .wakeTimer w => Sys2Proof.Machine.execWakeTimer w s
  | .sitePortWake w => Sys2Proof.Machine.execSitePortWake w s
  | .periodicWriteTimer w => Sys2Proof.Machine.execPeriodicWriteTimer w s
  | .retainedWriteEnd w acknowledged => Sys2Proof.Machine.execRetainedWriteEnd w acknowledged s
  | .restartReset w => Sys2Proof.Machine.execRestartReset w s
  | .siteBadFrame w why => Sys2Proof.Machine.execSiteBadFrame w why s
  | .unknown w code args => Sys2Proof.Machine.execUnknown w code args s
  | .statusRead w args => Sys2Proof.Machine.execStatusRead w args s
  | .peerRead w args => Sys2Proof.Machine.execPeerRead w args s
  | .logRead w args => Sys2Proof.Machine.execLogRead w args s
  | .pointsRead w args => Sys2Proof.Machine.execPointsRead w args s
  | .ack w args => Sys2Proof.Machine.execAck w args s
  | .rectForceRun w args => Sys2Proof.Machine.execRectForceRun w args s
  | .rectForceRest w args => Sys2Proof.Machine.execRectForceRest w args s
  | .release w args => Sys2Proof.Machine.execRelease w args s
  | .genTest w args => Sys2Proof.Machine.execGenTest w args s
  | .lockoutClear w args => Sys2Proof.Machine.execLockoutClear w args s
  | .equalizeStart w args => Sys2Proof.Machine.execEqualizeStart w args s
  | .equalizeStop w args => Sys2Proof.Machine.execEqualizeStop w args s
  | .resyncFull w args => Sys2Proof.Machine.execResyncFull w args s
  | .forgetPeer w args => Sys2Proof.Machine.execForgetPeer w args s
  | .restart w args => Sys2Proof.Machine.execRestart w args s
  | .contactSample w levels => Sys2Proof.Machine.execContactSample w levels s
  | .lineIdle w => Sys2Proof.Machine.execLineIdle w s
  | .courtesySatisfied w => Sys2Proof.Machine.execCourtesySatisfied w s
  | .overrun w => Sys2Proof.Machine.execOverrun w s
  | .sitePortGap w => Sys2Proof.Machine.execSitePortGap w s

end Sys2Proof.Machine
end

