-- ==== Sys2Proof/Safety.lean ====
section
/-! DEFINITION. What the claims about this machine are stated in: the moment of a command, the commands that can do a
thing the others cannot, the invariants, and the states that a reset, a sleep and a wake leave. -/

namespace Sys2Proof

/-- The moment of a command. -/
def Instr.moment : Instr → Moment
  | .powerOn w => w
  | .pin w => w
  | .supplyCheck w _ => w
  | .brownOut w => w
  | .heldEnd w _ => w
  | .loadEnd w _ _ => w
  | .listenEnd w => w
  | .checkEnd w => w
  | .measurementSet w _ => w
  | .acEdge w => w
  | .edgeTimeout w => w
  | .contactQualified w _ => w
  | .pulseEnd w => w
  | .confirmationWindowExpiry w => w
  | .frameBegin w => w
  | .frameComplete w => w
  | .contentionLoss w => w
  | .driveFault w => w
  | .lineStuck w => w
  | .lineStuckClear w => w
  | .lineError w _ => w
  | .faultTimeExpiry w => w
  | .rateFaultClear w => w
  | .statusNote w _ _ _ => w
  | .genNote w _ _ _ _ => w
  | .restNote w _ _ _ _ => w
  | .wakeNote w _ _ _ _ => w
  | .pointNote w _ _ _ => w
  | .helloNote w _ _ _ _ => w
  | .quietNote w _ _ _ => w
  | .dormantLineFrame w _ => w
  | .statusPeriodicTimer w => w
  | .statusSpacingEnd w => w
  | .agingCheck w => w
  | .intentExpiry w _ => w
  | .rotationTick w => w
  | .settleExpiry w => w
  | .rampStep w => w
  | .failClearExpiry w => w
  | .genCheck w => w
  | .startTimeout w => w
  | .restTimerExpiry w => w
  | .epochSettle w => w
  | .qualifyExpiry w _ => w
  | .pointTimer w => w
  | .leanDwell w => w
  | .siteHoldEnd w => w
  | .dormantDwell w => w
  | .entryWaitTimeout w => w
  | .wakeTimer w => w
  | .sitePortWake w => w
  | .periodicWriteTimer w => w
  | .retainedWriteEnd w _ => w
  | .restartReset w => w
  | .siteBadFrame w _ => w
  | .unknown w _ _ => w
  | .statusRead w _ => w
  | .peerRead w _ => w
  | .logRead w _ => w
  | .pointsRead w _ => w
  | .ack w _ => w
  | .rectForceRun w _ => w
  | .rectForceRest w _ => w
  | .release w _ => w
  | .genTest w _ => w
  | .lockoutClear w _ => w
  | .equalizeStart w _ => w
  | .equalizeStop w _ => w
  | .resyncFull w _ => w
  | .forgetPeer w _ => w
  | .restart w _ => w
  | .contactSample w _ => w
  | .lineIdle w => w
  | .courtesySatisfied w => w
  | .overrun w => w
  | .sitePortGap w => w

/-- The commands by which a reset can come (R175). -/
def Instr.canReset : Instr → Bool
  | .powerOn _ => true
  | .pin _ => true
  | .brownOut _ => true
  | .restartReset _ => true
  | _ => false

/-- The commands by which a reset that loses RAM can come (R175). -/
def Instr.canLoseRam : Instr → Bool
  | .powerOn _ => true
  | .brownOut _ => true
  | _ => false

def Instr.isLoadEnd : Instr → Bool
  | .loadEnd _ _ _ => true
  | _ => false

def Instr.isHeldEnd : Instr → Bool
  | .heldEnd _ _ => true
  | _ => false

def Instr.isSet : Instr → Bool
  | .measurementSet _ _ => true
  | _ => false

def Instr.isResync : Instr → Bool
  | .resyncFull _ _ => true
  | _ => false

def Instr.isRotationTick : Instr → Bool
  | .rotationTick _ => true
  | _ => false

def Instr.isWriteEnd : Instr → Bool
  | .retainedWriteEnd _ _ => true
  | _ => false

/-- The kind, the sender and the sequence of a received note; none for a command that is no note. -/
def Instr.note : Instr → Option (Machine.NoteKind × Nat × Nat)
  | .statusNote _ station seq _ => some (.status, station.toNat, seq.toNat)
  | .genNote _ station seq _ _ => some (.gen, station.toNat, seq.toNat)
  | .restNote _ station seq _ _ => some (.rest, station.toNat, seq.toNat)
  | .wakeNote _ station seq _ _ => some (.wake, station.toNat, seq.toNat)
  | .pointNote _ station seq _ => some (.point, station.toNat, seq.toNat)
  | .helloNote _ station seq _ _ => some (.hello, station.toNat, seq.toNat)
  | .quietNote _ station seq _ => some (.quiet, station.toNat, seq.toNat)
  | _ => none

/-- The command code and the arguments of a site port request whose code is defined (R190). -/
def Instr.request : Instr → Option (Machine.SiteCommand × List Byte)
  | .statusRead _ args => some (.statusRead, args)
  | .peerRead _ args => some (.peerRead, args)
  | .logRead _ args => some (.logRead, args)
  | .pointsRead _ args => some (.pointsRead, args)
  | .ack _ args => some (.ack, args)
  | .rectForceRun _ args => some (.rectForce, args)
  | .rectForceRest _ args => some (.rectForce, args)
  | .release _ args => some (.rectForce, args)
  | .genTest _ args => some (.genTest, args)
  | .lockoutClear _ args => some (.lockoutClear, args)
  | .equalizeStart _ args => some (.equalize, args)
  | .equalizeStop _ args => some (.equalize, args)
  | .resyncFull _ args => some (.resyncFull, args)
  | .forgetPeer _ args => some (.forgetPeer, args)
  | .restart _ args => some (.restart, args)
  | _ => none

end Sys2Proof

namespace Sys2Proof.Machine

/-! ## Moments -/

/-- The state that a command of moment `w` finds: the time before it has passed. -/
def State.upTo (s : State) (w : Moment) : State := advance w.elapsed s

/-- No change found in CHECK waits to be acted on: what every command leaves (R182). -/
def State.Steady (s : State) : Prop := s.sup.phase = .check → s.sup.found = false

/-- The site port takes a request now: it runs, and is not discarding bytes (R181, R185). -/
def State.SiteReady (s : State) : Prop := s.awake = true ∧ s.sup.siteDiscard = false

/-! ## Frames -/

/-- The parts of the state. -/
inductive Part where
  | clock | settings | mch | sdo | sac | csc | pli | ptb | cbu | rot | gco | alu | sup | store | spoiled | pending
deriving DecidableEq, Repr

/-- Two states agree on a part. -/
def State.AgreeOn (s t : State) : Part → Prop
  | .clock => s.clock = t.clock
  | .settings => s.settings = t.settings
  | .mch => s.mch = t.mch
  | .sdo => s.sdo = t.sdo
  | .sac => s.sac = t.sac
  | .csc => s.csc = t.csc
  | .pli => s.pli = t.pli
  | .ptb => s.ptb = t.ptb
  | .cbu => s.cbu = t.cbu
  | .rot => s.rot = t.rot
  | .gco => s.gco = t.gco
  | .alu => s.alu = t.alu
  | .sup => s.sup = t.sup
  | .store => s.store = t.store
  | .spoiled => s.spoiled = t.spoiled
  | .pending => s.pending = t.pending

/-- `t` differs from `s` in the parts listed at most. -/
def State.ChangedOnly (s : State) (parts : List Part) (t : State) : Prop := ∀ p, p ∉ parts → s.AgreeOn t p

/-- A note of a kind waits in the queue with this payload. -/
def Pli.Holds (p : Pli) (kind : NoteKind) (payload : List Byte) : Prop :=
  ∃ x ∈ p.queue, x.kind = kind ∧ x.payload = payload

/-- The kinds in the queue, in order. -/
def Pli.kinds (p : Pli) : List NoteKind := p.queue.map (·.kind)

/-- R84: `q`'s queue is `p`'s with a note of this kind enqueued: in its slot, or in a new slot at the end. -/
def Pli.EnqueuedTo (p : Pli) (kind : NoteKind) (payload : List Byte) (q : Pli) : Prop :=
  q.Holds kind payload ∧ q.kinds = if kind ∈ p.kinds then p.kinds else p.kinds ++ [kind]

/-- R183: a retained-record write is under way, or waits. -/
def State.WritePrompted (s : State) : Prop := s.sup.writing.isSome = true ∨ s.sup.pendingWrite = true

/-- What the last response on the site port carries after the command byte (R185, R190). -/
def State.Answered (s : State) (c : SiteCommand) (code : ResponseCode) (reason : Option RefuseReason) : Prop :=
  ∃ d, s.sup.response = some { command := BitVec.ofNat 8 c.code, code := code, reason := reason, data := d }

/-! ## Invariants

Each holds at `State.reset`, and every step keeps it from any state that meets it. -/

/-- Before LISTEN of a start: HELD, STRAPS and LOAD (R175, R176). -/
def State.starting (s : State) : Bool :=
  match s.sup.phase with
  | .held => true
  | .straps => true
  | .load => true
  | _ => false

/-- The store is in its canonical form. -/
def State.StoreCanonical (s : State) : Prop := storeWf s.store = true

/-- R172: at most 64 entries, in non-decreasing order of time stamp, none later than the log clock, which does not
pass its greatest value. -/
def State.LogInOrder (s : State) : Prop :=
  s.alu.log.length ≤ 64 ∧ (s.alu.log.map (·.time)).Pairwise (· ≤ ·) ∧ (∀ e ∈ s.alu.log, e.time ≤ s.alu.clockS) ∧
    s.alu.clockS ≤ 4294967295

/-- R32, R34, R38 to R40: the ranges of the accountant's values. -/
def State.ChargeInRange (s : State) : Prop :=
  s.sac.q ≤ cRated s.settings.sac ∧ s.sac.cEff ≤ cRated s.settings.sac ∧ s.sac.r ≤ 255 ∧ s.sac.soc ≤ 1000 ∧
    s.sac.lineDeficit ≤ s.settings.sac.capacityAh * 10

/-- R92: at most 14 records, one for each station number, in order, none for the own number; none before LISTEN. -/
def State.PeersInOrder (s : State) : Prop :=
  s.ptb.peers.length ≤ 14 ∧ (s.ptb.peers.map (·.station)).Pairwise (· < ·) ∧
    (∀ p ∈ s.ptb.peers, 1 ≤ p.station ∧ p.station ≤ 15 ∧ p.station ≠ s.sup.number) ∧
    (s.starting = true → s.ptb.peers = [])

/-- R84, R85: at most one slot for each kind; a transmitter that waits or sends has a note to send, one that is EMPTY
has none; a frame is on the line exactly in SEND. -/
def State.QueueInOrder (s : State) : Prop :=
  (s.pli.queue.map (·.kind)).Nodup ∧ (s.pli.tx = .empty → s.pli.queue = []) ∧
    (s.pli.tx = .wait ∨ s.pli.tx = .send → s.pli.queue ≠ []) ∧ (s.pli.sending.isSome = true ↔ s.pli.tx = .send)

/-- R81, R86, R178, R180: transmission is granted exactly in OPERATING; before a grant and from a withdrawal on the
transmitter is OFF with nothing queued once the frame on the line has ended; while the own frame is on the line the
receiver takes nothing; no change found in CHECK waits. -/
def State.LineMatchesPhase (s : State) : Prop :=
  s.pli.granted = s.operating ∧
    (s.pli.granted = false → s.pli.tx ≠ .send → s.pli.tx = .off ∧ s.pli.queue = []) ∧
    (s.pli.tx = .send → s.pli.rx = .hunt) ∧ s.Steady

/-- R24, R25: SDO drives its owners' demands exactly in OPERATING, and the relays stand in their start-up positions
at every other time. -/
def State.RelaysWaitForOperating (s : State) : Prop :=
  s.sdo.live = s.operating ∧ (s.sdo.live = false → s.sdo.relays = .start)

/-- R142, R143: LOCKED exactly while the lockout record is SET, a demand record exactly in the demand states, the
start timer and the rest timer each in its state; a demand or a rest only in OPERATING. -/
def State.LockoutConsistent (s : State) : Prop :=
  (s.gco.lockSet = true ↔ s.gco.state = .locked) ∧ s.gco.demand.isSome = s.gco.state.demanding ∧
    (s.gco.startAt.isSome = true ↔ s.gco.state = .demandWait) ∧
    (s.gco.restAt.isSome = true ↔ s.gco.state = .runRest) ∧
    (s.gco.state = .idle ∨ s.gco.state = .locked ∨ s.operating = true)

/-- R122, R123, R131, R132, R134, R137: a rectifier rests only under MAINS; a ramp at step 0 to 9 exactly in SOFT_START, a settle expiry exactly in REST_PENDING,
the fail-clear timer only in FAILED, the own intent only in the state it announces, run seconds below 60; and while
SDO is live the RECT_EN relay follows the state. -/
def State.RotationInOrder (s : State) : Prop :=
  (s.rot.state = .resting ∨ s.rot.state = .forcedRest → s.ptb.view = .mains) ∧
    (s.rot.ramp.isSome = true ↔ s.rot.state = .softStart) ∧ (∀ n ∈ s.rot.ramp, n ≤ 9) ∧
    (s.rot.settleAt.isSome = true ↔ s.rot.state = .restPending) ∧
    (s.rot.failSince.isSome = true → s.rot.state = .failed) ∧
    (∀ i ∈ s.rot.intent, (i.kind = .rest → s.rot.state = .restPending) ∧ (i.kind = .wake → s.rot.state = .softStart)) ∧
    s.rot.runSeconds ≤ 59 ∧ s.RelaysWaitForOperating ∧
    (s.sdo.live = true → s.sdo.relays.rectEn = s.rot.state.enables)

/-- R65, R67: while CTR_FB is qualified, the stage is ISOLATED exactly when it shows the contactor open, and not
absent. R64: no command of CSC's asks for the position CTR_FB shows. -/
def State.StageFollowsContactor (s : State) : Prop :=
  (s.contact .ctrFb = .inactive → s.csc.stage = .isolated) ∧
    (s.contact .ctrFb = .active → s.csc.stage ≠ .isolated ∧ s.csc.stage ≠ .absent) ∧
    (∀ d ∈ s.csc.record, s.position ≠ some d)

/-- The share and its case as the tables of R113 and R114 give them, from the values one computation has read. -/
def BudgetCalc.SharedBy (c : BudgetCalc) (a : CbuSettings) (hot : Bool) (stage : Stage) (view : SourceView) : Prop :=
  if hot = true ∨ stage = .isolated ∨ stage = .discharge ∨ stage = .absent ∨ view = .noSource then
    c.share = 0 ∧ c.shareCase = .zero
  else if stage = .float then c.share = min a.floatHold c.budget ∧ c.shareCase = .hold
  else if stage = .equalize then c.share = min a.eqMax c.budget ∧ c.shareCase = .eq
  else if c.deficitSum = 0 then c.share = min a.floatHold c.budget ∧ c.shareCase = .hold
  else if c.budget * c.ownDeficit / c.deficitSum < min a.chgMin c.budget then
    c.share = min a.chgMin c.budget ∧ c.shareCase = .pmin
  else if a.chgMax < c.budget * c.ownDeficit / c.deficitSum then c.share = a.chgMax ∧ c.shareCase = .pmax
  else c.share = c.budget * c.ownDeficit / c.deficitSum ∧ c.shareCase = .prop

/-- The source limit of R111 for the source view. -/
def BudgetCalc.LimitedBy (c : BudgetCalc) (a : CbuSettings) (view : SourceView) : Prop :=
  (view = .mains → c.ilim = a.mainsLimit) ∧ (view = .gen → c.ilim = a.genLimit) ∧
    (view = .acUnknown → c.ilim = a.genLimit) ∧ (view = .noSource → c.ilim = 0)

/-- R108, R111 to R115: in OPERATING without CONFIG_FAULT the last computation holds the source limit of the view, the
budget and the share that the rules give for the view, the stage and HOT as they stand; the applied limit is at most
the share, and the share at most the budget and chg_max_dA. -/
def State.LimitWithinShare (s : State) : Prop :=
  s.settings.cbu.chgMin ≤ s.settings.cbu.chgMax ∧ s.settings.cbu.floatHold ≤ s.settings.cbu.chgMax ∧
    s.settings.cbu.eqMax ≤ s.settings.cbu.chgMax ∧
    (s.operating = true → s.sup.configFault = false →
      ∃ c ∈ s.cbu.computed,
        c.LimitedBy s.settings.cbu s.ptb.view ∧
        (c.budget : Int) = max 0 ((c.ilim : Int) - c.load - s.settings.cbu.reserve - c.lost * s.settings.cbu.lostAllowance) ∧
        c.ownDeficit ≤ c.deficitSum ∧ c.SharedBy s.settings.cbu s.csc.hot s.csc.stage s.ptb.view ∧
        s.cbu.applied ≤ c.share ∧ c.share ≤ c.budget ∧ c.share ≤ s.settings.cbu.chgMax)

/-- R24, R142, R144: GEN_DEMAND is energised exactly in a demand state while SDO is live, and the coordinator demands
only behind the gates: in OPERATING in FULL or LEAN, without CONFIG_FAULT, with the lockout CLEAR and SETTLED, and
with fuel-low and gen-inhibit inactive. -/
def State.DemandBehindGates (s : State) : Prop :=
  s.RelaysWaitForOperating ∧ s.LockoutConsistent ∧ (s.awake = true → s.sup.mode ≠ .dormant) ∧
    (s.sdo.live = true → s.sdo.relays.genDemand = s.gco.state.demanding) ∧
    s.gco.fuelLow = s.alu.effFuel ∧ s.gco.inhibit = s.alu.effInhibit ∧
    (s.gco.state.demanding = true →
      s.operating = true ∧ s.sup.configFault = false ∧ s.gco.unsettled = false ∧ s.gco.fuelLow = false ∧
        s.gco.inhibit = false)

/-- R170: the value of a subscription is 1: by a peer not LOST that holds the tag at 1, by a LOST one through the lost
default, or, for a target that is no function, by the station's own tag while its point stands. -/
def Subscription.IsOn (sub : Subscription) (s : State) : Prop :=
  (∃ p ∈ s.ptb.peers, p.state ≠ .lost ∧ (sub.tag, true) ∈ p.points) ∨
    (∃ p ∈ s.ptb.peers, p.state = .lost ∧
      ((sub.lostDefault = .on ∧ ∃ x ∈ p.points, x.1 = sub.tag) ∨
        (sub.lostDefault = .hold ∧ (sub.tag, true) ∈ p.points))) ∨
    (sub.target ≠ .fuelLowFn ∧ sub.target ≠ .genInhibitFn ∧
      ∃ x ∈ s.owned, x.2 = sub.tag ∧ standing (pointGet s.alu.points x.1).state = true)

/-- R170, R171: each configured subscription holds a value, the one R170 gives it. -/
def State.SubscriptionsHeld (s : State) : Prop :=
  List.Forall₂ (fun sub v => v = true ↔ sub.IsOn s) s.settings.alu.subs s.alu.subValues

/-- R180: the dormant dwell and the entry wait stand only in OPERATING, so that only a station in OPERATING stops at
the end of a wait. -/
def State.WaitsInOperating (s : State) : Prop :=
  (s.sup.dormantSince.isSome = true → s.operating = true) ∧ (s.sup.entryWait.isSome = true → s.operating = true)

/-- R167, R170: from LISTEN on each subscription holds a value; ALU runs while the station is awake, and then those
values are the ones of R170 and its demands those its points and subscriptions give; and while SDO is live the four
relays stand as it demands. R180: the dormant dwell and the entry wait stand only in OPERATING. -/
def State.AlarmRelaysFollow (s : State) : Prop :=
  s.RelaysWaitForOperating ∧ s.WaitsInOperating ∧ (s.awake = true → s.sup.mode ≠ .dormant ∧ s.alu.running = true) ∧
    (s.starting = false → s.alu.subValues.length = s.settings.alu.subs.length) ∧
    (s.alu.running = true → s.SubscriptionsHeld ∧ s.alu.demands = s.aluDemandsNow) ∧
    (s.sdo.live = true → s.sdo.relays.rla = s.alu.demands.rla ∧ s.sdo.relays.rlb = s.alu.demands.rlb ∧
      s.sdo.relays.out1 = s.alu.demands.out1 ∧ s.sdo.relays.out2 = s.alu.demands.out2)

/-- R160: ALU holds 32 points, each with a configuration; while it runs, the condition it holds for a point is the one
its owner holds. -/
def State.PointsFollowOwners (s : State) : Prop :=
  s.alu.points.length = 32 ∧ s.settings.alu.points.length = 32 ∧
    (s.alu.running = true → ∀ id ∈ pointIds, (pointGet s.alu.points id).condition = s.ownerCondition id)

/-- R7 to R10: the counts and the last VALID value that go with a channel's status. -/
def Channel.InOrder (c : Channel) : Prop :=
  match c.status with
  | .unknown => c.railCount = 0 ∧ c.lastValid = none
  | .valid => c.railCount = 0 ∧ c.lastValid.isSome = true
  | .held => 1 ≤ c.railCount ∧ c.railCount ≤ 7
  | .failed => c.recoveryCount ≤ 7
  | .unused => True

/-- R7 to R10, R14 to R16: every channel in order; the AC state VALID exactly at an in-window count of 8, with the
published frequency 0 while INVALID and between 45.00 Hz and 65.00 Hz while VALID. -/
def State.MeasurementInOrder (s : State) : Prop :=
  (∀ ch ∈ [Ch.busV, .strV, .midV, .strI, .rectI, .strT, .ambT, .fuel], (chGet s.mch.channels ch).InOrder) ∧
    s.mch.ac.count ≤ 8 ∧ (s.mch.ac.valid = true ↔ s.mch.ac.count = 8) ∧
    (s.mch.ac.valid = false → s.mch.ac.frequency = 0) ∧
    (s.mch.ac.valid = true → 4500 ≤ s.mch.ac.frequency ∧ s.mch.ac.frequency ≤ 6500)

/-- R104 to R107: while the station is awake, the source view and generator-running knowledge are those that its inputs
and records give; before LISTEN nothing feeds them. -/
def State.ViewIsCurrent (s : State) : Prop :=
  (s.awake = true → s.ptb.view = s.viewNow ∧ s.ptb.genRunning = s.runningNow) ∧
    (s.starting = true → s.ptb.view = .noSource ∧ s.ptb.genRunning = false ∧ s.mch.ac.valid = false ∧
      s.contact .genRunFb ≠ .active ∧ s.contact .rectAcok ≠ .active ∧ s.ptb.peers = [])

/-! ## Resets, sleep and wake -/

/-- What a reset of a kind leaves, whatever the machine was doing (R8, R12, R14, R18, R23, R24, R29, R30, R36, R43, R54,
R61 to R67, R70, R86, R102, R117, R138, R158, R175, R179, R185). -/
def State.FreshlyReset (kind : ResetKind) (t : State) : Prop :=
  t.sup = { Sup.reset with resetKind := kind, startCause := kind.cause } ∧
    t.sdo = Sdo.reset ∧ t.mch = Mch.reset ∧ t.pli = Pli.reset ∧ t.ptb = Ptb.reset ∧ t.cbu = Cbu.reset ∧
    t.sac.frozen = false ∧ t.sac.resyncDwell = 0 ∧
    t.csc.stage = .absent ∧ t.csc.hot = false ∧ t.csc.imbalance = false ∧ t.csc.lvdWarn = false ∧
    t.csc.record = none ∧
    t.rot.state = .noInput ∧ t.rot.ramp = none ∧ t.rot.settleAt = none ∧ t.rot.intent = none ∧ t.rot.swapClock = 0 ∧
    t.gco.demand = none ∧ t.gco.startAt = none ∧ t.gco.restAt = none ∧ t.gco.startFail = false ∧
    t.alu.running = false ∧ (∀ p ∈ t.alu.points, p.condition = false ∧ p.acked = false ∧ p.timerEnd = none) ∧
    t.alu.demands = Alu.reset.demands ∧ t.alu.effFuel = false ∧ t.alu.effInhibit = false ∧ t.clock = 0

/-- What a DORMANT entry leaves, from the state `s` in which it was taken (R1, R8, R12, R17, R18, R25, R49, R69, R91,
R102, R119, R139, R154, R174, R180). -/
def State.FallenAsleep (s t : State) : Prop :=
  t.sup.phase = .dormant ∧ t.sup.mode = .dormant ∧ t.sup.entryWait = none ∧ t.sup.holdEnd = none ∧
    t.sup.periodicAt = none ∧
    t.sup.wakeAt = (if s.settings.sup.mask.timer then some (s.now + s.settings.sup.dormantCheck * 60000) else none) ∧
    (t.sup.writing.isSome = true ∨ t.sup.pendingWrite = true) ∧
    t.mch.period = none ∧ t.mch.ac = AcCapture.reset ∧ t.mch.contacts = everyContact ContactInput.reset ∧
    t.mch.lastSet = s.mch.lastSet ∧ t.mch.nextNumber = s.mch.nextNumber ∧
    t.sdo.live = false ∧ t.sdo.relays = Relays.start ∧ t.sdo.waitingCommand = none ∧
    t.sdo.operation = s.sdo.operation ∧
    t.sdo.outputs.rectVref.target = 54000 ∧ t.sdo.outputs.rectIlim.target = 300 ∧
    t.sdo.outputs.strVref.target = 54000 ∧ t.sdo.outputs.strIlim.target = 20 ∧
    t.sac = { s.sac with resyncDwell := 0 } ∧ t.csc = cscOnDormant s.csc ∧ t.ptb = s.ptb ∧ t.cbu = Cbu.reset ∧
    t.pli.window = [] ∧ t.pli.rateFault = false ∧ t.pli.stuck = false ∧ t.pli.rx = .hunt ∧
    t.pli.sequence = s.pli.sequence ∧
    t.rot.state = .noInput ∧ t.rot.runMinutes = s.rot.runMinutes ∧ t.rot.runSeconds = s.rot.runSeconds ∧
    t.gco.state.demanding = false ∧ t.gco.state ≠ .runRest ∧ t.gco.lockSet = s.gco.lockSet ∧
    t.gco.epoch = s.gco.epoch ∧ t.alu.running = false

/-- What a wake by `cause` leaves (R1, R80, R102, R178, R181). -/
def State.Woken (cause : StartCause) (s t : State) : Prop :=
  t.sup.phase = .listen ∧ t.sup.mode = .full ∧ t.sup.startCause = cause ∧ t.sup.wakeAt = none ∧
    t.sup.listenEnd = s.now + 3000 ∧ t.sup.periodicAt = some (s.now + 900000) ∧ t.ptb.peers = [] ∧
    t.pli.rx = .hunt ∧ t.mch.period = some 250 ∧ t.alu.running = true ∧ t.sac = s.sac ∧ (s.sdo.live = false → t.sdo.relays = s.sdo.relays)

/-- A record at an aging check at `now`, by the table of R98. -/
def PeerRecord.AgedTo (now : Nat) (p q : PeerRecord) : Prop :=
  if (p.state = .fresh ∨ p.state = .aged) ∧ 5 * p.intervalS * 1000 < now - p.lastHeard then
    q = { p with state := .lost, intent := none }
  else if p.state = .fresh ∧ 2 * p.intervalS * 1000 < now - p.lastHeard then q = { p with state := .aged }
  else q = p

/-- A channel after a non-rail or a RAIL sample whose engineering value is `e`, by the tables of R8, R9 and R10. -/
def Channel.TakesSample (rail : Bool) (e : Int) (c d : Channel) : Prop :=
  d.calibration = c.calibration ∧
    match c.status, rail with
    | .unused, _ => d = c
    | .unknown, false => d.status = .valid ∧ d.lastValid = some e
    | .valid, false => d.status = .valid ∧ d.lastValid = some e
    | .held, false => d.status = .valid ∧ d.lastValid = some e ∧ d.railCount = 0
    | .unknown, true => d.status = .held ∧ d.lastValid = c.lastValid ∧ d.railCount = 1
    | .valid, true => d.status = .held ∧ d.lastValid = c.lastValid ∧ d.railCount = 1
    | .held, true =>
      d.lastValid = c.lastValid ∧
        (if c.railCount + 1 < 8 then d.status = .held ∧ d.railCount = c.railCount + 1
         else d.status = .failed ∧ d.railCount = 8 ∧ d.recoveryCount = 0)
    | .failed, true => d.status = .failed ∧ d.lastValid = c.lastValid ∧ d.recoveryCount = 0
    | .failed, false =>
      if c.recoveryCount + 1 < 8 then
        d.status = .failed ∧ d.lastValid = c.lastValid ∧ d.recoveryCount = c.recoveryCount + 1
      else d.status = .valid ∧ d.lastValid = some e ∧ d.railCount = 0 ∧ d.recoveryCount = 0

/-- k_T and C_eff of the string at a temperature (R37, R38). -/
def Sac.SizedAt (a : SacSettings) (temp : Int) (y : Sac) : Prop :=
  y.kT = capacityFactor a temp ∧ y.cEff = min (cRated a) (cRated a * y.kT / 1024)

/-- SoC, D and the line deficit follow Q and C_eff (R39, R40). -/
def Sac.Derived (y : Sac) : Prop :=
  y.soc = min 1000 (y.q * 1000 / y.cEff) ∧ y.d = y.cEff - y.q ∧ y.lineDeficit = (y.d + 359999) / 360000

/-- The count of a set of period `p` with a string current of `i` dA, from `x` to `y` (R32, R34, R35). -/
def Sac.Counts (a : SacSettings) (p : Nat) (i : Int) (x y : Sac) : Prop :=
  y.synced = x.synced ∧
    (0 < i →
      (y.q : Int) = min (cRated a : Int) (x.q + (x.r + i * (p / 10 : Nat) * a.eta) / 256) ∧
        (y.r : Int) = (x.r + i * (p / 10 : Nat) * a.eta) % 256) ∧
    (i < 0 → (y.q : Int) = min (cRated a : Int) (max 0 (x.q + i * (p / 10 : Nat))) ∧ y.r = x.r) ∧
    (i = 0 → y.q = x.q ∧ y.r = x.r)

/-- What a full resync leaves (R42). -/
def Sac.Resynced (y : Sac) : Prop := y.q = y.cEff ∧ y.r = 0 ∧ y.synced = true ∧ y.resyncDwell = 0

/-- A rectifier state entered at `now`: its entry time, its enable demand and limit as SDO holds them, the limit as the
pending target while SDO drives no owner's target (R23, R122). -/
def State.InRectState (x : RectState) (now : Nat) (t : State) : Prop :=
  t.rot.state = x ∧ t.rot.entryAt = now ∧
    (t.sdo.live = true → t.sdo.relays.rectEn = x.enables ∧ t.sdo.outputs.rectIlim.target = rectTarget t.settings.rot x) ∧
    (t.sdo.live = false → t.sdo.outputs.rectIlim.waiting = some (rectTarget t.settings.rot x))

/-! ## The log and the demands -/

/-- From `s` to `t` the log gained `new`, in order: of both the last 64 entries stand (R172). -/
def State.LogGrewBy (s t : State) (new : List LogEntry) : Prop :=
  t.alu.log = (s.alu.log ++ new).drop ((s.alu.log ++ new).length - 64)

/-- An entry made now is among those by which the log grew from `s`, a log within its 64, to `t`. -/
def State.Logged (s t : State) (kind : LogKind) (origin value : Nat) : Prop :=
  s.alu.log.length ≤ 64 →
    ∃ new, s.LogGrewBy t new ∧ { time := t.alu.clockS, kind := kind, origin := origin, value := value } ∈ new

/-- A demand raised now, confirmed in the same raise when the generator is running (R146, R149). -/
def State.DemandRaised (reason : DemandReason) (s t : State) : Prop :=
  (∃ d, t.gco.demand = some d ∧ d.reason = reason ∧ d.raisedAt = s.now ∧
      d.confirmedAt = if s.ptb.genRunning = true then some s.now else none) ∧
    t.gco.state = (if s.ptb.genRunning = true then .demandRun else .demandWait) ∧
    t.gco.startAt =
      (if s.ptb.genRunning = true then none else some (s.now + s.settings.gco.startTimeoutS * 1000)) ∧
    t.gco.restAt = none ∧ t.gco.busDwell = 0 ∧ t.gco.ownDwell = 0 ∧ t.gco.plantDwell = 0 ∧
    (s.sdo.live = true → t.sdo.relays.genDemand = true) ∧ s.Logged t .demRaise 0 reason.code ∧
    (s.ptb.genRunning = true → s.Logged t .demConfirm 0 reason.code)

/-! ## Resets in RAM, notes and requests -/

/-- What a PIN or RESTART reset keeps (R47, R58, R59, R138, R158, R174, R175). -/
def State.KeptOver (s t : State) : Prop :=
  t.settings = s.settings ∧ t.sac = { s.sac with frozen := false, resyncDwell := 0, lastI := none } ∧
    t.csc.eqDue = s.csc.eqDue ∧ t.csc.eqDays = s.csc.eqDays ∧ t.csc.dayClock = s.csc.dayClock ∧
    t.rot.runMinutes = s.rot.runMinutes ∧ t.rot.runSeconds = s.rot.runSeconds ∧
    t.gco.lockSet = s.gco.lockSet ∧ t.gco.epoch = s.gco.epoch ∧ t.gco.unsettled = s.gco.unsettled ∧
    t.gco.exMinutes = s.gco.exMinutes ∧ t.gco.exSeconds = s.gco.exSeconds ∧
    t.gco.state = (if s.gco.lockSet then .locked else .idle) ∧
    t.alu.log = s.alu.log ∧ t.alu.overflow = s.alu.overflow ∧ t.alu.clockS = s.alu.clockS ∧
    t.alu.clockFrac = s.alu.clockFrac

/-- R174: a point over a PIN or RESTART reset. -/
def Point.KeptAs (latch : Bool) (p q : Point) : Prop :=
  if p.state = .latched ∨ (latch = true ∧ p.acked = false ∧ (p.state = .active ∨ p.state = .clearing)) then
    q.state = .latched
  else q.state = .inactive

/-- The receiver takes a note of station `n` and the peer table has a place for it (R80, R83, R92). -/
def State.HasRoomFor (s : State) (n : Nat) : Prop :=
  s.awake = true ∧ s.canReceive = true ∧ 1 ≤ n ∧ n ≠ s.sup.number ∧
    ((findPeer s.ptb.peers n).isSome = true ∨ s.ptb.peers.length < 14)

/-- The record of station `n`, as one that holds nothing where there is none (R92). -/
def State.recordOf (s : State) (n : Nat) : PeerRecord := (findPeer s.ptb.peers n).getD (.blank n)

/-- A request that nothing stands in the way of: the station is in FULL, outside CHECK, the entry wait and the restart
wait (R179, R180, R182, R184, R185). -/
def State.SitePlain (s : State) : Prop :=
  s.SiteReady ∧ s.sup.phase ≠ .check ∧ s.sup.mode = .full ∧ s.sup.entryWait = none ∧ s.sup.restartWait = none

/-- What every valid request leaves in that case: the site hold started again at 10 min (R179). -/
def State.heldOpen (s : State) : State := s.onSup fun x => { x with holdEnd := some (s.now + 600000), found := true }

/-- The last entry of the log is the SITE_CMD entry of command `c` answered `code` (R172, R186, R188). -/
def State.LoggedLast (t : State) (c : SiteCommand) (code : ResponseCode) : Prop :=
  ∃ e, t.alu.log.getLast? = some e ∧ e.kind = .siteCmd ∧ e.origin = 0 ∧ e.value = twoParts c.code code.code ∧
    e.time = t.alu.clockS

end Sys2Proof.Machine
end

