-- ==== Sys2Proof/WellFormed.lean ====
section
/-! DEFINITION. Which commands the outside world can give: operands within what their rows allow. A request with
arguments of the wrong length or value is well-formed (R186, R190: it is answered BAD_ARG), up to the 37 bytes that
the greatest length byte of 40 leaves for arguments (R185). -/

namespace Sys2Proof

/-- The greatest number of argument bytes of a valid request (R185). -/
def maxArgs : Nat := 37

/-- Arguments that a valid request can carry. -/
def argsFit (args : List Byte) : Bool := args.length ≤ maxArgs

/-- Arguments whose only byte, when there is just one, satisfies `ok`: the rows that share a command code. -/
def argsFor (ok : Nat → Bool) (args : List Byte) : Bool :=
  argsFit args && (args.length != 1 || ok (Machine.byteAt args 0))

/-- A station number that a note can carry (R79, R80). -/
def stationFits (station : BitVec 4) : Bool := station.toNat != 0

/-- A sum of at most 16 conversions of 12 bits (R1, R3). -/
def sumFits (n : Nat) : Bool := n ≤ 65520

/-- The sums of all channels. -/
def sumsFit (x : PerChannel Nat) : Bool := (Machine.chList x).all sumFits

/-- Whether a command is one that its row allows. -/
def wellFormed : Instr → Bool
  | .powerOn _ => true
  | .pin _ => true
  | .supplyCheck _ _ => true
  | .brownOut _ => true
  | .heldEnd _ _ => true
  | .loadEnd _ _ silent => silent.all (· ≤ 13)
  | .listenEnd _ => true
  | .checkEnd _ => true
  | .measurementSet _ sums => sumsFit sums
  | .acEdge _ => true
  | .edgeTimeout _ => true
  | .contactQualified _ _ => true
  | .pulseEnd _ => true
  | .confirmationWindowExpiry _ => true
  | .frameBegin _ => true
  | .frameComplete _ => true
  | .contentionLoss _ => true
  | .driveFault _ => true
  | .lineStuck _ => true
  | .lineStuckClear _ => true
  | .lineError _ _ => true
  | .faultTimeExpiry _ => true
  | .rateFaultClear _ => true
  | .statusNote _ station _ payload => stationFits station && payload.length == 26
  | .genNote _ station _ _ _ => stationFits station
  | .restNote _ station _ _ _ => stationFits station
  | .wakeNote _ station _ _ _ => stationFits station
  | .pointNote _ station _ pairs => stationFits station && pairs.length ≤ 16
  | .helloNote _ station _ _ _ => stationFits station
  | .quietNote _ station _ _ => stationFits station
  | .dormantLineFrame _ _ => true
  | .statusPeriodicTimer _ => true
  | .statusSpacingEnd _ => true
  | .agingCheck _ => true
  | .intentExpiry _ station => stationFits station
  | .rotationTick _ => true
  | .settleExpiry _ => true
  | .rampStep _ => true
  | .failClearExpiry _ => true
  | .genCheck _ => true
  | .startTimeout _ => true
  | .restTimerExpiry _ => true
  | .epochSettle _ => true
  | .qualifyExpiry _ point => decide (1 ≤ point) && decide (point ≤ 32)
  | .pointTimer _ => true
  | .leanDwell _ => true
  | .siteHoldEnd _ => true
  | .dormantDwell _ => true
  | .entryWaitTimeout _ => true
  | .wakeTimer _ => true
  | .sitePortWake _ => true
  | .periodicWriteTimer _ => true
  | .retainedWriteEnd _ _ => true
  | .restartReset _ => true
  | .siteBadFrame _ _ => true
  | .unknown _ code args => !Machine.siteCodeDefined code.toNat && argsFit args
  | .statusRead _ args => argsFit args
  | .peerRead _ args => argsFit args
  | .logRead _ args => argsFit args
  | .pointsRead _ args => argsFit args
  | .ack _ args => argsFit args
  | .rectForceRun _ args => argsFor (fun n => n != 2 && n != 3) args
  | .rectForceRest _ args => argsFor (· == 2) args
  | .release _ args => argsFor (· == 3) args
  | .genTest _ args => argsFit args
  | .lockoutClear _ args => argsFit args
  | .equalizeStart _ args => argsFor (· != 2) args
  | .equalizeStop _ args => argsFor (· == 2) args
  | .resyncFull _ args => argsFit args
  | .forgetPeer _ args => argsFit args
  | .restart _ args => argsFit args
  | .contactSample _ _ => true
  | .lineIdle _ => true
  | .courtesySatisfied _ => true
  | .overrun _ => true
  | .sitePortGap _ => true

end Sys2Proof
end

