-- ==== Sys2Proof/Certificates/Slice0/Obligations.lean ====
section
/-! DEFINITION. The statements for the provers. Each is listed in OBLIGATIONS.json with its rules. A statement about a command
says that `exec` answers a next state, what it holds, and which parts of the state may differ at most. -/

open Sys2Proof Sys2Proof.Machine

/-- The queue: the front command runs on the state with the queue's rest. Idling on an empty queue is the model's choice (log entry 7). -/
def Obligations.StepRunsTheFrontCommand : Prop :=
    (∀ (c : Instr) (s : State), step (s.onPending (c :: ·)) = exec c s) ∧
    (∀ s : State, s.pending = [] → step s = .next s)

/-- No command is refused, and only an impossible sum of conversions (R1, R3; log entry 8) faults. -/
def Obligations.EveryCommandAnswers : Prop :=
    ∀ (c : Instr) (s : State),
    (∃ t, exec c s = .next t) ∨
      (∃ w sums, c = .measurementSet w sums ∧ s.sumsFit sums = false ∧ exec c s = .fault .impossibleSum)

/-- R172, R174, R175: what of time every command leaves (log entry 2 for the elapsed operand, 14 for the part of a second of
the log clock). -/
def Obligations.TimeAndTheQueueGoOn : Prop :=
    ∀ (c : Instr) (s t : State), exec c s = .next t →
    t.pending = s.pending ∧
    (t.clock = s.clock + c.moment.elapsed ∨ (c.canReset = true ∧ t.clock = 0)) ∧
    (c.canLoseRam = false → s.alu.clockS ≤ 4294967295 → s.alu.clockS ≤ t.alu.clockS) ∧
    (c.canReset = false → s.starting = false → s.alu.clockS + (s.alu.clockFrac + c.moment.elapsed) / 1000000 ≤ 4294967295 →
      t.alu.clockS * 1000000 + t.alu.clockFrac = s.alu.clockS * 1000000 + s.alu.clockFrac + c.moment.elapsed) ∧
    (c.canLoseRam = false → s.starting = true → t.alu.clockS = s.alu.clockS)

/-- R183, R191: `State.StoreCanonical` is kept by every step. The form is the model's choice (log entry 4). -/
def Obligations.TheStoreStaysCanonical : Prop :=
    ∀ s t : State, s.StoreCanonical → step s = .next t → t.StoreCanonical

/-- R172, R174: `State.LogInOrder` is kept by every step. -/
def Obligations.TheLogStaysInOrder : Prop :=
    ∀ s t : State, s.LogInOrder → step s = .next t → t.LogInOrder

/-- R32, R34, R38, R39, R40: `State.ChargeInRange` is kept by every step. -/
def Obligations.TheChargeStaysInRange : Prop :=
    ∀ s t : State, s.ChargeInRange → step s = .next t → t.ChargeInRange

/-- R92, R102: `State.PeersInOrder` is kept by every step. The rising order is the model's choice (log entry 31). -/
def Obligations.ThePeerTableStaysInOrder : Prop :=
    ∀ s t : State, s.PeersInOrder → step s = .next t → t.PeersInOrder

/-- R84, R85, R86: `State.QueueInOrder` is kept by every step. That DUP_STATION ends an own frame on the line is log entry 15's. -/
def Obligations.TheTransmitQueueStaysInOrder : Prop :=
    ∀ s t : State, s.QueueInOrder → step s = .next t → t.QueueInOrder

/-- R81, R86, R178, R180, R182: `State.LineMatchesPhase` is kept by every step. Its clause that the receiver stands in HUNT during the own frame is the model's
deduction (log entry 13). -/
def Obligations.TransmissionFollowsThePhase : Prop :=
    ∀ s t : State, s.LineMatchesPhase → step s = .next t → t.LineMatchesPhase

/-- R142, R143, R150, R153, R154: `State.LockoutConsistent` is kept by every step. Before LOAD the record and the state are log entry 1's. -/
def Obligations.LockoutAndDemandStayConsistent : Prop :=
    ∀ s t : State, s.LockoutConsistent → step s = .next t → t.LockoutConsistent

/-- R122, R123, R126, R131, R132, R135, R137: `State.RotationInOrder` is kept by every step. -/
def Obligations.TheRectifierRestsOnlyUnderMains : Prop :=
    ∀ s t : State, s.RotationInOrder → step s = .next t → t.RotationInOrder

/-- R64, R65, R67: `State.StageFollowsContactor` is kept by every step. -/
def Obligations.TheStageFollowsTheContactor : Prop :=
    ∀ s t : State, s.StageFollowsContactor → step s = .next t → t.StageFollowsContactor

/-- R111, R112, R113, R114, R115, R116, R117: `State.LimitWithinShare` is kept by every step. -/
def Obligations.TheLimitStaysWithinTheShare : Prop :=
    ∀ s t : State, s.LimitWithinShare → step s = .next t → t.LimitWithinShare

/-- R24, R142, R144, R150, R154: `State.DemandBehindGates` is kept by every step. -/
def Obligations.ADemandStandsOnlyBehindItsGates : Prop :=
    ∀ s t : State, s.DemandBehindGates → step s = .next t → t.DemandBehindGates

/-- R24, R167, R168, R170, R171, R174, R180: `State.AlarmRelaysFollow` is kept by every step. That the subscriptions and demands hold from LISTEN entry on rests on
log entry 36, the model's choice to recompute them there; a forward tag given twice is log entry 35's. -/
def Obligations.TheAlarmRelaysFollowTheAlarms : Prop :=
    ∀ s t : State, s.AlarmRelaysFollow → step s = .next t → t.AlarmRelaysFollow

/-- R160, R163, R174: `State.PointsFollowOwners` is kept by every step. AC_FAIL as its owner holds it is log entry 26's. -/
def Obligations.EveryConditionIsItsOwners : Prop :=
    ∀ s t : State, s.PointsFollowOwners → step s = .next t → t.PointsFollowOwners

/-- R7, R8, R9, R10, R14, R15, R16: `State.MeasurementInOrder` is kept by every step. -/
def Obligations.ChannelsAndTheAcStateStayInOrder : Prop :=
    ∀ s t : State, s.MeasurementInOrder → step s = .next t → t.MeasurementInOrder

/-- R104, R105, R106, R107: `State.ViewIsCurrent` is kept by every step. -/
def Obligations.TheSourceViewIsCurrent : Prop :=
    ∀ s t : State, s.ViewIsCurrent → step s = .next t → t.ViewIsCurrent

/-- The invariants hold in the state after a POWER_ON reset (log entry 1 for its values before LOAD, 4 for the empty store). -/
def Obligations.EveryInvariantHoldsAtReset : Prop :=
    State.reset.StoreCanonical ∧
    State.reset.LogInOrder ∧
    State.reset.ChargeInRange ∧
    State.reset.PeersInOrder ∧
    State.reset.QueueInOrder ∧
    State.reset.LineMatchesPhase ∧
    State.reset.LockoutConsistent ∧
    State.reset.RotationInOrder ∧
    State.reset.StageFollowsContactor ∧
    State.reset.LimitWithinShare ∧
    State.reset.DemandBehindGates ∧
    State.reset.AlarmRelaysFollow ∧
    State.reset.PointsFollowOwners ∧
    State.reset.MeasurementInOrder ∧
    State.reset.ViewIsCurrent

/-- R104, whole. -/
def Obligations.WiredStationsJudgeForThemselves : Prop :=
    (∀ s t : State, s.ViewIsCurrent → step s = .next t → t.awake = true → t.wired = true →
      (t.mch.ac.valid = false → t.ptb.view = .noSource) ∧
      (t.mch.ac.valid = true → t.contact .xferGen = .unqualified → t.ptb.view = .noSource) ∧
      (t.mch.ac.valid = true → t.contact .xferGen = .active → t.ptb.view = .gen) ∧
      (t.mch.ac.valid = true → t.contact .xferGen = .inactive → t.ptb.view = .mains) ∧
      t.ptb.view ≠ .acUnknown) ∧
    (∀ (s : State) (peers : List PeerRecord), s.wired = true →
      (s.onPtb fun p => { p with peers := peers }).viewNow = s.viewNow)

/-- R32, R33, R42, R44, R47, R58, R123, R138: what no other command touches. -/
def Obligations.RetainedQuantitiesMoveOnlyByTheirRules : Prop :=
    ∀ (c : Instr) (s t : State), exec c s = .next t →
    c.isLoadEnd = false → c.canLoseRam = false →
    (c.isSet = false → c.isResync = false → t.sac.q = s.sac.q ∧ t.sac.r = s.sac.r ∧ t.sac.synced = s.sac.synced) ∧
    (c.isRotationTick = false → t.rot.runMinutes = s.rot.runMinutes ∧ t.rot.runSeconds = s.rot.runSeconds) ∧
    (c.isSet = false → t.csc.dayClock = s.csc.dayClock ∧ t.csc.eqDays = s.csc.eqDays)

/-- R183, R191: what no command writes. That the cells outside the record stay over a write that fails or is cut short is log entry 5's choice, and that the programmer's cells come in with LOAD_END log entry 4's. -/
def Obligations.TheStoreChangesOnlyWhereItIsWritten : Prop :=
    ∀ (c : Instr) (s t : State), s.StoreCanonical → exec c s = .next t →
    (c.isLoadEnd = false → ∀ a, a < 0x300 ∨ 0x314 ≤ a → storeRead t.store a = storeRead s.store a) ∧
    (c.isLoadEnd = false → c.isWriteEnd = false → (c.canReset = false ∨ s.sup.writing = none) → t.store = s.store) ∧
    (∀ w programmed silent, c = .loadEnd w programmed silent →
      ∀ a, a ∉ programmed.map (·.1) → storeRead t.store a = storeRead s.store a)

/-- R4, R21, R176, R177: the configuration stands until the next start (log entry 9: STRAPS passes within HELD_END). -/
def Obligations.TheConfigurationIsFixedBetweenStarts : Prop :=
    ∀ (c : Instr) (s t : State), exec c s = .next t → c.isLoadEnd = false → c.canReset = false →
    t.settings = s.settings ∧ t.sup.configFault = s.sup.configFault ∧ t.sup.digest = s.sup.digest ∧
    t.mch.calDefault = s.mch.calDefault ∧
    (∀ ch, (chGet t.mch.channels ch).calibration = (chGet s.mch.channels ch).calibration) ∧
    (∀ d, (dacGet t.sdo.outputs d).calibration = (dacGet s.sdo.outputs d).calibration) ∧
    (c.isHeldEnd = false → t.sup.number = s.sup.number)

/-- R150, R155 to R157: the order of lockout decisions. -/
def Obligations.TheLockoutEpochNeverGoesBack : Prop :=
    ∀ (c : Instr) (s t : State), exec c s = .next t → s.gco.unsettled = false → s.gco.epoch < 256 →
    c.canLoseRam = false → (c.isLoadEnd = true → s.sup.resetKind.keepsRam = true) →
    t.gco.unsettled = false ∧ t.gco.epoch < 256 ∧ ((t.gco.epoch : Int) - s.gco.epoch) % 256 ≤ 127 ∧
    (t.gco.epoch = s.gco.epoch → s.gco.lockSet = true → t.gco.lockSet = true)

/-- R115, R116: the slew of the applied limit. -/
def Obligations.TheLimitRisesOnlyAtASet : Prop :=
    ∀ (c : Instr) (s t : State), exec c s = .next t → s.operating = true → t.operating = true →
    if c.isSet then t.cbu.applied ≤ s.cbu.applied + (if s.mch.period = some 1000 then 4 else 1) * s.settings.cbu.slew
    else t.cbu.applied ≤ s.cbu.applied

/-- R20, R21, R23 to R25, R53, R122: owners' writes wait for OPERATING. The premise on the entry wait is a clause of
`State.AlarmRelaysFollow`. -/
def Obligations.OutputsAreNotDrivenBeforeOperating : Prop :=
    ∀ (c : Instr) (s t : State), exec c s = .next t → (s.sup.entryWait.isSome = true → s.operating = true) →
    s.sdo.live = false → t.sdo.live = false →
    c.isLoadEnd = false → c.canReset = false → (t.sup.phase = .dormant → s.sup.phase = .dormant) →
    t.sdo.relays = s.sdo.relays ∧
    (∀ d, (dacGet t.sdo.outputs d).target = (dacGet s.sdo.outputs d).target ∧
      (dacGet t.sdo.outputs d).code = (dacGet s.sdo.outputs d).code ∧
      ((dacGet s.sdo.outputs d).waiting.isSome = true → (dacGet t.sdo.outputs d).waiting.isSome = true)) ∧
    (t.rot.state ≠ s.rot.state → t.sdo.outputs.rectIlim.waiting = some (rectTarget t.settings.rot t.rot.state)) ∧
    (c.isSet = true → s.awake = true → s.mch.period.isSome = true →
      t.sdo.outputs.strVref.waiting = some t.csc.target)

/-- R72, R79, R83, R85: the own frames and their sequence. -/
def Obligations.FramesAndTheSequenceGoTogether : Prop :=
    ∀ (c : Instr) (s t : State), exec c s = .next t →
    ((∀ w, c ≠ .frameBegin w) → t.pli.tx = .send → s.pli.tx = .send) ∧
    ((∀ w, c ≠ .frameComplete w) → c.canReset = false → t.pli.sequence = s.pli.sequence) ∧
    (c.canReset = false → t.pli.sequence = s.pli.sequence ∨ t.pli.sequence = (s.pli.sequence + 1) % 16) ∧
    (c.canReset = false → s.pli.dup = true → t.pli.dup = true)

/-- R175 with the reset rows of the chapters. The model's choices in it: the values between a reset and the end of LOAD (log entry 1),
the record of a write cut short and the count of such writes (5), POWER_ON in HELD (10), the part of a second of the
log clock kept over PIN and RESTART (14), and what a PIN reset before the end of LOAD keeps (40). -/
def Obligations.ResetsStartAfresh : Prop :=
    (∀ (w : Moment) (s : State),
      ∃ t, exec (.powerOn w) s = .next t ∧
        t.FreshlyReset .powerOn ∧
        t = { State.reset with sup := { Sup.reset with resetKind := .powerOn, startCause := .powerOn }, store := t.store, spoiled := t.spoiled, pending := s.pending } ∧
        (s.sup.writing = none → t.store = s.store ∧ t.spoiled = s.spoiled) ∧
        (s.StoreCanonical → s.sup.writing.isSome = true → t.spoiled = s.spoiled + 1 ∧ (readRecord t.store [] 13).isLeft = true)) ∧
    (∀ (w : Moment) (s : State),
      s.sup.phase ≠ .held →
      s.sup.lowCount = 4 →
      ∃ t, exec (.brownOut w) s = .next t ∧
        t.FreshlyReset .brownOut ∧
        t = { State.reset with sup := { Sup.reset with resetKind := .brownOut, startCause := .brownOut }, store := t.store, spoiled := t.spoiled, pending := s.pending } ∧
        (s.sup.writing = none → t.store = s.store ∧ t.spoiled = s.spoiled) ∧
        (s.StoreCanonical → s.sup.writing.isSome = true → t.spoiled = s.spoiled + 1 ∧ (readRecord t.store [] 13).isLeft = true)) ∧
    (∀ (w : Moment) (s : State),
      s.sup.phase ≠ .held →
      ∃ t, exec (.pin w) s = .next t ∧
        t.FreshlyReset .pin ∧
        t.pending = s.pending ∧
        (s.sup.writing = none → t.store = s.store ∧ t.spoiled = s.spoiled) ∧
        (s.StoreCanonical → s.sup.writing.isSome = true → t.spoiled = s.spoiled + 1 ∧ (readRecord t.store [] 13).isLeft = true) ∧
        (s.upTo w).KeptOver t ∧
        (s.alu.points.length = 32 → s.settings.alu.points.length = 32 → t.alu.points.length = 32 ∧ ∀ id ∈ pointIds, Point.KeptAs (pointConfig s id).latch (pointGet s.alu.points id) (pointGet t.alu.points id))) ∧
    (∀ (w : Moment) (s : State),
      (s.upTo w).restartDue = true →
      ∃ t, exec (.restartReset w) s = .next t ∧
        t.FreshlyReset .restart ∧
        t.pending = s.pending ∧
        (t.store = s.store ∧ t.spoiled = s.spoiled) ∧
        (s.upTo w).KeptOver t ∧
        (s.alu.points.length = 32 → s.settings.alu.points.length = 32 → t.alu.points.length = 32 ∧ ∀ id ∈ pointIds, Point.KeptAs (pointConfig s id).latch (pointGet s.alu.points id) (pointGet t.alu.points id)))

/-- R175, R183: the supply monitor. The model's readings in it: a PIN or BROWN_OUT cause in HELD (log entry 10), and a write
triggered before the end of LOAD, which leaves the periodic write timer stopped (27). -/
def Obligations.TheSupplyMonitorCountsAndWarns : Prop :=
    (∀ (w : Moment) (s : State),
      s.sup.phase = .held →
      exec (.pin w) s = .next ((s.upTo w).onSup fun x => { x with lowCount := 0, armed := true, rearmCount := 0 })) ∧
    (∀ (w : Moment) (s : State),
      s.sup.phase = .held →
      s.sup.lowCount = 4 →
      exec (.brownOut w) s = .next ((s.upTo w).onSup fun x => { x with lowCount := 0, armed := true, rearmCount := 0 })) ∧
    (∀ (w : Moment) (s : State),
      s.Steady →
      s.sup.lowCount ≠ 4 →
      exec (.brownOut w) s = .next ((s.upTo w))) ∧
    (∀ (w : Moment) (s : State),
      s.Steady →
      s.sup.rearmCount ≤ 1000 →
      exec (.supplyCheck w .good) s = .next ((s.upTo w).onSup fun x => { x with lowCount := 0, rearmCount := min 1000 (x.rearmCount + 1), armed := x.armed || decide (999 ≤ x.rearmCount) })) ∧
    (∀ (w : Moment) (s : State) (zone : SupplyZone),
      s.Steady →
      zone ≠ .good →
      s.sup.armed = false →
      exec (.supplyCheck w zone) s = .next ((s.upTo w).onSup fun x => { x with lowCount := if zone = .belowReset then satInc 4 x.lowCount else 0, rearmCount := 0 })) ∧
    (∀ (w : Moment) (s : State) (zone : SupplyZone),
      s.Steady →
      zone ≠ .good →
      s.sup.armed = true →
      ∃ t, exec (.supplyCheck w zone) s = .next t ∧
        t.sup.armed = false ∧
        t.sup.rearmCount = 0 ∧
        (t.sup.lowCount = if zone = .belowReset then satInc 4 s.sup.lowCount else 0) ∧
        t.WritePrompted ∧
        (s.gco.unsettled = false → s.sup.writing = none → t.sup.writing = some s.retainedNow) ∧
        (s.starting = true → t.sup.periodicAt = s.sup.periodicAt) ∧
        (s.upTo w).ChangedOnly [.sup] t)

/-- R176 to R178 with the LOAD rules of the chapters. The model's choices and readings in it: STRAPS within HELD_END (log entry 9),
the programmed cells that LOAD_END brings in (4), the plant digest over the values held after clamping (17), the
moment of the 0 dA of NO_INPUT (37), and the start after a PIN reset before the end of LOAD (40). -/
def Obligations.StrapsAndLoadConfigureTheStation : Prop :=
    (∀ (w : Moment) (s : State) (straps : BitVec 4),
      s.sup.phase = .held →
      exec (.heldEnd w straps) s = .next ((s.upTo w).onSup fun x => { x with phase := .load, number := straps.toNat })) ∧
    (∀ (w : Moment) (s : State) (programmed : List (Nat × Byte)) (silent : List Nat),
      s.sup.phase = .load →
      ∃ t, exec (.loadEnd w programmed silent) s = .next t ∧
        (t.sup.phase = .listen ∧ t.sup.mode = .full ∧ t.sup.listenEnd = (s.upTo w).now + 3000) ∧
        t.store = storeProgram s.store programmed ∧
        (∀ b, readRecord t.store silent 0 = .inr b → t.settings = loadSettings b ∧ t.sup.configFault = false) ∧
        ((readRecord t.store silent 0).isLeft = true → t.settings = .builtIn ∧ t.sup.configFault = true) ∧
        t.sup.digest = plantDigest t.settings ∧
        (t.mch.calDefault = true ↔ ∃ r, 1 ≤ r ∧ r ≤ 12 ∧ (readRecord t.store silent r).isLeft = true) ∧
        t.sup.retainLost = (readRecord t.store silent 13).isLeft ∧
        (t.sup.number = s.sup.number ∧ t.sup.resetKind = s.sup.resetKind ∧ t.sup.startCause = s.sup.startCause) ∧
        t.sup.periodicAt = some ((s.upTo w).now + 900000) ∧
        t.alu.running = true ∧
        (t.sac.frozen = false ∧ t.sac.resyncDwell = 0) ∧
        (s.sdo.live = false → s.rot.state = .noInput → t.sdo.outputs.rectIlim.waiting = some 0) ∧
        (s.upTo w).ChangedOnly [.settings, .mch, .sdo, .sac, .csc, .rot, .gco, .alu, .sup, .pli, .store] t) ∧
    (∀ (w : Moment) (s : State) (programmed : List (Nat × Byte)) (silent : List Nat),
      s.sup.phase = .load →
      s.sup.resetKind.keepsRam = false →
      ∃ t, exec (.loadEnd w programmed silent) s = .next t ∧
        (∀ b, readRecord t.store silent 13 = .inr b → t.sac.q = min (cRated t.settings.sac) (u32At b 0) ∧ t.sac.r = byteAt b 4 ∧ t.sac.synced = (byteAt b 5 == 1) ∧ t.rot.runMinutes = u32At b 6 ∧ t.gco.lockSet = (byteAt b 10 == 1) ∧ t.gco.epoch = byteAt b 11 ∧ t.gco.unsettled = false ∧ t.csc.eqDays = u16At b 12 ∧ t.gco.exMinutes = u16At b 14) ∧
        ((readRecord t.store silent 13).isLeft = true → t.sac.q = cRated t.settings.sac / 2 ∧ t.sac.r = 0 ∧ t.sac.synced = false ∧ t.rot.runMinutes = 0 ∧ t.gco.lockSet = false ∧ t.gco.epoch = 0 ∧ t.gco.unsettled = true ∧ t.csc.eqDays = 0 ∧ t.gco.exMinutes = 0) ∧
        (t.rot.runSeconds = 0 ∧ t.csc.dayClock = 0 ∧ t.csc.eqDue = false ∧ t.gco.exSeconds = 0) ∧
        (t.gco.state = if t.gco.lockSet then .locked else .idle)) ∧
    (∀ (w : Moment) (s : State) (programmed : List (Nat × Byte)) (silent : List Nat),
      s.sup.phase = .load →
      s.sup.resetKind.keepsRam = true →
      ∃ t, exec (.loadEnd w programmed silent) s = .next t ∧
        (t.sac.q = min (cRated t.settings.sac) s.sac.q ∧ t.sac.r = s.sac.r ∧ t.sac.synced = s.sac.synced) ∧
        (t.rot.runMinutes = s.rot.runMinutes ∧ t.rot.runSeconds = s.rot.runSeconds) ∧
        (t.gco.lockSet = s.gco.lockSet ∧ t.gco.epoch = s.gco.epoch ∧ t.gco.unsettled = s.gco.unsettled) ∧
        (t.csc.eqDays = s.csc.eqDays ∧ t.csc.dayClock = s.csc.dayClock ∧ t.csc.eqDue = s.csc.eqDue))

/-- R178, R182 with what the chapters do at OPERATING entry. -/
def Obligations.ListenEndsInOperatingOrCheck : Prop :=
    (∀ (w : Moment) (s : State),
      s.sup.phase = .listen →
      s.sup.listenEnd ≤ (s.upTo w).now →
      (s.sup.startCause ≠ .wakeTimer ∨ s.sup.found = true) →
      s.pli.queue = [] →
      s.pli.tx = .off →
      ∃ t, exec (.listenEnd w) s = .next t ∧
        t.sup.phase = .operating ∧
        (t.sdo.live = true ∧ t.sdo.outputs.rectVref.target = s.settings.busFloatMV) ∧
        (t.sdo.relays.rectEn = s.rot.state.enables ∧ t.sdo.relays.genDemand = s.gco.state.demanding) ∧
        (t.pli.granted = true ∧ t.pli.kinds = [.hello, .status, .point]) ∧
        (t.pli.tx = if s.sup.number = 0 ∨ s.pli.dup = true then .off else .wait) ∧
        t.pli.Holds .hello (leBytes 2 s.sup.digest ++ [BitVec.ofNat 8 s.sup.startCause.code]) ∧
        (t.csc.stage = if s.csc.stage = .discharge then (if s.ptb.view = .noSource then .discharge else if s.settings.csc.bulkEntrySoc ≤ s.sac.soc then .float else .bulk) else s.csc.stage) ∧
        (t.gco.settleAt = if s.gco.unsettled then some ((s.upTo w).now + 10000) else none) ∧
        (t.rot = s.rot ∧ t.sac = s.sac ∧ t.ptb = s.ptb ∧ t.mch = s.mch) ∧
        (s.upTo w).ChangedOnly [.sup, .pli, .sdo, .csc, .cbu, .gco, .alu] t) ∧
    (∀ (w : Moment) (s : State),
      s.sup.phase = .listen →
      s.sup.listenEnd ≤ (s.upTo w).now →
      s.sup.startCause = .wakeTimer →
      s.sup.found = false →
      exec (.listenEnd w) s = .next ((s.upTo w).onSup fun x => { x with phase := .check, checkEnd := (s.upTo w).now + 60000 }))

/-- R180, R182 with what the chapters do at DORMANT entry (log entry 9 for the phase of a sleeping station). -/
def Obligations.TheStationFallsAsleep : Prop :=
    (∀ (w : Moment) (s : State),
      s.sup.phase = .check →
      s.Steady →
      s.sup.checkEnd ≤ (s.upTo w).now →
      ∃ t, exec (.checkEnd w) s = .next t ∧
        (s.upTo w).FallenAsleep t ∧
        (s.upTo w).ChangedOnly [.mch, .sac, .csc, .pli, .cbu, .rot, .gco, .alu, .sdo, .sup] t) ∧
    (∀ (w : Moment) (s : State),
      due s.sup.entryWait (s.upTo w).now = true →
      ∃ t, exec (.entryWaitTimeout w) s = .next t ∧
        (s.upTo w).FallenAsleep t ∧
        (t.pli.granted = false ∧ t.alu.pointTimerAt = none) ∧
        (s.pli.tx ≠ .send → t.pli.tx = .off ∧ t.pli.queue = []) ∧
        (s.pli.tx = .send → t.pli.tx = .send) ∧
        (s.upTo w).Logged t .mode 0 (twoParts s.sup.mode.code 2) ∧
        (s.upTo w).ChangedOnly [.mch, .sac, .csc, .pli, .cbu, .rot, .gco, .alu, .sdo, .sup] t)

/-- R91, R181: the wakes; AC_SENSE is with the AC capture (log entry 13 for the receiver, 38 for courtesy asleep). -/
def Obligations.TheStationWakes : Prop :=
    (∀ (w : Moment) (s : State),
      s.asleep = true →
      due s.sup.wakeAt (s.upTo w).now = true →
      ∃ t, exec (.wakeTimer w) s = .next t ∧
        State.Woken .wakeTimer (s.upTo w) t ∧
        (s.upTo w).ChangedOnly [.mch, .pli, .ptb, .alu, .sup, .csc, .cbu, .rot, .gco, .sdo] t) ∧
    (∀ (w : Moment) (s : State),
      s.asleep = true →
      s.settings.sup.mask.sitePort = true →
      ∃ t, exec (.sitePortWake w) s = .next t ∧
        State.Woken .wakeSite (s.upTo w) t ∧
        t.sup.siteDiscard = true ∧
        (s.upTo w).ChangedOnly [.mch, .pli, .ptb, .alu, .sup, .csc, .cbu, .rot, .gco, .sdo] t) ∧
    (∀ (w : Moment) (s : State),
      s.Steady →
      (s.asleep = false ∨ s.settings.sup.mask.sitePort = false) →
      exec (.sitePortWake w) s = .next ((s.upTo w))) ∧
    (∀ (w : Moment) (s : State) (frame : List Byte),
      s.asleep = true →
      s.settings.sup.mask.line = false →
      exec (.dormantLineFrame w frame) s = .next ((s.upTo w))) ∧
    (∀ (w : Moment) (s : State) (frame : List Byte),
      s.asleep = true →
      s.canReceive = true →
      framePasses frame = true →
      ∃ t, exec (.dormantLineFrame w frame) s = .next t ∧
        State.Woken .wakeLine (s.upTo w) t ∧
        t.pli.courtesyPending = false ∧
        (s.upTo w).ChangedOnly [.mch, .pli, .ptb, .alu, .sup, .csc, .cbu, .rot, .gco, .sdo] t) ∧
    (∀ (w : Moment) (s : State) (frame : List Byte),
      s.asleep = true →
      s.canReceive = true →
      framePasses frame = false →
      exec (.dormantLineFrame w frame) s = .next ((s.upTo w).onPli fun p => { p with rx := .hunt, courtesyPending := false }))

/-- R1 to R12: the end of a period (log entry 32 for the rounding of R3). -/
def Obligations.ASetTakesEveryChannel : Prop :=
    (∀ (w : Moment) (s : State) (sums : PerChannel Nat) (p : Nat),
      s.awake = true →
      s.mch.period = some p →
      s.sumsFit sums = true →
      ∃ t, exec (.measurementSet w sums) s = .next t ∧
        (∀ ch, Channel.TakesSample (isRail ((chGet sums ch + conversions p / 2) / conversions p)) (engineering ch (correctedCode (chGet s.mch.channels ch).calibration ((chGet sums ch + conversions p / 2) / conversions p))) (chGet s.mch.channels ch) (chGet t.mch.channels ch)) ∧
        (t.mch.lastSet = some { number := s.mch.nextNumber, period := p, pairs := chMap (fun _ c => c.reading) t.mch.channels }) ∧
        t.mch.nextNumber = (s.mch.nextNumber + 1) % 65536 ∧
        t.mch.period = periodOf s.sup.mode ∧
        (t.mch.ac = s.mch.ac ∧ t.mch.contacts = s.mch.contacts) ∧
        (s.upTo w).ChangedOnly [.mch, .sac, .csc, .cbu, .alu, .sdo, .pli, .sup, .gco] t)

/-- R32 to R40, R42 to R44: the count of a set and the resyncs that come with it. The capacity is above 0 at every setting, so that a resync leaves SoC 1,000. Which set is the most recent follows the order of the takers (log entry 3). -/
def Obligations.ASetCountsTheCharge : Prop :=
    (∀ (w : Moment) (s : State) (sums : PerChannel Nat) (p : Nat),
      s.awake = true →
      s.mch.period = some p →
      s.sumsFit sums = true →
      ∃ t, exec (.measurementSet w sums) s = .next t ∧
        (t.channel .strI = none → t.sac.frozen = true ∧ t.sac.lastI = none ∧ t.sac.resyncDwell = 0) ∧
        (∀ i, t.channel .strI = some i → t.sac.frozen = false ∧ t.sac.lastI = some i ∧ Sac.SizedAt s.settings.sac t.stringT t.sac ∧ t.sac.Derived) ∧
        (s.upTo w).ChangedOnly [.mch, .sac, .csc, .cbu, .alu, .sdo, .pli, .sup, .gco] t) ∧
    (∀ (w : Moment) (s : State) (sums : PerChannel Nat) (p : Nat),
      s.awake = true →
      s.mch.period = some p →
      s.sumsFit sums = true →
      1 ≤ s.settings.sac.resyncHold →
      s.csc.stage ≠ .float →
      ∃ t, exec (.measurementSet w sums) s = .next t ∧
        (t.csc.stage ≠ .float → t.channel .strI = none → t.sac = { s.sac with frozen := true, resyncDwell := 0, lastI := none }) ∧
        (t.csc.stage ≠ .float → ∀ i, t.channel .strI = some i → Sac.Counts s.settings.sac p i s.sac t.sac ∧ t.sac.resyncDwell = 0)) ∧
    (∀ (w : Moment) (s : State) (sums : PerChannel Nat) (p : Nat),
      s.awake = true →
      s.mch.period = some p →
      s.sumsFit sums = true →
      s.csc.stage = .float →
      ∃ t, exec (.measurementSet w sums) s = .next t ∧
        (t.csc.stage = .float → t.channel .strI = none → t.sac = { s.sac with frozen := true, resyncDwell := 0, lastI := none }) ∧
        (t.csc.stage = .float → ∀ i, t.channel .strI = some i → if (-20 ≤ i ∧ i ≤ (s.settings.csc.tailDA : Int)) then (if s.settings.sac.resyncHold * 60000 ≤ s.sac.resyncDwell + p then t.sac.Resynced else Sac.Counts s.settings.sac p i s.sac t.sac ∧ t.sac.resyncDwell = s.sac.resyncDwell + p) else 1 ≤ s.settings.sac.resyncHold → Sac.Counts s.settings.sac p i s.sac t.sac ∧ t.sac.resyncDwell = 0)) ∧
    (∀ (w : Moment) (s : State) (sums : PerChannel Nat) (p : Nat),
      s.awake = true →
      s.mch.period = some p →
      s.sumsFit sums = true →
      1 ≤ s.settings.sac.resyncHold →
      s.csc.stage = .absorb →
      ∃ t, exec (.measurementSet w sums) s = .next t ∧
        (t.csc.stage = .float → ∀ i j, t.channel .strI = some i → s.sac.lastI = some j → ((-20 ≤ i ∧ i ≤ (s.settings.csc.tailDA : Int)) ∧ (-20 ≤ j ∧ j ≤ (s.settings.csc.tailDA : Int)) → t.sac.synced = true) ∧ (¬(-20 ≤ i ∧ i ≤ (s.settings.csc.tailDA : Int)) ∧ ¬(-20 ≤ j ∧ j ≤ (s.settings.csc.tailDA : Int)) → t.sac.synced = s.sac.synced)) ∧
        (t.csc.stage = .float → w.order = [] → ∀ i, t.channel .strI = some i → if (-20 ≤ i ∧ i ≤ (s.settings.csc.tailDA : Int)) then t.sac.Resynced else Sac.Counts s.settings.sac p i s.sac t.sac ∧ t.sac.resyncDwell = 0) ∧
        (t.csc.stage = .float → w.order = [] → t.channel .strI = none → t.sac = { s.sac with frozen := true, resyncDwell := 0, lastI := none }))

/-- R52 to R66: what a set does to the stage and the contactor's commands. -/
def Obligations.ASetMovesTheStageOneStep : Prop :=
    (∀ (w : Moment) (s : State) (sums : PerChannel Nat) (p : Nat),
      s.operating = true →
      s.mch.period = some p →
      s.sumsFit sums = true →
      ∃ t, exec (.measurementSet w sums) s = .next t ∧
        (t.csc.stage = s.csc.stage ∨ (s.csc.stage, t.csc.stage) ∈ [(Stage.float, Stage.bulk), (.float, .equalize), (.bulk, .absorb), (.absorb, .float), (.equalize, .float)]) ∧
        (t.csc.hot = if s.csc.hot then decide ((s.settings.csc.hotDC : Int) - 50 < t.stringT) else decide ((s.settings.csc.hotDC : Int) ≤ t.stringT)) ∧
        (s.csc.stage = .bulk → ∀ v, t.channel .strV = some v → (t.csc.stage = .absorb ↔ (targetFor s.settings.csc s.settings.csc.absorbCell t.stringT : Int) - 200 ≤ v)) ∧
        t.csc.target = targetFor s.settings.csc (stageCell s.settings.csc t.csc.stage t.csc.hot) t.stringT ∧
        (t.sdo.live = true → t.sdo.outputs.strVref.target = t.csc.target) ∧
        (s.upTo w).ChangedOnly [.mch, .sac, .csc, .cbu, .alu, .sdo, .pli, .sup, .gco] t) ∧
    (∀ (w : Moment) (s : State) (sums : PerChannel Nat) (p : Nat),
      s.operating = true →
      s.mch.period = some p →
      s.sumsFit sums = true →
      s.csc.stage ≠ .isolated →
      s.csc.record = none →
      s.settings.csc.lvdDwellS * 1000 ≤ s.csc.lvdDwell + p →
      s.sdo.operation = none →
      s.position = some .closing →
      ∃ t, exec (.measurementSet w sums) s = .next t ∧
        (∀ v, t.channel .strV = some v → v ≤ s.settings.csc.lvdMV → t.csc.record = some .opening ∧ t.csc.lvdDwell = 0 ∧ t.sdo.operation = some { direction := .opening, attempt := 1, pulseStart := (s.upTo w).now, driven := true }) ∧
        (∀ v, t.channel .strV = some v → s.settings.csc.lvdMV < v → t.csc.record = none ∧ t.csc.lvdDwell = 0 ∧ t.sdo.operation = none) ∧
        (s.upTo w).ChangedOnly [.mch, .sac, .csc, .cbu, .alu, .sdo, .pli, .sup, .gco] t) ∧
    (∀ (w : Moment) (s : State) (sums : PerChannel Nat) (p : Nat),
      s.operating = true →
      s.mch.period = some p →
      s.sumsFit sums = true →
      s.csc.stage = .isolated →
      s.csc.record = none →
      s.settings.csc.reconnectDwellS * 1000 ≤ s.csc.reconnectDwell + p →
      s.ptb.view ≠ .noSource →
      s.sdo.operation = none →
      s.position = some .opening →
      ∃ t, exec (.measurementSet w sums) s = .next t ∧
        (∀ v, t.channel .busV = some v → s.settings.csc.reconnectMV ≤ v → t.csc.record = some .closing ∧ t.csc.reconnectDwell = 0 ∧ t.sdo.operation = some { direction := .closing, attempt := 1, pulseStart := (s.upTo w).now, driven := true }) ∧
        (s.upTo w).ChangedOnly [.mch, .sac, .csc, .cbu, .alu, .sdo, .pli, .sup, .gco] t)

/-- R14 to R17: the AC sense capture. -/
def Obligations.TheAcCaptureFollowsItsEdges : Prop :=
    (∀ (w : Moment) (s : State),
      s.Steady →
      s.capturing = true →
      s.mch.ac.reference = none →
      exec (.acEdge w) s = .next ((s.upTo w).onMch fun m => { m with ac := { m.ac with reference := some (s.upTo w).clock } })) ∧
    (∀ (w : Moment) (s : State) (r : Nat),
      s.capturing = true →
      s.mch.ac.reference = some r →
      15385 ≤ (s.upTo w).clock - r →
      (s.upTo w).clock - r ≤ 22222 →
      s.mch.ac.count ≤ 8 →
      ∃ t, exec (.acEdge w) s = .next t ∧
        (t.mch.ac = { reference := some (s.upTo w).clock, count := min 8 (s.mch.ac.count + 1), valid := s.mch.ac.valid || decide (7 ≤ s.mch.ac.count), lastPeriod := (s.upTo w).clock - r, frequency := if s.mch.ac.valid = true ∨ 7 ≤ s.mch.ac.count then (100000000 + ((s.upTo w).clock - r) / 2) / ((s.upTo w).clock - r) else 0 }) ∧
        (s.mch.ac.valid = t.mch.ac.valid → s.Steady → t = (s.upTo w).onMch fun m => { m with ac := t.mch.ac }) ∧
        (s.asleep = true → s.mch.ac.valid = false → 7 ≤ s.mch.ac.count → State.Woken .wakeAc (s.upTo w) t) ∧
        (s.upTo w).ChangedOnly [.mch, .ptb, .csc, .cbu, .rot, .gco, .pli, .sup, .alu, .sdo, .sac] t) ∧
    (∀ (w : Moment) (s : State) (r : Nat),
      s.capturing = true →
      s.mch.ac.reference = some r →
      ((s.upTo w).clock - r < 15385 ∨ 22222 < (s.upTo w).clock - r) →
      ∃ t, exec (.acEdge w) s = .next t ∧
        t.mch.ac = { s.mch.ac with reference := some (s.upTo w).clock, count := 0, valid := false, frequency := 0 } ∧
        (s.mch.ac.valid = false → s.Steady → t = (s.upTo w).onMch fun m => { m with ac := t.mch.ac }) ∧
        (s.upTo w).ChangedOnly [.mch, .ptb, .csc, .cbu, .rot, .gco, .pli, .sup, .alu, .sdo, .sac] t) ∧
    (∀ (w : Moment) (s : State) (r : Nat),
      s.capturing = true →
      s.mch.ac.reference = some r →
      r + 40000 ≤ (s.upTo w).clock →
      ∃ t, exec (.edgeTimeout w) s = .next t ∧
        t.mch.ac = { s.mch.ac with reference := none, count := 0, valid := false, frequency := 0 } ∧
        (s.mch.ac.valid = false → s.Steady → t = (s.upTo w).onMch fun m => { m with ac := t.mch.ac }) ∧
        (s.upTo w).ChangedOnly [.mch, .ptb, .csc, .cbu, .rot, .gco, .pli, .sup, .alu, .sdo, .sac] t)

/-- R18, R19, R133, R134: the contact inputs, and what the two of the rectifier do to it. That RECT_ACOK at 0
in NO_INPUT is no entry to NO_INPUT is the model's choice (log entry 41). -/
def Obligations.ContactsQualifyInFiveSamples : Prop :=
    (∀ (w : Moment) (s : State) (levels : PerContact Bool),
      s.Steady →
      s.awake = true →
      ∃ t, exec (.contactSample w levels) s = .next t ∧
        (∀ i, contactGet t.mch.contacts i = if s.wired = false ∧ (i = .xferGen ∨ i = .genRunFb) then contactGet s.mch.contacts i else if (contactGet s.mch.contacts i).state = (if contactGet levels i then Qualified.active else .inactive) then { contactGet s.mch.contacts i with candidate := none, count := 0 } else if (contactGet s.mch.contacts i).candidate = some (contactGet levels i) then { contactGet s.mch.contacts i with count := satInc 5 (contactGet s.mch.contacts i).count } else { contactGet s.mch.contacts i with candidate := some (contactGet levels i), count := 1 }) ∧
        (t = (s.upTo w).onMch fun m => { m with contacts := t.mch.contacts })) ∧
    (∀ (w : Moment) (s : State) (i : Contact) (level : Bool),
      s.awake = true →
      (contactGet s.mch.contacts i).candidate = some level →
      (contactGet s.mch.contacts i).count = 5 →
      ∃ t, exec (.contactQualified w i) s = .next t ∧
        (contactGet t.mch.contacts i = { state := if level then .active else .inactive, candidate := none, count := 0 }) ∧
        (∀ j, j ≠ i → contactGet t.mch.contacts j = contactGet s.mch.contacts j) ∧
        (t.mch.channels = s.mch.channels ∧ t.mch.lastSet = s.mch.lastSet ∧ t.mch.ac = s.mch.ac) ∧
        (s.alu.running = true → s.alu.points.length = 32 → 1 ≤ inputPoint i → (pointGet t.alu.points (inputPoint i)).condition = level) ∧
        (s.upTo w).ChangedOnly [.mch, .ptb, .csc, .cbu, .rot, .gco, .pli, .sup, .alu, .sdo, .sac] t) ∧
    (∀ (w : Moment) (s : State),
      s.Steady →
      s.awake = true →
      s.mch.contacts.rectFail.candidate = some true →
      s.mch.contacts.rectFail.count = 5 →
      ∃ t, exec (.contactQualified w .rectFail) s = .next t ∧
        (s.rot.state ≠ .failed → State.InRectState .failed (s.upTo w).now t ∧ t.rot.ramp = none ∧ t.rot.settleAt = none ∧ t.rot.intent = none) ∧
        (s.rot.state = .failed → t.rot = { s.rot with failSince := none }) ∧
        t.rot.failSince = none ∧
        (s.rot.state ≠ .failed → s.alu.running = true → s.alu.points.length = 32 → (pointGet t.alu.points 8).condition = true) ∧
        (s.upTo w).ChangedOnly [.mch, .rot, .sdo, .pli, .alu] t) ∧
    (∀ (w : Moment) (s : State),
      s.Steady →
      s.awake = true →
      s.mch.contacts.rectFail.candidate = some false →
      s.mch.contacts.rectFail.count = 5 →
      ∃ t, exec (.contactQualified w .rectFail) s = .next t ∧
        (t.rot = if s.rot.state = .failed then { s.rot with failSince := some (s.upTo w).now } else s.rot) ∧
        (s.upTo w).ChangedOnly [.mch, .rot] t) ∧
    (∀ (w : Moment) (s : State),
      s.RelaysWaitForOperating →
      s.awake = true →
      s.mch.contacts.rectAcok.candidate = some true →
      s.mch.contacts.rectAcok.count = 5 →
      ∃ t, exec (.contactQualified w .rectAcok) s = .next t ∧
        (s.rot.state = .noInput → State.InRectState .softStart (s.upTo w).now t ∧ t.rot.ramp = some 0) ∧
        (s.rot.state ≠ .noInput → s.rot.state ≠ .resting → s.rot.state ≠ .restPending → s.rot.state ≠ .forcedRest → t.rot = s.rot) ∧
        (s.rot.state ≠ .noInput → s.ptb.view = .mains → s.wired = true → s.ptb.view = s.viewNow → t.rot = s.rot)) ∧
    (∀ (w : Moment) (s : State),
      s.RelaysWaitForOperating →
      s.awake = true →
      s.mch.contacts.rectAcok.candidate = some false →
      s.mch.contacts.rectAcok.count = 5 →
      ∃ t, exec (.contactQualified w .rectAcok) s = .next t ∧
        (s.rot.state = .noInput ∨ s.rot.state = .failed → t.rot = s.rot) ∧
        (s.rot.state ≠ .noInput → s.rot.state ≠ .failed → State.InRectState .noInput (s.upTo w).now t ∧ t.rot.ramp = none ∧ t.rot.settleAt = none ∧ t.rot.intent = none))

/-- R26 to R29, R64, R65: the contactor operation, and the movements that CSC has not commanded (log entry 21 for the
first qualification after a wake). -/
def Obligations.TheContactorIsTriedTwice : Prop :=
    (∀ (w : Moment) (s : State) (op : ContactorOp),
      s.Steady →
      s.sdo.operation = some op →
      op.pulseStart + 100 ≤ (s.upTo w).now →
      exec (.pulseEnd w) s = .next ((s.upTo w).onSdo fun x => { x with operation := some { op with driven := false } })) ∧
    (∀ (w : Moment) (s : State) (op : ContactorOp),
      s.Steady →
      s.sdo.operation = some op →
      op.pulseStart + 500 ≤ (s.upTo w).now →
      op.attempt = 1 →
      exec (.confirmationWindowExpiry w) s = .next ((s.upTo w).onSdo fun x => { x with operation := some { direction := op.direction, attempt := 2, pulseStart := (s.upTo w).now, driven := true } })) ∧
    (∀ (w : Moment) (s : State) (op : ContactorOp),
      s.Steady →
      s.sdo.operation = some op →
      op.pulseStart + 500 ≤ (s.upTo w).now →
      op.attempt ≠ 1 →
      ∃ t, exec (.confirmationWindowExpiry w) s = .next t ∧
        (t.sdo.contactorFault = true ∧ t.sdo.lastFailed = some op.direction) ∧
        (t.csc = { s.csc with record := if s.csc.record = some op.direction then none else s.csc.record }) ∧
        (s.upTo w).Logged t .contactor 0 (twoParts op.direction.code (op.attempt % 4 + 4)) ∧
        (s.sdo.waitingCommand = none → t.sdo.operation = none ∧ t.sdo.waitingCommand = none) ∧
        (∀ d, s.sdo.waitingCommand = some d → s.position = some d → t.sdo.operation = none ∧ t.sdo.waitingCommand = none) ∧
        (∀ d, s.sdo.waitingCommand = some d → s.position = none → t.sdo.operation = none ∧ t.sdo.waitingCommand = some d) ∧
        (∀ d, s.sdo.waitingCommand = some d → s.position ≠ some d → s.position ≠ none → t.sdo.operation = some { direction := d, attempt := 1, pulseStart := (s.upTo w).now, driven := true } ∧ t.sdo.waitingCommand = none) ∧
        (s.alu.running = true → s.alu.points.length = 32 → (pointGet t.alu.points 9).condition = true) ∧
        (s.upTo w).ChangedOnly [.sdo, .csc, .alu, .pli] t) ∧
    (∀ (w : Moment) (s : State) (op : ContactorOp) (level : Bool),
      s.awake = true →
      s.sdo.operation = some op →
      s.mch.contacts.ctrFb.candidate = some level →
      s.mch.contacts.ctrFb.count = 5 →
      (op.direction = if level then .closing else .opening) →
      ∃ t, exec (.contactQualified w .ctrFb) s = .next t ∧
        (t.sdo.contactorFault = false ∧ t.sdo.lastFailed = none) ∧
        (s.sdo.waitingCommand = none → t.sdo.operation = none) ∧
        t.csc.record ≠ some op.direction ∧
        (level = false → t.csc.stage = .isolated) ∧
        (s.upTo w).Logged t .contactor 0 (twoParts op.direction.code (op.attempt % 4))) ∧
    (∀ (w : Moment) (s : State),
      s.awake = true →
      s.sup.phase ≠ .check →
      s.csc.stage = .isolated →
      s.csc.record ≠ some .closing →
      s.sdo.operation = none →
      s.mch.contacts.ctrFb.candidate = some true →
      s.mch.contacts.ctrFb.count = 5 →
      ∃ t, exec (.contactQualified w .ctrFb) s = .next t ∧
        (t.csc.stage = if s.operating = true ∧ s.ptb.view ≠ .noSource then .bulk else .discharge) ∧
        (t.csc.lvdDwell = 0 ∧ t.csc.reconnectDwell = 0 ∧ t.csc.stageTimer = 0) ∧
        (s.upTo w).Logged t .stage 0 (twoParts 6 t.csc.stage.code) ∧
        (s.upTo w).Logged t .contactor 0 (twoParts 2 128) ∧
        (s.upTo w).ChangedOnly [.mch, .csc, .sac, .cbu, .pli, .sup, .alu, .sdo] t)

/-- R72 to R86, R137, R180, R184: the course of an own frame (log entry 13 for the receiver, 22 for the wait a QUIET ends, 24 for a drive fault after the withdrawal). -/
def Obligations.AnOwnFrameRunsItsCourse : Prop :=
    (∀ (w : Moment) (s : State) (x : Slot) (xs : List Slot),
      s.Steady →
      s.pli.queue = x :: xs →
      s.awake = true →
      s.pli.tx = .wait →
      s.pli.rx = .ready →
      s.pli.courtesyPending = false →
      s.pli.stuck = false →
      exec (.frameBegin w) s = .next ((s.upTo w).onPli fun p => { p with tx := .send, rx := .hunt, queue := { x with replaced := false } :: xs, sending := some (buildFrame x.kind s.sup.number s.pli.sequence x.payload) })) ∧
    (∀ (w : Moment) (s : State) (x : Slot) (xs : List Slot),
      s.Steady →
      s.pli.queue = x :: xs →
      s.pli.tx = .send →
      s.pli.sending.isSome = true →
      s.pli.granted = true →
      x.kind ≠ .quiet →
      ∃ t, exec (.frameComplete w) s = .next t ∧
        (t.pli = { s.pli with sequence := (s.pli.sequence + 1) % 16, lossRun := 0, courtesyPending := true, queue := if x.replaced then { x with replaced := false } :: xs else xs, sending := none, tx := if s.pli.dup then .off else if x.replaced = false ∧ xs = [] then .empty else .wait }) ∧
        ((x.kind = .rest ∨ x.kind = .wake) → t.rot = { s.rot with intent := s.rot.intent.map fun i => { i with sent := i.sent || (i.kind == .rest && x.kind == .rest) || (i.kind == .wake && x.kind == .wake) } }) ∧
        (x.kind ≠ .rest → x.kind ≠ .wake → t.rot = s.rot) ∧
        (s.upTo w).ChangedOnly [.pli, .rot] t) ∧
    (∀ (w : Moment) (s : State) (x : Slot) (xs : List Slot),
      s.Steady →
      s.pli.queue = x :: xs →
      s.pli.tx = .send →
      s.pli.sending.isSome = true →
      s.pli.granted = false →
      x.kind ≠ .quiet →
      ∃ t, exec (.frameComplete w) s = .next t ∧
        t.pli = { s.pli with sequence := (s.pli.sequence + 1) % 16, lossRun := 0, courtesyPending := true, queue := [], sending := none, tx := .off, statusDue := none, spacingEnd := none, deferred := false } ∧
        (s.upTo w).ChangedOnly [.pli, .rot] t) ∧
    (∀ (w : Moment) (s : State) (x : Slot) (xs : List Slot) (f : List Byte),
      s.pli.queue = x :: xs →
      s.pli.tx = .send →
      s.pli.sending = some f →
      x.kind = .quiet →
      byteAt f 3 = 1 →
      s.sup.entryWait.isSome = true →
      ∃ t, exec (.frameComplete w) s = .next t ∧
        (t.sup.phase = .dormant ∧ t.sup.mode = .dormant ∧ t.sup.entryWait = none) ∧
        (t.pli.tx = .off ∧ t.pli.queue = [] ∧ t.pli.granted = false) ∧
        t.pli.sequence = (s.pli.sequence + 1) % 16 ∧
        t.WritePrompted ∧
        (s.upTo w).ChangedOnly [.mch, .sac, .csc, .pli, .cbu, .rot, .gco, .alu, .sdo, .sup] t) ∧
    (∀ (w : Moment) (s : State) (x : Slot) (xs : List Slot) (f : List Byte),
      s.Steady →
      s.pli.queue = x :: xs →
      s.pli.tx = .send →
      s.pli.sending = some f →
      x.kind = .quiet →
      byteAt f 3 = 2 →
      ∃ t, exec (.frameComplete w) s = .next t ∧
        (t.sup = { s.sup with restartWait := s.sup.restartWait.map fun _ => { quietBy := none } }) ∧
        t.pli.sequence = (s.pli.sequence + 1) % 16 ∧
        (s.upTo w).ChangedOnly [.pli, .sup] t) ∧
    (∀ (w : Moment) (s : State),
      s.Steady →
      s.pli.tx = .send →
      s.awake = true →
      ∃ t, exec (.contentionLoss w) s = .next t ∧
        t.pli.losses = satInc 65535 s.pli.losses ∧
        (t.pli.rx = .frame ∧ t.pli.sending = none) ∧
        (s.pli.granted = true → t.pli.tx = .wait ∧ t.pli.queue = s.pli.queue) ∧
        (s.pli.granted = false → t.pli.tx = .off ∧ t.pli.queue = []) ∧
        (s.pli.granted = true → (if s.pli.lossRun + 1 < 16 then t.pli.lossRun = s.pli.lossRun + 1 ∧ t.pli.congestion = s.pli.congestion else t.pli.lossRun = 0 ∧ t.pli.congestion = satInc 65535 s.pli.congestion)) ∧
        (t.pli.sequence = s.pli.sequence ∧ t.pli.errors = s.pli.errors ∧ t.pli.driveFaults = s.pli.driveFaults ∧ t.pli.window = s.pli.window ∧ t.pli.courtesyPending = s.pli.courtesyPending) ∧
        (s.upTo w).ChangedOnly [.pli] t) ∧
    (∀ (w : Moment) (s : State),
      s.Steady →
      s.pli.tx = .send →
      ∃ t, exec (.driveFault w) s = .next t ∧
        t.pli.driveFaults = satInc 65535 s.pli.driveFaults ∧
        (t.pli.rx = .hunt ∧ t.pli.sending = none) ∧
        (s.pli.granted = true → t.pli.tx = .wait ∧ t.pli.lossRun = s.pli.lossRun) ∧
        (s.pli.granted = true → (t.pli.kinds = s.pli.kinds ∨ t.pli.kinds = s.pli.kinds ++ [.point]) ∧ t.pli.queue.filter (·.kind ≠ .point) = s.pli.queue.filter (·.kind ≠ .point)) ∧
        (s.pli.granted = false → t.pli.tx = .off ∧ t.pli.queue = []) ∧
        (t.pli.window.getLast? = some (s.upTo w).now ∧ (20 ≤ s.pli.window.length → s.pli.window.length ≤ 21 → t.pli.rateFault = true)) ∧
        (t.pli.sequence = s.pli.sequence ∧ t.pli.errors = s.pli.errors ∧ t.pli.losses = s.pli.losses ∧ t.pli.courtesyPending = s.pli.courtesyPending) ∧
        (s.upTo w).ChangedOnly [.pli, .alu, .sdo] t)

/-- R72, R73, R78, R80, R82, R91: the receiver (log entry 13 for its states). That a discarded frame satisfies courtesy asleep,
and the count of recessive bits only awake, is the model's choice (log entry 38). -/
def Obligations.TheReceiverCountsItsFaults : Prop :=
    (∀ (w : Moment) (s : State) (cause : LineErrorCause),
      s.Steady →
      s.awake = true →
      s.canReceive = true →
      ∃ t, exec (.lineError w cause) s = .next t ∧
        t.pli.errors = satInc 65535 s.pli.errors ∧
        (t.pli.rx = .hunt ∧ t.pli.courtesyPending = false) ∧
        t.pli.window.getLast? = some (s.upTo w).now ∧
        (20 ≤ s.pli.window.length → s.pli.window.length ≤ 21 → t.pli.rateFault = true ∧ t.pli.belowSince = none) ∧
        (t.pli.losses = s.pli.losses ∧ t.pli.driveFaults = s.pli.driveFaults ∧ t.pli.sequence = s.pli.sequence ∧ t.pli.stuck = s.pli.stuck ∧ t.pli.dup = s.pli.dup) ∧
        (s.upTo w).ChangedOnly [.pli, .alu, .sdo] t) ∧
    (∀ (w : Moment) (s : State) (cause : LineErrorCause),
      s.asleep = true →
      s.canReceive = true →
      exec (.lineError w cause) s = .next ((s.upTo w).onPli fun p => { p with rx := .hunt, courtesyPending := false })) ∧
    (∀ (w : Moment) (s : State),
      s.Steady →
      s.receiving = true →
      ∃ t, exec (.lineStuck w) s = .next t ∧
        (t.pli.stuck = true ∧ t.pli.rx = .hunt) ∧
        (t.pli.errors = s.pli.errors ∧ t.pli.window = s.pli.window ∧ t.pli.sequence = s.pli.sequence ∧ t.pli.rateFault = s.pli.rateFault) ∧
        (s.alu.running = true → s.alu.points.length = 32 → (pointGet t.alu.points 17).condition = true) ∧
        (s.upTo w).ChangedOnly [.pli, .alu, .sdo] t) ∧
    (∀ (w : Moment) (s : State),
      s.Steady →
      s.receiving = true →
      ∃ t, exec (.lineStuckClear w) s = .next t ∧
        (t.pli.stuck = false ∧ t.pli.rx = s.pli.rx) ∧
        (t.pli.errors = s.pli.errors ∧ t.pli.window = s.pli.window ∧ t.pli.sequence = s.pli.sequence ∧ t.pli.rateFault = s.pli.rateFault) ∧
        (s.alu.running = true → s.alu.points.length = 32 → (pointGet t.alu.points 17).condition = s.pli.rateFault) ∧
        (s.upTo w).ChangedOnly [.pli, .alu, .sdo] t) ∧
    (∀ (w : Moment) (s : State) (x : Nat) (xs : List Nat),
      s.Steady →
      s.pli.window = x :: xs →
      x + 60000 ≤ (s.upTo w).now →
      exec (.faultTimeExpiry w) s = .next ((s.upTo w).onPli fun p => { p with window := xs, belowSince := if p.rateFault = true ∧ p.belowSince = none then some (s.upTo w).now else p.belowSince })) ∧
    (∀ (w : Moment) (s : State) (x : Nat),
      s.Steady →
      s.pli.belowSince = some x →
      x + 60000 ≤ (s.upTo w).now →
      s.pli.rateFault = true →
      ∃ t, exec (.rateFaultClear w) s = .next t ∧
        (t.pli.rateFault = false ∧ t.pli.belowSince = none) ∧
        (t.pli.window = s.pli.window ∧ t.pli.stuck = s.pli.stuck ∧ t.pli.errors = s.pli.errors ∧ t.pli.sequence = s.pli.sequence ∧ t.pli.rx = s.pli.rx) ∧
        (s.upTo w).ChangedOnly [.pli, .alu, .sdo] t) ∧
    (∀ (w : Moment) (s : State),
      s.Steady →
      s.receiving = true →
      s.pli.rx = .hunt →
      s.pli.tx ≠ .send →
      exec (.lineIdle w) s = .next ((s.upTo w).onPli fun p => { p with rx := .ready })) ∧
    (∀ (w : Moment) (s : State),
      s.Steady →
      s.awake = true →
      exec (.courtesySatisfied w) s = .next ((s.upTo w).onPli fun p => { p with courtesyPending := false }))

/-- R80, R83, R91 to R93, R98: what every note does (log entry 12 for the entry of a record that gives its
place, 13 for the receiver, 15 for DUP_STATION, 38 for courtesy asleep). -/
def Obligations.NotesAreTakenIntoTheirRecords : Prop :=
    (∀ (s : State) (c : Instr) (kind : NoteKind) (n : Nat) (seq : Nat),
      wellFormed c = true →
      c.note = some (kind, n, seq) →
      (s.upTo c.moment).HasRoomFor n →
      ∃ t, exec (c) s = .next t ∧
        (∃ p, findPeer t.ptb.peers n = some p ∧ p.state = (if kind = .quiet then .quiet else .fresh) ∧ p.lastSequence = seq ∧ p.lastHeard = (s.upTo c.moment).now ∧ p.heard = ((s.recordOf n).heard + 1) % 256 ∧ (p.gaps : Int) = if kind = .hello ∨ (findPeer s.ptb.peers n).isNone = true then ((s.recordOf n).gaps : Int) else min 65535 ((s.recordOf n).gaps + ((seq : Int) - (s.recordOf n).lastSequence - 1) % 16)) ∧
        (∀ m, m ≠ n → findPeer t.ptb.peers m = findPeer s.ptb.peers m) ∧
        t.pli.courtesyPending = false ∧
        t.pli.rx = .hunt ∧
        (s.upTo c.moment).ChangedOnly [.pli, .ptb, .sup, .csc, .cbu, .rot, .gco, .alu, .sdo] t) ∧
    (∀ (s : State) (c : Instr) (kind : NoteKind) (n : Nat) (seq : Nat),
      wellFormed c = true →
      c.note = some (kind, n, seq) →
      s.awake = true →
      s.canReceive = true →
      n ≠ s.sup.number →
      findPeer s.ptb.peers n = none →
      14 ≤ s.ptb.peers.length →
      (∀ p ∈ s.ptb.peers, p.state ≠ .lost) →
      s.sup.phase ≠ .check →
      exec (c) s = .next (((s.upTo c.moment).onPli fun p => { p with rx := .hunt, courtesyPending := false }).onSup fun x => { x with found := x.found || s.settings.sup.mask.line })) ∧
    (∀ (s : State) (c : Instr) (kind : NoteKind) (n : Nat) (seq : Nat) (v : PeerRecord),
      wellFormed c = true →
      c.note = some (kind, n, seq) →
      s.awake = true →
      s.canReceive = true →
      n ≠ s.sup.number →
      findPeer s.ptb.peers n = none →
      14 ≤ s.ptb.peers.length →
      (s.ptb.peers.map (·.station)).Pairwise (· < ·) →
      v ∈ s.ptb.peers →
      v.state = .lost →
      (∀ p ∈ s.ptb.peers, p.state = .lost → p = v ∨ v.lastHeard < p.lastHeard) →
      ∃ t, exec (c) s = .next t ∧
        (∃ p, findPeer t.ptb.peers n = some p ∧ p.state = (if kind = .quiet then .quiet else .fresh) ∧ p.lastSequence = seq ∧ p.lastHeard = (s.upTo c.moment).now ∧ p.heard = 1 ∧ p.gaps = 0) ∧
        findPeer t.ptb.peers v.station = none ∧
        (∀ m, m ≠ n → m ≠ v.station → findPeer t.ptb.peers m = findPeer s.ptb.peers m) ∧
        t.ptb.peers.length = s.ptb.peers.length ∧
        (s.upTo c.moment).Logged t .peer v.station (twoParts 3 0) ∧
        ((s.upTo c.moment).Logged t .peer n (twoParts 0 (if kind = .quiet then 4 else 1))) ∧
        t.pli.courtesyPending = false ∧
        t.pli.rx = .hunt ∧
        (s.upTo c.moment).ChangedOnly [.pli, .ptb, .sup, .csc, .cbu, .rot, .gco, .alu, .sdo] t) ∧
    (∀ (s : State) (c : Instr) (kind : NoteKind) (n : Nat) (seq : Nat),
      wellFormed c = true →
      c.note = some (kind, n, seq) →
      s.Steady →
      s.awake = true →
      s.canReceive = true →
      n = s.sup.number →
      ∃ t, exec (c) s = .next t ∧
        (t.pli.dup = true ∧ t.pli.tx = .off ∧ t.pli.sending = none ∧ t.pli.rx = .hunt ∧ t.pli.courtesyPending = false) ∧
        t.ptb = s.ptb ∧
        (s.alu.running = true → s.alu.points.length = 32 → (pointGet t.alu.points 16).condition = true) ∧
        (s.upTo c.moment).ChangedOnly [.pli, .alu, .sdo] t) ∧
    (∀ (s : State) (c : Instr) (kind : NoteKind) (n : Nat) (seq : Nat),
      wellFormed c = true →
      c.note = some (kind, n, seq) →
      s.asleep = true →
      s.canReceive = true →
      ∃ t, exec (c) s = .next t ∧
        State.Woken .wakeLine (s.upTo c.moment) t ∧
        t.pli.courtesyPending = false) ∧
    (∀ (s : State) (c : Instr) (kind : NoteKind) (n : Nat) (seq : Nat),
      wellFormed c = true →
      c.note = some (kind, n, seq) →
      s.Steady →
      s.canReceive = false →
      exec (c) s = .next ((s.upTo c.moment)))

/-- R94 to R97, R100, R168, R170, R171, R187 (log entry 11 for codes the manual does not define, 35 for a tag given twice). -/
def Obligations.NotesFillTheirRecords : Prop :=
    (∀ (w : Moment) (s : State) (st : BitVec 4) (seq : BitVec 4) (payload : List Byte) (x : StatusContent),
      (s.upTo w).HasRoomFor st.toNat →
      payload.length = 26 →
      decodeStatus payload = some x →
      ∃ t, exec (.statusNote w st seq payload) s = .next t ∧
        (∃ p, findPeer t.ptb.peers st.toNat = some p ∧ p.status = some { content := x, arrival := (s.upTo w).now } ∧ x.flags = payload.getD 1 0 &&& 0x7F ∧ p.intervalS = (if x.mode = .lean then 10 else 2) ∧ p.digestMatch = some (x.digest == s.sup.digest) ∧ p.points = (s.recordOf st.toNat).points ∧ p.intent = (match (s.recordOf st.toNat).intent with | some i => if (i.kind = .rest ∧ x.rect ≠ .restPending) ∨ (i.kind = .wake ∧ x.rect ≠ .resting) then none else some i | none => none))) ∧
    (∀ (w : Moment) (s : State) (st : BitVec 4) (seq : BitVec 4) (payload : List Byte),
      (s.upTo w).HasRoomFor st.toNat →
      payload.length = 26 →
      decodeStatus payload = none →
      ∃ t, exec (.statusNote w st seq payload) s = .next t ∧
        (∃ p, findPeer t.ptb.peers st.toNat = some p ∧ p.status = (s.recordOf st.toNat).status ∧ p.intervalS = (s.recordOf st.toNat).intervalS ∧ p.digestMatch = (s.recordOf st.toNat).digestMatch ∧ p.points = (s.recordOf st.toNat).points ∧ p.intent = (s.recordOf st.toNat).intent)) ∧
    (∀ (w : Moment) (s : State) (st : BitVec 4) (seq : BitVec 4) (event : Byte) (epoch : Byte),
      (s.upTo w).HasRoomFor st.toNat →
      ∃ t, exec (.genNote w st seq event epoch) s = .next t ∧
        (∃ p, findPeer t.ptb.peers st.toNat = some p ∧ p.status = (s.recordOf st.toNat).status ∧ p.intent = (s.recordOf st.toNat).intent ∧ p.points = (s.recordOf st.toNat).points ∧ p.digestMatch = (s.recordOf st.toNat).digestMatch ∧ p.intervalS = (s.recordOf st.toNat).intervalS)) ∧
    (∀ (w : Moment) (s : State) (st : BitVec 4) (seq : BitVec 4) (hours : BitVec 16) (flags : Byte),
      (s.upTo w).HasRoomFor st.toNat →
      ∃ t, exec (.restNote w st seq hours flags) s = .next t ∧
        (∃ p, findPeer t.ptb.peers st.toNat = some p ∧ p.intent = some { kind := .rest, runHours := hours.toNat, arrival := (s.upTo w).now, detail := flags &&& 0x7F } ∧ p.status = (s.recordOf st.toNat).status ∧ p.points = (s.recordOf st.toNat).points)) ∧
    (∀ (w : Moment) (s : State) (st : BitVec 4) (seq : BitVec 4) (hours : BitVec 16) (reason : Byte),
      (s.upTo w).HasRoomFor st.toNat →
      ∃ t, exec (.wakeNote w st seq hours reason) s = .next t ∧
        (∃ p, findPeer t.ptb.peers st.toNat = some p ∧ p.intent = (if reason = 1 ∨ reason = 2 then some { kind := .wake, runHours := hours.toNat, arrival := (s.upTo w).now, detail := reason } else (s.recordOf st.toNat).intent) ∧ p.status = (s.recordOf st.toNat).status ∧ p.points = (s.recordOf st.toNat).points)) ∧
    (∀ (w : Moment) (s : State) (st : BitVec 4) (seq : BitVec 4) (pairs : List (Byte × Byte)),
      (s.upTo w).HasRoomFor st.toNat →
      pairs.length ≤ 16 →
      ∃ t, exec (.pointNote w st seq pairs) s = .next t ∧
        (∃ p, findPeer t.ptb.peers st.toNat = some p ∧ p.status = (s.recordOf st.toNat).status ∧ p.intent = (s.recordOf st.toNat).intent ∧ (∀ x ∈ p.points, x.1 ≤ 63) ∧ (p.points.map (·.1)).Nodup ∧ ∀ tag ≤ 63, ((p.points.find? fun x => x.1 == tag).map (·.2)) = ((pairs.reverse.find? fun x => x.1.toNat == tag).map fun x => x.2.toNat != 0))) ∧
    (∀ (w : Moment) (s : State) (st : BitVec 4) (seq : BitVec 4) (pairs : List (Byte × Byte)),
      (s.upTo w).HasRoomFor st.toNat →
      pairs.length ≤ 16 →
      s.alu.running = true →
      s.alu.subValues.length = s.settings.alu.subs.length →
      ∃ t, exec (.pointNote w st seq pairs) s = .next t ∧
        t.SubscriptionsHeld ∧
        (s.upTo w).ChangedOnly [.pli, .ptb, .sup, .csc, .cbu, .rot, .gco, .alu, .sdo] t) ∧
    (∀ (w : Moment) (s : State) (st : BitVec 4) (seq : BitVec 4) (digest : BitVec 16) (cause : Byte),
      (s.upTo w).HasRoomFor st.toNat →
      ∃ t, exec (.helloNote w st seq digest cause) s = .next t ∧
        (∃ p, findPeer t.ptb.peers st.toNat = some p ∧ p.intent = none ∧ p.digestMatch = some (digest.toNat == s.sup.digest) ∧ p.startCause = (match startCauseOf cause.toNat with | some x => some x | none => (s.recordOf st.toNat).startCause) ∧ p.status = (s.recordOf st.toNat).status ∧ p.points = (s.recordOf st.toNat).points)) ∧
    (∀ (w : Moment) (s : State) (st : BitVec 4) (seq : BitVec 4) (reason : Byte),
      (s.upTo w).HasRoomFor st.toNat →
      ∃ t, exec (.quietNote w st seq reason) s = .next t ∧
        (∃ p, findPeer t.ptb.peers st.toNat = some p ∧ p.intent = none ∧ p.quietReason = (match quietReasonOf reason.toNat with | some x => some x | none => (s.recordOf st.toNat).quietReason) ∧ p.status = (s.recordOf st.toNat).status ∧ p.points = (s.recordOf st.toNat).points ∧ p.digestMatch = (s.recordOf st.toNat).digestMatch))

/-- R155, R156: the lockout heard (log entry 11 for an event that the manual does not define). -/
def Obligations.ANewerLockoutIsAdopted : Prop :=
    (∀ (w : Moment) (s : State) (st : BitVec 4) (seq : BitVec 4) (event : Byte) (epoch : Byte),
      (s.upTo w).HasRoomFor st.toNat →
      s.sup.phase ≠ .check →
      s.gco.epoch < 256 →
      (event = 1 ∨ event = 2) →
      ∃ t, exec (.genNote w st seq event epoch) s = .next t ∧
        (if (s.gco.unsettled = true ∨ (1 ≤ ((epoch.toNat : Int) - s.gco.epoch) % 256 ∧ ((epoch.toNat : Int) - s.gco.epoch) % 256 ≤ 127) ∨ ((epoch.toNat : Int) = s.gco.epoch ∧ event = 1 ∧ s.gco.lockSet = false)) then t.gco.lockSet = decide (event = 1) ∧ t.gco.epoch = epoch.toNat ∧ t.gco.unsettled = false ∧ t.gco.settleAt = none ∧ (event = 1 → t.gco.state = .locked ∧ t.gco.demand = none) ∧ (s.upTo w).Logged t .lockAdopt st.toNat (twoParts (if event = 1 then 1 else 0) epoch.toNat) else t.gco.lockSet = s.gco.lockSet ∧ t.gco.epoch = s.gco.epoch ∧ t.gco.unsettled = s.gco.unsettled)) ∧
    (∀ (w : Moment) (s : State) (st : BitVec 4) (seq : BitVec 4) (event : Byte) (epoch : Byte),
      (s.upTo w).HasRoomFor st.toNat →
      event ≠ 1 →
      event ≠ 2 →
      ∃ t, exec (.genNote w st seq event epoch) s = .next t ∧
        (t.gco.lockSet = s.gco.lockSet ∧ t.gco.epoch = s.gco.epoch ∧ t.gco.unsettled = s.gco.unsettled)) ∧
    (∀ (w : Moment) (s : State) (st : BitVec 4) (seq : BitVec 4) (payload : List Byte) (x : StatusContent),
      (s.upTo w).HasRoomFor st.toNat →
      s.sup.phase ≠ .check →
      s.gco.epoch < 256 →
      payload.length = 26 →
      decodeStatus payload = some x →
      x.lock ≠ .unsettled →
      ∃ t, exec (.statusNote w st seq payload) s = .next t ∧
        (if (s.gco.unsettled = true ∨ (1 ≤ ((x.epoch : Int) - s.gco.epoch) % 256 ∧ ((x.epoch : Int) - s.gco.epoch) % 256 ≤ 127) ∨ ((x.epoch : Int) = s.gco.epoch ∧ x.lock = .set ∧ s.gco.lockSet = false)) then t.gco.lockSet = decide (x.lock = .set) ∧ t.gco.epoch = x.epoch ∧ t.gco.unsettled = false ∧ t.gco.settleAt = none ∧ (x.lock = .set → t.gco.state = .locked ∧ t.gco.demand = none) ∧ (s.upTo w).Logged t .lockAdopt st.toNat (twoParts (if x.lock = .set then 1 else 0) x.epoch) else t.gco.lockSet = s.gco.lockSet ∧ t.gco.epoch = s.gco.epoch ∧ t.gco.unsettled = s.gco.unsettled)) ∧
    (∀ (w : Moment) (s : State) (st : BitVec 4) (seq : BitVec 4) (payload : List Byte) (x : StatusContent),
      (s.upTo w).HasRoomFor st.toNat →
      payload.length = 26 →
      decodeStatus payload = some x →
      x.lock = .unsettled →
      ∃ t, exec (.statusNote w st seq payload) s = .next t ∧
        (t.gco.lockSet = s.gco.lockSet ∧ t.gco.epoch = s.gco.epoch ∧ t.gco.unsettled = s.gco.unsettled))

/-- R84, R88 to R90, R169: the notes sent on time. -/
def Obligations.StatusAndPointsAreSentOnTime : Prop :=
    (∀ (w : Moment) (s : State),
      s.Steady →
      s.pli.granted = true →
      due s.pli.statusDue (s.upTo w).now = true →
      ∃ t, exec (.statusPeriodicTimer w) s = .next t ∧
        (s.pli).EnqueuedTo .status (encodeStatus (s.upTo w).ownStatus) t.pli ∧
        (s.pli.tx = .empty → t.pli.tx = .wait) ∧
        (t.pli.statusDue = some ((s.upTo w).now + if s.sup.mode = .lean then 10000 else 2000)) ∧
        (t.pli.spacingEnd = some ((s.upTo w).now + 250) ∧ t.pli.deferred = false) ∧
        t.pli = { s.pli with queue := t.pli.queue, tx := t.pli.tx, statusDue := t.pli.statusDue, spacingEnd := t.pli.spacingEnd, deferred := t.pli.deferred } ∧
        (s.upTo w).ChangedOnly [.pli] t) ∧
    (∀ (w : Moment) (s : State),
      s.Steady →
      s.pli.granted = true →
      due s.pli.spacingEnd (s.upTo w).now = true →
      s.pli.deferred = true →
      ∃ t, exec (.statusSpacingEnd w) s = .next t ∧
        (s.pli).EnqueuedTo .status (encodeStatus (s.upTo w).ownStatus) t.pli ∧
        (s.pli.tx = .empty → t.pli.tx = .wait) ∧
        (t.pli.statusDue = some ((s.upTo w).now + if s.sup.mode = .lean then 10000 else 2000)) ∧
        (t.pli.spacingEnd = some ((s.upTo w).now + 250) ∧ t.pli.deferred = false) ∧
        t.pli = { s.pli with queue := t.pli.queue, tx := t.pli.tx, statusDue := t.pli.statusDue, spacingEnd := t.pli.spacingEnd, deferred := t.pli.deferred } ∧
        (s.upTo w).ChangedOnly [.pli] t) ∧
    (∀ (w : Moment) (s : State),
      s.Steady →
      due s.pli.spacingEnd (s.upTo w).now = true →
      s.pli.deferred = false →
      exec (.statusSpacingEnd w) s = .next ((s.upTo w).onPli fun p => { p with spacingEnd := none })) ∧
    (∀ (w : Moment) (s : State),
      s.Steady →
      s.pli.granted = true →
      due s.alu.pointTimerAt (s.upTo w).now = true →
      ∃ t, exec (.pointTimer w) s = .next t ∧
        ((s.pli).EnqueuedTo .point ((s.upTo w).tagStates.flatMap fun x => [BitVec.ofNat 8 x.1, if x.2 then 1 else 0]) t.pli) ∧
        (t.pli = { s.pli with queue := t.pli.queue, tx := if s.pli.tx = .empty then .wait else s.pli.tx }) ∧
        (t = ((s.upTo w).onPli fun _ => t.pli).onAlu fun a => { a with pointTimerAt := some ((s.upTo w).now + 60000) }))

/-- R96, R98, R170, R171: aging, what it does to the subscriptions, and the expiry of intents (log entry 31 for the order of the
records). -/
def Obligations.RecordsAgeAndIntentsExpire : Prop :=
    (∀ (w : Moment) (s : State),
      s.awake = true →
      ∃ t, exec (.agingCheck w) s = .next t ∧
        List.Forall₂ (PeerRecord.AgedTo (s.upTo w).now) s.ptb.peers t.ptb.peers ∧
        (t.ptb.peers.map (·.state) ≠ s.ptb.peers.map (·.state) → s.alu.running = true → s.alu.subValues.length = s.settings.alu.subs.length → t.SubscriptionsHeld) ∧
        (∀ x ∈ s.ptb.peers.zip t.ptb.peers, x.1.state ≠ .lost → x.2.state = .lost → (s.upTo w).Logged t .peer x.1.station (twoParts x.1.state.code 3)) ∧
        (s.upTo w).ChangedOnly [.ptb, .csc, .cbu, .rot, .gco, .pli, .sup, .alu, .sdo] t) ∧
    (∀ (w : Moment) (s : State) (st : BitVec 4) (p : PeerRecord) (i : Intent),
      s.Steady →
      s.awake = true →
      findPeer s.ptb.peers st.toNat = some p →
      p.intent = some i →
      i.arrival + 8000 ≤ (s.upTo w).now →
      (s.ptb.peers.map (·.station)).Pairwise (· < ·) →
      ∃ t, exec (.intentExpiry w st) s = .next t ∧
        findPeer t.ptb.peers st.toNat = some { p with intent := none } ∧
        (∀ m, m ≠ st.toNat → findPeer t.ptb.peers m = findPeer s.ptb.peers m) ∧
        (t.ptb.view = s.ptb.view ∧ t.ptb.genRunning = s.ptb.genRunning ∧ t.ptb.acFail = s.ptb.acFail) ∧
        (s.upTo w).ChangedOnly [.ptb] t)

/-- R122 to R126, R129 to R131, R134, R137: the tick, the ramp and the fail-clear timer. -/
def Obligations.TheRotationTickCountsAndDecides : Prop :=
    (∀ (w : Moment) (s : State),
      s.Steady →
      s.awake = true →
      (s.rot.state = .run ∨ s.rot.state = .restPending ∨ s.rot.state = .forcedRun) →
      ∃ t, exec (.rotationTick w) s = .next t ∧
        (s.rot.runSeconds < 59 → t.rot.runSeconds = s.rot.runSeconds + 1 ∧ t.rot.runMinutes = s.rot.runMinutes) ∧
        (59 ≤ s.rot.runSeconds → t.rot.runSeconds = 0 ∧ t.rot.runMinutes = satInc 4294967295 s.rot.runMinutes) ∧
        (s.upTo w).ChangedOnly [.rot, .sdo, .pli, .alu] t) ∧
    (∀ (w : Moment) (s : State),
      s.Steady →
      s.awake = true →
      s.rot.state ≠ .run →
      s.rot.state ≠ .restPending →
      s.rot.state ≠ .forcedRun →
      ∃ t, exec (.rotationTick w) s = .next t ∧
        (t.rot.runSeconds = s.rot.runSeconds ∧ t.rot.runMinutes = s.rot.runMinutes) ∧
        (s.upTo w).ChangedOnly [.rot, .sdo, .pli, .alu] t) ∧
    (∀ (w : Moment) (s : State),
      s.operating = true →
      s.ptb.view = .mains →
      s.rot.state = .run →
      s.rot.entryAt + s.settings.rot.runHold * 60000 ≤ (s.upTo w).now →
      s.sup.configFault = false →
      s.pli.tx ≠ .off →
      ((s.upTo w).onRot rectCount).nreq ≤ ((s.upTo w).onRot rectCount).runningForRest →
      ∃ t, exec (.rotationTick w) s = .next t ∧
        State.InRectState .restPending (s.upTo w).now t ∧
        t.rot.settleAt = some ((s.upTo w).now + 5000) ∧
        t.rot.intent = some { kind := .rest, reason := none, runHours := t.ownHours, queuedAt := (s.upTo w).now, sent := false } ∧
        (s.pli.granted = true → t.pli.Holds .rest (leBytes 2 t.ownHours ++ [s.restFlags]))) ∧
    (∀ (w : Moment) (s : State),
      s.operating = true →
      s.ptb.view = .mains →
      s.rot.state = .run →
      ((s.upTo w).now < s.rot.entryAt + s.settings.rot.runHold * 60000 ∨ s.sup.configFault = true ∨ s.pli.tx = .off ∨ ((s.upTo w).onRot rectCount).runningForRest < ((s.upTo w).onRot rectCount).nreq) →
      ∃ t, exec (.rotationTick w) s = .next t ∧
        (t.rot.state = .run ∧ t.rot.entryAt = s.rot.entryAt ∧ t.rot.settleAt = s.rot.settleAt ∧ t.rot.intent = s.rot.intent) ∧
        (t.rot.lastNreq = ((s.upTo w).onRot rectCount).nreq ∧ t.rot.lastT = ((s.upTo w).onRot rectCount).runningCurrent ∧ t.rot.lastNr = ((s.upTo w).onRot rectCount).runningForRest ∧ t.rot.lastNw = ((s.upTo w).onRot rectCount).runningForWake) ∧
        (s.upTo w).ChangedOnly [.rot] t) ∧
    (∀ (w : Moment) (s : State),
      s.operating = true →
      s.ptb.view = .mains →
      s.rot.state = .resting →
      (s.upTo w).runningForWake < (s.upTo w).nreq →
      (s.upTo w).bestWakeRank = true →
      ∃ t, exec (.rotationTick w) s = .next t ∧
        State.InRectState .softStart (s.upTo w).now t ∧
        t.rot.ramp = some 0 ∧
        t.rot.intent = some { kind := .wake, reason := some .need, runHours := s.ownHours, queuedAt := (s.upTo w).now, sent := false } ∧
        (s.pli.granted = true → t.pli.Holds .wake (leBytes 2 s.ownHours ++ [1])) ∧
        (s.upTo w).ChangedOnly [.rot, .sdo, .pli, .alu] t) ∧
    (∀ (w : Moment) (s : State),
      s.operating = true →
      s.ptb.view = .mains →
      s.rot.state = .resting →
      ((s.upTo w).nreq ≤ (s.upTo w).runningForWake ∨ (s.upTo w).bestWakeRank = false) →
      (s.rot.swapClock < 3599 ∨ (s.upTo w).now < s.rot.entryAt + s.settings.rot.restHold * 60000 ∨ (s.upTo w).bestWakeRank = false ∨ (∀ x, (s.upTo w).highestRunning = some x → x < s.ownHours + s.settings.rot.swapGapH)) →
      ∃ t, exec (.rotationTick w) s = .next t ∧
        (t.rot = { s.rot with lastNreq := (s.upTo w).nreq, lastT := (s.upTo w).runningCurrent, lastNr := (s.upTo w).runningForRest, lastNw := (s.upTo w).runningForWake, swapClock := if s.rot.swapClock < 3599 then s.rot.swapClock + 1 else 0 }) ∧
        (s.upTo w).ChangedOnly [.rot] t) ∧
    (∀ (w : Moment) (s : State) (x : Nat),
      s.operating = true →
      s.ptb.view = .mains →
      s.rot.state = .resting →
      (s.upTo w).nreq ≤ (s.upTo w).runningForWake →
      3599 ≤ s.rot.swapClock →
      s.rot.entryAt + s.settings.rot.restHold * 60000 ≤ (s.upTo w).now →
      (s.upTo w).bestWakeRank = true →
      (s.upTo w).highestRunning = some x →
      s.ownHours + s.settings.rot.swapGapH ≤ x →
      ∃ t, exec (.rotationTick w) s = .next t ∧
        State.InRectState .softStart (s.upTo w).now t ∧
        (t.rot.ramp = some 0 ∧ t.rot.swapClock = 0) ∧
        t.rot.intent = some { kind := .wake, reason := some .swap, runHours := s.ownHours, queuedAt := (s.upTo w).now, sent := false } ∧
        (s.pli.granted = true → t.pli.Holds .wake (leBytes 2 s.ownHours ++ [2])) ∧
        (s.upTo w).ChangedOnly [.rot, .sdo, .pli, .alu] t) ∧
    (∀ (w : Moment) (s : State),
      s.operating = true →
      s.ptb.view ≠ .mains →
      ∃ t, exec (.rotationTick w) s = .next t ∧
        (t.rot.state = s.rot.state ∧ t.rot.entryAt = s.rot.entryAt ∧ t.rot.swapClock = 0) ∧
        (s.upTo w).ChangedOnly [.rot] t) ∧
    (∀ (w : Moment) (s : State) (n : Nat),
      s.Steady →
      s.rot.state = .softStart →
      s.rot.ramp = some n →
      s.rot.entryAt + 1000 * (n + 1) ≤ (s.upTo w).now →
      n < 9 →
      ∃ t, exec (.rampStep w) s = .next t ∧
        t.rot = { s.rot with ramp := some (n + 1) } ∧
        (s.sdo.live = true → t.sdo.outputs.rectIlim.target = s.settings.rot.rectRating * (n + 1) / 10 ∧ t.sdo.relays = s.sdo.relays) ∧
        (s.sdo.live = false → t.sdo.outputs.rectIlim.waiting = some (s.settings.rot.rectRating * (n + 1) / 10)) ∧
        (t.sdo.outputs.rectVref = s.sdo.outputs.rectVref ∧ t.sdo.outputs.strVref = s.sdo.outputs.strVref ∧ t.sdo.outputs.strIlim = s.sdo.outputs.strIlim) ∧
        (s.upTo w).ChangedOnly [.rot, .sdo] t) ∧
    (∀ (w : Moment) (s : State),
      s.Steady →
      s.rot.state = .softStart →
      s.rot.ramp = some 9 →
      s.rot.entryAt + 10000 ≤ (s.upTo w).now →
      ∃ t, exec (.rampStep w) s = .next t ∧
        State.InRectState .run (s.upTo w).now t ∧
        (t.rot.ramp = none ∧ t.rot.intent = none) ∧
        (s.upTo w).ChangedOnly [.rot, .sdo, .pli, .alu] t) ∧
    (∀ (w : Moment) (s : State) (f : Nat),
      s.Steady →
      s.rot.state = .failed →
      s.rot.failSince = some f →
      f + 30000 ≤ (s.upTo w).now →
      ∃ t, exec (.failClearExpiry w) s = .next t ∧
        (State.InRectState (if s.contact .rectAcok = .active then .softStart else .noInput) (s.upTo w).now t) ∧
        t.rot.failSince = none ∧
        (s.alu.running = true → s.alu.points.length = 32 → (pointGet t.alu.points 8).condition = false) ∧
        (s.upTo w).ChangedOnly [.rot, .sdo, .pli, .alu] t)

/-- R128, whole. -/
def Obligations.RestingIsDecidedAtTheSettle : Prop :=
    (∀ (w : Moment) (s : State),
      s.Steady →
      s.rot.state = .restPending →
      due s.rot.settleAt (s.upTo w).now = true →
      s.ptb.view = .mains →
      (s.upTo w).nreq ≤ (s.upTo w).runningForRest →
      ∃ t, exec (.settleExpiry w) s = .next t ∧
        State.InRectState .resting (s.upTo w).now t ∧
        (t.rot.intent = none ∧ t.rot.settleAt = none) ∧
        (s.upTo w).ChangedOnly [.rot, .sdo, .pli, .alu] t) ∧
    (∀ (w : Moment) (s : State),
      s.Steady →
      s.rot.state = .restPending →
      due s.rot.settleAt (s.upTo w).now = true →
      (s.ptb.view ≠ .mains ∨ (s.upTo w).runningForRest < (s.upTo w).nreq) →
      ∃ t, exec (.settleExpiry w) s = .next t ∧
        State.InRectState .run (s.upTo w).now t ∧
        (t.rot.intent = none ∧ t.rot.settleAt = none) ∧
        (s.upTo w).ChangedOnly [.rot, .sdo, .pli, .alu] t) ∧
    (∀ (c : Instr) (s t : State), exec c s = .next t → s.rot.state ≠ .resting → t.rot.state = .resting →
      ∃ w, c = .settleExpiry w ∧ s.ptb.view = .mains ∧ (s.upTo w).nreq ≤ (s.upTo w).runningForRest)

/-- R142 to R147, R149, R151 to R153: the check, the confirmation and the return of the mains. -/
def Obligations.TheGeneratorIsRaisedReleasedAndCutOff : Prop :=
    (∀ (w : Moment) (s : State),
      s.Steady →
      s.awake = true →
      s.gco.state ≠ .demandRun →
      ∃ t, exec (.genCheck w) s = .next t ∧
        (t.gco.runLength = if s.ptb.genRunning then s.gco.runLength.map (· + 1) else none) ∧
        ((∃ n, t.gco.runLength = some n ∧ 300 ≤ n) → t.gco.exMinutes = 0 ∧ t.gco.exSeconds = 0) ∧
        ((∀ n, t.gco.runLength = some n → n < 300) → (if s.gco.exSeconds < 59 then t.gco.exSeconds = s.gco.exSeconds + 1 ∧ t.gco.exMinutes = s.gco.exMinutes else t.gco.exSeconds = 0 ∧ t.gco.exMinutes = satInc 65535 s.gco.exMinutes)) ∧
        (t.gco.lockSet = s.gco.lockSet ∧ t.gco.epoch = s.gco.epoch ∧ t.gco.unsettled = s.gco.unsettled) ∧
        (s.upTo w).ChangedOnly [.gco, .sdo, .pli, .alu] t) ∧
    (∀ (w : Moment) (s : State) (v : Int),
      (s.gco.state = .idle ∨ s.gco.state = .runRest) →
      29 ≤ s.gco.busDwell →
      s.busV = some v →
      v ≤ s.settings.gco.startMV →
      s.gatesHold = true →
      ∃ t, exec (.genCheck w) s = .next t ∧
        State.DemandRaised .busLow (s.upTo w) t ∧
        (s.upTo w).ChangedOnly [.gco, .sdo, .pli, .alu] t) ∧
    (∀ (w : Moment) (s : State),
      s.gco.state = .idle →
      s.gco.busDwell < 29 →
      59 ≤ s.gco.ownDwell →
      s.ptb.view = .noSource →
      s.sac.soc ≤ s.settings.gco.startSoc →
      s.gatesHold = true →
      ∃ t, exec (.genCheck w) s = .next t ∧
        State.DemandRaised .ownSoc (s.upTo w) t ∧
        (s.upTo w).ChangedOnly [.gco, .sdo, .pli, .alu] t) ∧
    (∀ (w : Moment) (s : State),
      s.gco.state = .idle →
      s.gco.busDwell < 29 →
      s.gco.ownDwell < 59 →
      59 ≤ s.gco.plantDwell →
      s.ptb.view = .noSource →
      s.plantSoc ≤ s.settings.gco.plantStartSoc →
      s.gatesHold = true →
      ∃ t, exec (.genCheck w) s = .next t ∧
        State.DemandRaised .plantSoc (s.upTo w) t ∧
        (s.upTo w).ChangedOnly [.gco, .sdo, .pli, .alu] t) ∧
    (∀ (w : Moment) (s : State),
      s.gco.state = .idle →
      s.gco.busDwell < 29 →
      s.gco.ownDwell < 59 →
      s.gco.plantDwell < 59 →
      s.settings.gco.exerciseIntervalH ≠ 0 →
      s.settings.gco.exerciseIntervalH * 60 ≤ ((s.upTo w).onGco (gcoCount s.ptb.genRunning)).gco.exMinutes →
      s.exerciseLeader = true →
      (s.ptb.view = .mains ∨ s.ptb.view = .noSource) →
      s.gatesHold = true →
      ∃ t, exec (.genCheck w) s = .next t ∧
        State.DemandRaised .exercise (s.upTo w) t ∧
        (s.upTo w).ChangedOnly [.gco, .sdo, .pli, .alu] t) ∧
    (∀ (w : Moment) (s : State) (d : Demand),
      s.Steady →
      s.awake = true →
      s.wired = true →
      s.ptb.view = s.viewNow →
      s.ptb.genRunning = false →
      s.contact .genRunFb ≠ .active →
      s.mch.contacts.genRunFb.candidate = some true →
      s.mch.contacts.genRunFb.count = 5 →
      s.gco.state = .demandWait →
      s.gco.demand = some d →
      ∃ t, exec (.contactQualified w .genRunFb) s = .next t ∧
        t.ptb.genRunning = true ∧
        t.gco = { s.gco with state := .demandRun, startAt := none, runLength := some 0, demand := some { d with confirmedAt := some (s.upTo w).now } } ∧
        (s.upTo w).Logged t .demConfirm 0 d.reason.code ∧
        (s.upTo w).ChangedOnly [.mch, .ptb, .gco, .sdo, .pli, .alu] t) ∧
    (∀ (w : Moment) (s : State) (d : Demand),
      s.awake = true →
      s.sup.phase ≠ .check →
      s.wired = true →
      s.mch.ac.valid = true →
      s.ptb.view ≠ .mains →
      s.ptb.genRunning = s.runningNow →
      s.mch.contacts.xferGen.candidate = some false →
      s.mch.contacts.xferGen.count = 5 →
      (s.gco.state = .demandWait ∨ s.gco.state = .demandRun) →
      s.gco.demand = some d →
      ∃ t, exec (.contactQualified w .xferGen) s = .next t ∧
        t.ptb.view = .mains ∧
        (d.reason = .ownSoc ∨ d.reason = .busLow ∨ d.reason = .plantSoc → t.gco.state = .idle ∧ t.gco.demand = none ∧ t.gco.startAt = none ∧ (s.sdo.live = true → t.sdo.relays.genDemand = false) ∧ (s.upTo w).Logged t .demRelease 0 d.reason.code) ∧
        (d.reason = .exercise ∨ d.reason = .test → t.gco = s.gco) ∧
        (s.upTo w).ChangedOnly [.mch, .ptb, .csc, .cbu, .rot, .gco, .pli, .sup, .alu, .sdo] t) ∧
    (∀ (w : Moment) (s : State) (v : Int),
      s.operating = true →
      s.gco.state = .idle →
      s.gco.busDwell < 29 →
      s.gco.ownDwell < 59 →
      s.gco.plantDwell < 59 →
      s.busV = some v →
      v ≤ s.settings.gco.startMV →
      s.ptb.view = .gen →
      ∃ t, exec (.genCheck w) s = .next t ∧
        (t.gco.state = .idle ∧ t.gco.demand = none ∨ s.gco.demand ≠ none) ∧
        (t.gco.busDwell = s.gco.busDwell + 1 ∧ t.gco.ownDwell = 0 ∧ t.gco.plantDwell = 0) ∧
        (s.upTo w).ChangedOnly [.gco] t) ∧
    (∀ (w : Moment) (s : State) (d : Demand) (c : Nat),
      s.operating = true →
      s.gco.state = .demandRun →
      s.gco.demand = some d →
      d.confirmedAt = some c →
      c + s.settings.gco.maxRun * 60000 ≤ (s.upTo w).now →
      ∃ t, exec (.genCheck w) s = .next t ∧
        (t.gco.state = .runRest ∧ t.gco.demand = none ∧ t.gco.restAt = some ((s.upTo w).now + s.settings.gco.runRest * 60000)) ∧
        (t.gco.startAt = none ∧ t.gco.acceptDwell = 0) ∧
        (s.sdo.live = true → t.sdo.relays.genDemand = false) ∧
        (s.upTo w).Logged t .demRelease 0 d.reason.code ∧
        (s.upTo w).ChangedOnly [.gco, .sdo, .pli, .alu] t) ∧
    (∀ (w : Moment) (s : State) (d : Demand) (c : Nat),
      s.operating = true →
      s.gco.state = .demandRun →
      s.gco.demand = some d →
      d.confirmedAt = some c →
      (s.upTo w).now < c + s.settings.gco.maxRun * 60000 →
      (((d.reason = .ownSoc ∨ d.reason = .busLow) ∧ (s.csc.stage = .float ∨ s.settings.gco.stopSoc ≤ s.sac.soc) ∧ c + s.settings.gco.minRun * 60000 ≤ (s.upTo w).now) ∨ (d.reason = .plantSoc ∧ s.settings.gco.stopSoc ≤ s.plantSoc ∧ c + s.settings.gco.minRun * 60000 ≤ (s.upTo w).now) ∨ (d.reason = .exercise ∧ c + s.settings.gco.exerciseDuration * 60000 ≤ (s.upTo w).now) ∨ (d.reason = .test ∧ due d.testEnd (s.upTo w).now = true)) →
      ∃ t, exec (.genCheck w) s = .next t ∧
        (t.gco.state = .idle ∧ t.gco.demand = none ∧ t.gco.startAt = none ∧ t.gco.acceptDwell = 0) ∧
        (s.sdo.live = true → t.sdo.relays.genDemand = false) ∧
        (s.upTo w).Logged t .demRelease 0 d.reason.code ∧
        (c + 300000 ≤ (s.upTo w).now → t.gco.exMinutes = 0 ∧ t.gco.exSeconds = 0) ∧
        (s.upTo w).ChangedOnly [.gco, .sdo, .pli, .alu] t) ∧
    (∀ (w : Moment) (s : State) (d : Demand) (c : Nat),
      s.operating = true →
      s.gco.state = .demandRun →
      s.gco.demand = some d →
      d.confirmedAt = some c →
      (s.upTo w).now < c + s.settings.gco.maxRun * 60000 →
      (s.upTo w).now < c + s.settings.gco.minRun * 60000 →
      (s.upTo w).now < c + s.settings.gco.exerciseDuration * 60000 →
      (d.reason ≠ .test ∨ due d.testEnd (s.upTo w).now = false) →
      ∃ t, exec (.genCheck w) s = .next t ∧
        (t.gco.state = .demandRun ∧ t.gco.demand = some d) ∧
        (s.upTo w).ChangedOnly [.gco] t)

/-- R143, R150, R153, R156, R183. -/
def Obligations.AFailedStartLocksTheGenerator : Prop :=
    (∀ (w : Moment) (s : State) (d : Demand),
      s.Steady →
      s.gco.state = .demandWait →
      s.gco.demand = some d →
      due s.gco.startAt (s.upTo w).now = true →
      ∃ t, exec (.startTimeout w) s = .next t ∧
        (t.gco.lockSet = true ∧ t.gco.epoch = (s.gco.epoch + 1) % 256 ∧ t.gco.unsettled = false) ∧
        (t.gco.state = .locked ∧ t.gco.demand = none ∧ t.gco.startAt = none ∧ t.gco.startFail = true) ∧
        (s.pli.granted = true → t.pli.Holds .gen [1, BitVec.ofNat 8 ((s.gco.epoch + 1) % 256)]) ∧
        (s.sdo.live = true → t.sdo.relays.genDemand = false) ∧
        (s.upTo w).Logged t .demFail 0 d.reason.code ∧
        t.WritePrompted ∧
        (s.upTo w).ChangedOnly [.gco, .sdo, .pli, .alu, .sup] t) ∧
    (∀ (w : Moment) (s : State),
      s.Steady →
      s.gco.state = .runRest →
      due s.gco.restAt (s.upTo w).now = true →
      ∃ t, exec (.restTimerExpiry w) s = .next t ∧
        t.gco = { s.gco with state := .idle, restAt := none } ∧
        (s.upTo w).ChangedOnly [.gco, .sdo, .pli, .alu] t) ∧
    (∀ (w : Moment) (s : State),
      s.Steady →
      s.gco.unsettled = true →
      due s.gco.settleAt (s.upTo w).now = true →
      ∃ t, exec (.epochSettle w) s = .next t ∧
        t.gco = { s.gco with unsettled := false, settleAt := none } ∧
        (s.sup.pendingWrite = true → s.sup.writing = none → t.sup.writing.isSome = true ∧ t.sup.pendingWrite = false) ∧
        (s.sup.pendingWrite = false → t.sup = s.sup) ∧
        (s.upTo w).ChangedOnly [.gco, .alu, .sup, .sdo, .pli] t)

/-- R163 to R166: the point machine, the class counts and ACK (log entry 16 for the order of effect and entry). -/
def Obligations.PointsQualifyAndAreAcknowledged : Prop :=
    (∀ (w : Moment) (s : State) (id : Nat),
      s.Steady →
      1 ≤ id →
      id ≤ 32 →
      s.alu.points.length = 32 →
      due (pointGet s.alu.points id).timerEnd (s.upTo w).now = true →
      ∃ t, exec (.qualifyExpiry w id) s = .next t ∧
        (((pointGet s.alu.points id).state = .qualifying ∨ (pointGet s.alu.points id).state = .latched) → (pointGet t.alu.points id).state = .active ∧ (pointGet t.alu.points id).acked = false ∧ (s.upTo w).Logged t .point 0 (twoParts id 2)) ∧
        ((pointGet s.alu.points id).state = .clearing → (if (pointConfig s id).latch = true ∧ (pointGet s.alu.points id).acked = false then (pointGet t.alu.points id).state = .latched ∧ (s.upTo w).Logged t .point 0 (twoParts id 4) else (pointGet t.alu.points id).state = .inactive ∧ (s.upTo w).Logged t .point 0 (twoParts id 0)) ∧ (pointGet t.alu.points id).acked = false) ∧
        (((pointGet s.alu.points id).state = .qualifying ∨ (pointGet s.alu.points id).state = .latched ∨ (pointGet s.alu.points id).state = .clearing) → (pointGet t.alu.points id).timerEnd = none) ∧
        (pointGet t.alu.points id).condition = (pointGet s.alu.points id).condition ∧
        (∀ j ∈ pointIds, j ≠ id → pointGet t.alu.points j = pointGet s.alu.points j) ∧
        (s.settings.alu.points.length = 32 → t.classCount (pointConfig s id).cls + (standing (pointGet s.alu.points id).state).toNat = s.classCount (pointConfig s id).cls + (standing (pointGet t.alu.points id).state).toNat) ∧
        (∀ x ∈ [PointClass.urgent, .nonUrgent, .info], x ≠ (pointConfig s id).cls → t.classCount x = s.classCount x) ∧
        (s.upTo w).ChangedOnly [.alu, .sdo, .pli] t) ∧
    (∀ (w : Moment) (s : State) (args : List Byte),
      s.SitePlain →
      args = [] →
      s.alu.points.length = 32 →
      ∃ t, exec (.ack w args) s = .next t ∧
        (∀ id ∈ pointIds, (pointGet t.alu.points id).state = (if (pointGet s.alu.points id).state = .latched then (if (pointGet s.alu.points id).timerEnd.isSome then .qualifying else .inactive) else (pointGet s.alu.points id).state) ∧ (pointGet t.alu.points id).acked = (if (pointGet s.alu.points id).state = .active ∨ (pointGet s.alu.points id).state = .clearing then true else (pointGet s.alu.points id).acked) ∧ (pointGet t.alu.points id).condition = (pointGet s.alu.points id).condition ∧ (pointGet t.alu.points id).timerEnd = (pointGet s.alu.points id).timerEnd) ∧
        t.Answered .ack .ok none ∧
        t.LoggedLast .ack .ok ∧
        t.sup = { (s.upTo w).heldOpen.sup with response := t.sup.response } ∧
        (s.upTo w).ChangedOnly [.alu, .sdo, .pli, .sup] t)

/-- R177, R179, R180: the dwells. -/
def Obligations.TheDwellsChangeTheMode : Prop :=
    (∀ (w : Moment) (s : State),
      s.Steady →
      s.sup.holdEnd = none →
      s.operating = true →
      s.sup.mode = .full →
      (s.upTo w).leanComplete = true →
      ∃ t, exec (.leanDwell w) s = .next t ∧
        t.sup = { s.sup with mode := .lean } ∧
        (s.upTo w).Logged t .mode 0 (twoParts 0 1) ∧
        (s.pli.granted = false → t.pli = s.pli) ∧
        (s.pli.granted = true → (if (s.pli.spacingEnd.any fun e => decide ((s.upTo w).now < e)) = true then t.pli = { s.pli with deferred := true } else (s.pli).EnqueuedTo .status (encodeStatus t.ownStatus) t.pli ∧ t.pli.statusDue = some ((s.upTo w).now + 10000) ∧ t.pli.spacingEnd = some ((s.upTo w).now + 250) ∧ t.pli.deferred = false)) ∧
        (s.upTo w).ChangedOnly [.sup, .alu, .pli, .sdo] t) ∧
    (∀ (w : Moment) (s : State),
      s.Steady →
      (s.sup.holdEnd.isSome = true ∨ s.sup.mode ≠ .full ∨ (s.upTo w).leanComplete = false) →
      exec (.leanDwell w) s = .next ((s.upTo w))) ∧
    (∀ (w : Moment) (s : State),
      s.Steady →
      s.sup.holdEnd = none →
      (s.upTo w).dormantComplete = true →
      s.sup.dormantHeld = false →
      s.sup.entryWait = none →
      (s.settings.sup.mask.acSense = true ∨ s.settings.sup.mask.line = true ∨ s.settings.sup.mask.sitePort = true ∨ s.settings.sup.mask.timer = true) →
      ∃ t, exec (.dormantDwell w) s = .next t ∧
        t.sup = { s.sup with entryWait := some ((s.upTo w).now + 1000) } ∧
        (s.pli.granted = true → (s.pli).EnqueuedTo .quiet [1] t.pli) ∧
        (s.pli.granted = false → t.pli = s.pli) ∧
        (s.upTo w).ChangedOnly [.sup, .pli] t) ∧
    (∀ (w : Moment) (s : State),
      s.Steady →
      s.sup.holdEnd = none →
      (s.upTo w).dormantComplete = true →
      s.sup.dormantHeld = false →
      s.sup.entryWait = none →
      s.settings.sup.mask.acSense = false →
      s.settings.sup.mask.line = false →
      s.settings.sup.mask.sitePort = false →
      s.settings.sup.mask.timer = false →
      ∃ t, exec (.dormantDwell w) s = .next t ∧
        t.sup = { s.sup with configPart := true, dormantHeld := true } ∧
        (s.alu.running = true → s.alu.points.length = 32 → (pointGet t.alu.points 18).condition = true) ∧
        (s.upTo w).ChangedOnly [.sup, .alu, .sdo, .pli] t) ∧
    (∀ (w : Moment) (s : State),
      s.Steady →
      due s.sup.holdEnd (s.upTo w).now = true →
      (s.upTo w).dormantComplete = false →
      (s.upTo w).leanComplete = false →
      exec (.siteHoldEnd w) s = .next ((s.upTo w).onSup fun x => { x with holdEnd := none })) ∧
    (∀ (w : Moment) (s : State),
      s.Steady →
      due s.sup.holdEnd (s.upTo w).now = true →
      (s.upTo w).dormantComplete = false →
      (s.upTo w).leanComplete = true →
      s.operating = true →
      s.sup.mode = .full →
      ∃ t, exec (.siteHoldEnd w) s = .next t ∧
        t.sup = { s.sup with holdEnd := none, mode := .lean } ∧
        (s.upTo w).Logged t .mode 0 (twoParts 0 1) ∧
        (s.pli.granted = false → t.pli = s.pli) ∧
        (s.pli.granted = true → (if (s.pli.spacingEnd.any fun e => decide ((s.upTo w).now < e)) = true then t.pli = { s.pli with deferred := true } else (s.pli).EnqueuedTo .status (encodeStatus t.ownStatus) t.pli ∧ t.pli.statusDue = some ((s.upTo w).now + 10000) ∧ t.pli.spacingEnd = some ((s.upTo w).now + 250) ∧ t.pli.deferred = false)) ∧
        (s.upTo w).ChangedOnly [.sup, .alu, .pli, .sdo] t) ∧
    (∀ (w : Moment) (s : State),
      s.Steady →
      (s.sup.holdEnd.isSome = true ∨ (s.upTo w).dormantComplete = false ∨ s.sup.dormantHeld = true ∨ s.sup.entryWait.isSome = true) →
      exec (.dormantDwell w) s = .next ((s.upTo w))) ∧
    (∀ (w : Moment) (s : State),
      s.Steady →
      due s.sup.holdEnd (s.upTo w).now = true →
      (s.upTo w).dormantComplete = true →
      s.sup.dormantHeld = false →
      s.sup.entryWait = none →
      (s.settings.sup.mask.acSense = true ∨ s.settings.sup.mask.line = true ∨ s.settings.sup.mask.sitePort = true ∨ s.settings.sup.mask.timer = true) →
      ∃ t, exec (.siteHoldEnd w) s = .next t ∧
        (t.sup = { s.sup with holdEnd := none, entryWait := some ((s.upTo w).now + 1000), mode := if s.operating = true ∧ s.sup.mode = .full ∧ (s.upTo w).leanComplete = true then .lean else s.sup.mode }) ∧
        (s.pli.granted = true → t.pli.Holds .quiet [1]) ∧
        (s.upTo w).ChangedOnly [.sup, .alu, .pli, .sdo] t) ∧
    (∀ (w : Moment) (s : State),
      s.Steady →
      due s.sup.holdEnd (s.upTo w).now = true →
      (s.upTo w).dormantComplete = true →
      s.sup.dormantHeld = false →
      s.sup.entryWait = none →
      s.settings.sup.mask.acSense = false →
      s.settings.sup.mask.line = false →
      s.settings.sup.mask.sitePort = false →
      s.settings.sup.mask.timer = false →
      ∃ t, exec (.siteHoldEnd w) s = .next t ∧
        (t.sup = { s.sup with holdEnd := none, configPart := true, dormantHeld := true, mode := if s.operating = true ∧ s.sup.mode = .full ∧ (s.upTo w).leanComplete = true then .lean else s.sup.mode }) ∧
        (s.alu.running = true → s.alu.points.length = 32 → (pointGet t.alu.points 18).condition = true) ∧
        (s.upTo w).ChangedOnly [.sup, .alu, .pli, .sdo] t)

/-- R183, R191: the retained-record writer (log entry 5 for what a write that is not acknowledged leaves, 30 for
the periodic timer while a write is pending). -/
def Obligations.RetainedWritesReachTheStore : Prop :=
    (∀ (w : Moment) (s : State),
      s.Steady →
      due s.sup.periodicAt (s.upTo w).now = true →
      s.gco.unsettled = false →
      s.sup.writing = none →
      exec (.periodicWriteTimer w) s = .next ((s.upTo w).onSup fun x => { x with writing := some s.retainedNow, periodicAt := if s.awake = true then some ((s.upTo w).now + 900000) else none })) ∧
    (∀ (w : Moment) (s : State),
      s.Steady →
      due s.sup.periodicAt (s.upTo w).now = true →
      (s.gco.unsettled = true ∨ s.sup.writing.isSome = true) →
      exec (.periodicWriteTimer w) s = .next ((s.upTo w).onSup fun x => { x with pendingWrite := true, periodicAt := none })) ∧
    (∀ (w : Moment) (s : State) (v : Retained),
      s.Steady →
      s.StoreCanonical →
      s.sup.writing = some v →
      ∃ t, exec (.retainedWriteEnd w true) s = .next t ∧
        readRecord t.store [] 13 = .inr (encodeRetained v) ∧
        (∀ a, a < 0x300 ∨ 0x314 ≤ a → storeRead t.store a = storeRead s.store a) ∧
        t.spoiled = s.spoiled ∧
        t.sup.retainLost = false ∧
        (s.sup.pendingWrite = false ∨ s.gco.unsettled = true → t.sup = { s.sup with writing := none, retainLost := false }) ∧
        (s.sup.pendingWrite = true → s.gco.unsettled = false → t.sup.writing = some s.retainedNow ∧ t.sup.pendingWrite = false) ∧
        (s.alu.running = true → s.alu.points.length = 32 → (pointGet t.alu.points 21).condition = false) ∧
        (s.upTo w).ChangedOnly [.store, .sup, .alu, .sdo, .pli] t) ∧
    (∀ (w : Moment) (s : State) (v : Retained),
      s.Steady →
      s.StoreCanonical →
      s.sup.writing = some v →
      ∃ t, exec (.retainedWriteEnd w false) s = .next t ∧
        (∀ a, a < 0x300 ∨ 0x314 ≤ a → storeRead t.store a = storeRead s.store a) ∧
        t.spoiled = s.spoiled + 1 ∧
        t.sup.retainLost = true ∧
        (s.upTo w).Logged t .store 0 (twoParts 13 3) ∧
        (s.sup.pendingWrite = false ∨ s.gco.unsettled = true → t.sup = { s.sup with writing := none, retainLost := true }) ∧
        (s.sup.pendingWrite = true → s.gco.unsettled = false → t.sup.writing = some s.retainedNow ∧ t.sup.pendingWrite = false) ∧
        (s.upTo w).ChangedOnly [.store, .spoiled, .sup, .alu, .sdo, .pli] t)

/-- R179 to R186, R190: what every request does, whoever answers it (log entry 16 for the order of effect and entry). -/
def Obligations.EveryValidRequestIsAnswered : Prop :=
    (∀ (s : State) (c : Instr) (cmd : SiteCommand) (args : List Byte),
      wellFormed c = true →
      c.request = some (cmd, args) →
      s.SiteReady →
      ∃ t, exec (c) s = .next t ∧
        (∃ code reason, t.Answered cmd code reason ∧ (cmd.isRead = false → t.LoggedLast cmd code) ∧ (args.length ≠ cmd.argLength → code = .badArg ∧ reason = none) ∧ (args.length = cmd.argLength → s.sup.restartWait.isSome = true → (if cmd = .restart then code = .ok ∧ reason = none else code = .refused ∧ reason = some .restarting))) ∧
        (t.sup.holdEnd = some ((s.upTo c.moment).now + 600000) ∧ t.sup.entryWait = none) ∧
        (s.sup.phase = .check → t.sup.phase = .operating) ∧
        (t.operating = true → t.sup.mode ≠ .lean) ∧
        (s.sup.phase ≠ .check → t.sup.phase = s.sup.phase)) ∧
    (∀ (s : State) (c : Instr) (cmd : SiteCommand) (args : List Byte),
      wellFormed c = true →
      c.request = some (cmd, args) →
      s.SiteReady →
      s.sup.phase ≠ .check →
      s.sup.mode = .full →
      s.sup.entryWait = none →
      (args.length ≠ cmd.argLength ∨ s.sup.restartWait.isSome = true) →
      ∃ t, exec (c) s = .next t ∧
        (t = ((s.upTo c.moment).heldOpen.onSup fun x => { x with response := t.sup.response }).onAlu fun _ => t.alu) ∧
        t.alu = { (s.upTo c.moment).alu with log := t.alu.log, overflow := t.alu.overflow }) ∧
    (∀ (s : State) (c : Instr) (cmd : SiteCommand) (args : List Byte),
      wellFormed c = true →
      c.request = some (cmd, args) →
      s.asleep = true →
      s.settings.sup.mask.sitePort = true →
      ∃ t, exec (c) s = .next t ∧
        State.Woken .wakeSite (s.upTo c.moment) t ∧
        t.sup.response = s.sup.response) ∧
    (∀ (s : State) (c : Instr) (cmd : SiteCommand) (args : List Byte),
      wellFormed c = true →
      c.request = some (cmd, args) →
      s.Steady →
      s.asleep = false →
      (s.awake = false ∨ s.sup.siteDiscard = true) →
      exec (c) s = .next ((s.upTo c.moment)))

/-- R101, R173, R185, R186, R190 (log entry 18 for the widths of the data, 16 for requests). -/
def Obligations.TheReadsAnswerAndChangeNothingElse : Prop :=
    (∀ (w : Moment) (s : State),
      s.SitePlain →
      exec (.statusRead w []) s = .next (((s.upTo w).heldOpen).onSup fun x => { x with response := some { command := BitVec.ofNat 8 SiteCommand.statusRead.code, code := .ok, reason := none, data := statusData (s.upTo w).heldOpen } })) ∧
    (∀ (w : Moment) (s : State),
      s.SitePlain →
      exec (.pointsRead w []) s = .next (((s.upTo w).heldOpen).onSup fun x => { x with response := some { command := BitVec.ofNat 8 SiteCommand.pointsRead.code, code := .ok, reason := none, data := pointsData (s.upTo w).heldOpen } })) ∧
    (∀ (w : Moment) (s : State),
      s.SitePlain →
      exec (.logRead w []) s = .next (((s.upTo w).heldOpen.onAlu fun a => { a with log := a.log.drop 8, overflow := 0 }).onSup fun x => { x with response := some { command := BitVec.ofNat 8 SiteCommand.logRead.code, code := .ok, reason := none, data := fieldU 1 (min 8 s.alu.log.length) ++ fieldU 1 s.alu.overflow ++ (s.alu.log.take 8).flatMap encodeLogEntry } })) ∧
    (∀ (w : Moment) (s : State) (n : Byte) (p : PeerRecord),
      s.SitePlain →
      1 ≤ n.toNat →
      n.toNat ≤ 15 →
      findPeer s.ptb.peers n.toNat = some p →
      exec (.peerRead w [n]) s = .next (((s.upTo w).heldOpen).onSup fun x => { x with response := some { command := BitVec.ofNat 8 SiteCommand.peerRead.code, code := .ok, reason := none, data := peerData p } })) ∧
    (∀ (w : Moment) (s : State) (n : Byte),
      s.SitePlain →
      findPeer s.ptb.peers n.toNat = none →
      ∃ t, exec (.peerRead w [n]) s = .next t ∧
        (if n.toNat = 0 ∨ 15 < n.toNat then t.Answered .peerRead .badArg none else t.Answered .peerRead .refused (some .noRecord)) ∧
        (t = (s.upTo w).heldOpen.onSup fun x => { x with response := t.sup.response })) ∧
    (∀ (w : Moment) (s : State) (code : Byte) (args : List Byte),
      s.SiteReady →
      s.sup.phase ≠ .check →
      s.sup.mode = .full →
      s.sup.entryWait = none →
      siteCodeDefined code.toNat = false →
      exec (.unknown w code args) s = .next ((s.upTo w).heldOpen.onSup fun x => { x with response := some { command := code, code := .unknown, reason := none, data := [] } })) ∧
    (∀ (w : Moment) (s : State) (why : SiteFrameFault),
      s.Steady →
      s.SiteReady →
      exec (.siteBadFrame w why) s = .next ((s.upTo w).onSup fun x => { x with badFrames := satInc 65535 x.badFrames, siteDiscard := decide (why = .badLength) })) ∧
    (∀ (w : Moment) (s : State),
      s.Steady →
      s.awake = true →
      exec (.sitePortGap w) s = .next ((s.upTo w).onSup fun x => { x with siteDiscard := false })) ∧
    (∀ (w : Moment) (s : State),
      s.Steady →
      s.awake = true →
      exec (.overrun w) s = .next ((s.upTo w).onSup fun x => { x with overruns := satInc 65535 x.overruns }))

/-- R122, R135, R136: site forcing (log entry 16 for the order of effect and entry). -/
def Obligations.SiteForcingMovesTheRectifier : Prop :=
    (∀ (w : Moment) (s : State),
      s.SitePlain →
      s.operating = true →
      s.rot.state ≠ .noInput →
      s.rot.state ≠ .failed →
      s.rot.state ≠ .forcedRun →
      ∃ t, exec (.rectForceRun w [1]) s = .next t ∧
        State.InRectState .forcedRun (s.upTo w).now t ∧
        (t.rot.intent = none ∧ t.rot.settleAt = none ∧ t.rot.ramp = none) ∧
        t.Answered .rectForce .ok none ∧
        t.LoggedLast .rectForce .ok ∧
        t.sup = { (s.upTo w).heldOpen.sup with response := t.sup.response } ∧
        (s.upTo w).ChangedOnly [.rot, .sdo, .pli, .alu, .sup] t) ∧
    (∀ (w : Moment) (s : State),
      s.SitePlain →
      s.operating = true →
      s.rot.state = .forcedRun →
      ∃ t, exec (.rectForceRun w [1]) s = .next t ∧
        t.rot = s.rot ∧
        t.Answered .rectForce .ok none ∧
        (s.upTo w).ChangedOnly [.alu, .sup] t) ∧
    (∀ (w : Moment) (s : State),
      s.SitePlain →
      s.operating = true →
      s.sup.configFault = false →
      s.ptb.view = .mains →
      s.rot.state ≠ .noInput →
      s.rot.state ≠ .failed →
      s.rot.state ≠ .forcedRest →
      ∃ t, exec (.rectForceRest w [2]) s = .next t ∧
        State.InRectState .forcedRest (s.upTo w).now t ∧
        (t.rot.intent = none ∧ t.rot.settleAt = none ∧ t.rot.ramp = none) ∧
        t.Answered .rectForce .ok none ∧
        t.LoggedLast .rectForce .ok ∧
        t.sup = { (s.upTo w).heldOpen.sup with response := t.sup.response } ∧
        (s.upTo w).ChangedOnly [.rot, .sdo, .pli, .alu, .sup] t) ∧
    (∀ (w : Moment) (s : State),
      s.SitePlain →
      (s.rot.state = .forcedRun ∨ s.rot.state = .forcedRest) →
      ∃ t, exec (.release w [3]) s = .next t ∧
        (State.InRectState (if s.rot.state = .forcedRun then .run else .softStart) (s.upTo w).now t) ∧
        (t.rot.ramp = if s.rot.state = .forcedRun then none else some 0) ∧
        t.Answered .rectForce .ok none ∧
        t.LoggedLast .rectForce .ok ∧
        t.sup = { (s.upTo w).heldOpen.sup with response := t.sup.response } ∧
        (s.upTo w).ChangedOnly [.rot, .sdo, .pli, .alu, .sup] t) ∧
    (∀ (w : Moment) (s : State),
      s.SitePlain →
      s.rot.state ≠ .forcedRun →
      s.rot.state ≠ .forcedRest →
      ∃ t, exec (.release w [3]) s = .next t ∧
        t.Answered .rectForce .refused (some .notForced) ∧
        t.LoggedLast .rectForce .refused ∧
        (t = ((s.upTo w).heldOpen.onSup fun x => { x with response := t.sup.response }).onAlu fun a => { a with log := t.alu.log, overflow := t.alu.overflow })) ∧
    (∀ (w : Moment) (s : State),
      s.SitePlain →
      s.operating = false →
      ∃ t, exec (.rectForceRun w [1]) s = .next t ∧
        t.Answered .rectForce .refused (some .notOperating) ∧
        t.LoggedLast .rectForce .refused ∧
        (t = ((s.upTo w).heldOpen.onSup fun x => { x with response := t.sup.response }).onAlu fun a => { a with log := t.alu.log, overflow := t.alu.overflow })) ∧
    (∀ (w : Moment) (s : State),
      s.SitePlain →
      s.operating = true →
      s.rot.state = .noInput →
      ∃ t, exec (.rectForceRun w [1]) s = .next t ∧
        t.Answered .rectForce .refused (some .rectNoInput) ∧
        t.LoggedLast .rectForce .refused ∧
        (t = ((s.upTo w).heldOpen.onSup fun x => { x with response := t.sup.response }).onAlu fun a => { a with log := t.alu.log, overflow := t.alu.overflow })) ∧
    (∀ (w : Moment) (s : State),
      s.SitePlain →
      s.operating = true →
      s.rot.state = .failed →
      ∃ t, exec (.rectForceRun w [1]) s = .next t ∧
        t.Answered .rectForce .refused (some .rectFailed) ∧
        t.LoggedLast .rectForce .refused ∧
        (t = ((s.upTo w).heldOpen.onSup fun x => { x with response := t.sup.response }).onAlu fun a => { a with log := t.alu.log, overflow := t.alu.overflow })) ∧
    (∀ (w : Moment) (s : State),
      s.SitePlain →
      s.operating = true →
      s.sup.configFault = true →
      ∃ t, exec (.rectForceRest w [2]) s = .next t ∧
        t.Answered .rectForce .refused (some .configFault) ∧
        t.LoggedLast .rectForce .refused ∧
        (t = ((s.upTo w).heldOpen.onSup fun x => { x with response := t.sup.response }).onAlu fun a => { a with log := t.alu.log, overflow := t.alu.overflow })) ∧
    (∀ (w : Moment) (s : State),
      s.SitePlain →
      s.operating = true →
      s.sup.configFault = false →
      s.ptb.view ≠ .mains →
      ∃ t, exec (.rectForceRest w [2]) s = .next t ∧
        t.Answered .rectForce .refused (some .notMains) ∧
        t.LoggedLast .rectForce .refused ∧
        (t = ((s.upTo w).heldOpen.onSup fun x => { x with response := t.sup.response }).onAlu fun a => { a with log := t.alu.log, overflow := t.alu.overflow })) ∧
    (∀ (w : Moment) (s : State),
      s.SitePlain →
      s.operating = true →
      s.sup.configFault = false →
      s.ptb.view = .mains →
      s.rot.state = .forcedRest →
      ∃ t, exec (.rectForceRest w [2]) s = .next t ∧
        t.rot = s.rot ∧
        t.Answered .rectForce .ok none ∧
        (s.upTo w).ChangedOnly [.alu, .sup] t) ∧
    (∀ (w : Moment) (s : State),
      s.SitePlain →
      s.operating = false →
      ∃ t, exec (.rectForceRest w [2]) s = .next t ∧
        t.Answered .rectForce .refused (some .notOperating) ∧
        t.LoggedLast .rectForce .refused ∧
        (t = ((s.upTo w).heldOpen.onSup fun x => { x with response := t.sup.response }).onAlu fun a => { a with log := t.alu.log, overflow := t.alu.overflow })) ∧
    (∀ (w : Moment) (s : State),
      s.SitePlain →
      s.operating = true →
      s.sup.configFault = false →
      s.ptb.view = .mains →
      s.rot.state = .noInput →
      ∃ t, exec (.rectForceRest w [2]) s = .next t ∧
        t.Answered .rectForce .refused (some .rectNoInput) ∧
        t.LoggedLast .rectForce .refused ∧
        (t = ((s.upTo w).heldOpen.onSup fun x => { x with response := t.sup.response }).onAlu fun a => { a with log := t.alu.log, overflow := t.alu.overflow })) ∧
    (∀ (w : Moment) (s : State),
      s.SitePlain →
      s.operating = true →
      s.sup.configFault = false →
      s.ptb.view = .mains →
      s.rot.state = .failed →
      ∃ t, exec (.rectForceRest w [2]) s = .next t ∧
        t.Answered .rectForce .refused (some .rectFailed) ∧
        t.LoggedLast .rectForce .refused ∧
        (t = ((s.upTo w).heldOpen.onSup fun x => { x with response := t.sup.response }).onAlu fun a => { a with log := t.alu.log, overflow := t.alu.overflow }))

/-- R148, R157: the site's commands to the generator coordinator (log entry 16 for the order of effect and entry). -/
def Obligations.TheSiteTestsAndClearsTheGenerator : Prop :=
    (∀ (w : Moment) (s : State) (m : BitVec 16),
      s.SitePlain →
      m.toNat ≠ 0 →
      s.gatesHold = true →
      s.gco.state = .idle →
      ∃ t, exec (.genTest w [BitVec.ofNat 8 m.toNat, BitVec.ofNat 8 (m.toNat / 256)]) s = .next t ∧
        (∃ d, t.gco.demand = some d ∧ d.reason = .test ∧ d.raisedAt = (s.upTo w).now ∧ d.testEnd = some ((s.upTo w).now + min 240 m.toNat * 60000)) ∧
        (t.gco.state = if s.ptb.genRunning then .demandRun else .demandWait) ∧
        (s.sdo.live = true → t.sdo.relays.genDemand = true) ∧
        t.Answered .genTest .ok none ∧
        (s.upTo w).Logged t .demRaise 0 5 ∧
        t.LoggedLast .genTest .ok ∧
        t.sup = { (s.upTo w).heldOpen.sup with response := t.sup.response } ∧
        (s.upTo w).ChangedOnly [.gco, .sdo, .pli, .alu, .sup] t) ∧
    (∀ (w : Moment) (s : State) (m : BitVec 16) (d : Demand),
      s.SitePlain →
      s.gatesHold = true →
      (s.gco.state = .demandWait ∨ s.gco.state = .demandRun) →
      s.gco.demand = some d →
      d.reason = .test →
      ∃ t, exec (.genTest w [BitVec.ofNat 8 m.toNat, BitVec.ofNat 8 (m.toNat / 256)]) s = .next t ∧
        (m.toNat ≠ 0 → t.gco = { s.gco with demand := some { d with testEnd := some ((s.upTo w).now + min 240 m.toNat * 60000) } }) ∧
        (m.toNat = 0 → t.gco.state = .idle ∧ t.gco.demand = none ∧ (s.upTo w).Logged t .demRelease 0 5) ∧
        t.Answered .genTest .ok none ∧
        t.sup = { (s.upTo w).heldOpen.sup with response := t.sup.response } ∧
        (s.upTo w).ChangedOnly [.gco, .sdo, .pli, .alu, .sup] t) ∧
    (∀ (w : Moment) (s : State) (m : BitVec 16),
      s.SitePlain →
      m.toNat ≠ 0 →
      s.operating = true →
      s.sup.configFault = false →
      (s.gco.lockSet = true ∨ s.gco.unsettled = true) →
      ∃ t, exec (.genTest w [BitVec.ofNat 8 m.toNat, BitVec.ofNat 8 (m.toNat / 256)]) s = .next t ∧
        t.Answered .genTest .refused (some .locked) ∧
        t.LoggedLast .genTest .refused ∧
        (t = ((s.upTo w).heldOpen.onSup fun x => { x with response := t.sup.response }).onAlu fun a => { a with log := t.alu.log, overflow := t.alu.overflow })) ∧
    (∀ (w : Moment) (s : State) (m : BitVec 16),
      s.SitePlain →
      m.toNat ≠ 0 →
      s.gatesHold = true →
      s.gco.state = .runRest →
      ∃ t, exec (.genTest w [BitVec.ofNat 8 m.toNat, BitVec.ofNat 8 (m.toNat / 256)]) s = .next t ∧
        t.Answered .genTest .refused (some .genRest) ∧
        t.LoggedLast .genTest .refused ∧
        (t = ((s.upTo w).heldOpen.onSup fun x => { x with response := t.sup.response }).onAlu fun a => { a with log := t.alu.log, overflow := t.alu.overflow })) ∧
    (∀ (w : Moment) (s : State) (m : BitVec 16) (d : Demand),
      s.SitePlain →
      m.toNat ≠ 0 →
      s.gatesHold = true →
      (s.gco.state = .demandWait ∨ s.gco.state = .demandRun) →
      s.gco.demand = some d →
      d.reason ≠ .test →
      ∃ t, exec (.genTest w [BitVec.ofNat 8 m.toNat, BitVec.ofNat 8 (m.toNat / 256)]) s = .next t ∧
        t.Answered .genTest .refused (some .demandActive) ∧
        t.LoggedLast .genTest .refused ∧
        (t = ((s.upTo w).heldOpen.onSup fun x => { x with response := t.sup.response }).onAlu fun a => { a with log := t.alu.log, overflow := t.alu.overflow })) ∧
    (∀ (w : Moment) (s : State),
      s.SitePlain →
      (∀ d ∈ s.gco.demand, d.reason ≠ .test) →
      ∃ t, exec (.genTest w [0, 0]) s = .next t ∧
        t.Answered .genTest .ok none ∧
        t.LoggedLast .genTest .ok ∧
        (t = ((s.upTo w).heldOpen.onSup fun x => { x with response := t.sup.response }).onAlu fun a => { a with log := t.alu.log, overflow := t.alu.overflow })) ∧
    (∀ (w : Moment) (s : State),
      s.SitePlain →
      s.operating = true →
      s.gco.unsettled = false →
      s.gco.lockSet = true →
      ∃ t, exec (.lockoutClear w []) s = .next t ∧
        (t.gco.lockSet = false ∧ t.gco.epoch = (s.gco.epoch + 1) % 256 ∧ t.gco.unsettled = false) ∧
        (t.gco.state = .idle ∧ t.gco.startFail = false ∧ t.gco.busDwell = 0 ∧ t.gco.ownDwell = 0 ∧ t.gco.plantDwell = 0) ∧
        (s.pli.granted = true → t.pli.Holds .gen [2, BitVec.ofNat 8 ((s.gco.epoch + 1) % 256)]) ∧
        t.WritePrompted ∧
        t.Answered .lockoutClear .ok none ∧
        t.LoggedLast .lockoutClear .ok ∧
        (s.upTo w).ChangedOnly [.gco, .sdo, .pli, .alu, .sup] t) ∧
    (∀ (w : Moment) (s : State),
      s.SitePlain →
      s.operating = true →
      s.gco.unsettled = true →
      ∃ t, exec (.lockoutClear w []) s = .next t ∧
        t.Answered .lockoutClear .refused (some .unsettled) ∧
        t.LoggedLast .lockoutClear .refused ∧
        (t = ((s.upTo w).heldOpen.onSup fun x => { x with response := t.sup.response }).onAlu fun a => { a with log := t.alu.log, overflow := t.alu.overflow })) ∧
    (∀ (w : Moment) (s : State),
      s.SitePlain →
      s.operating = true →
      s.gco.unsettled = false →
      s.gco.lockSet = false →
      ∃ t, exec (.lockoutClear w []) s = .next t ∧
        t.Answered .lockoutClear .refused (some .notLocked) ∧
        t.LoggedLast .lockoutClear .refused ∧
        (t = ((s.upTo w).heldOpen.onSup fun x => { x with response := t.sup.response }).onAlu fun a => { a with log := t.alu.log, overflow := t.alu.overflow }))

/-- R53, R59, R101, R183, R184: the remaining site commands (log entry 16 for the order of effect and entry). -/
def Obligations.EqualizeForgetAndRestartAct : Prop :=
    (∀ (w : Moment) (s : State),
      s.SitePlain →
      ∃ t, exec (.equalizeStart w [1]) s = .next t ∧
        t.csc = { s.csc with eqDue := true } ∧
        t.Answered .equalize .ok none ∧
        t.LoggedLast .equalize .ok ∧
        t.sup = { (s.upTo w).heldOpen.sup with response := t.sup.response } ∧
        (s.upTo w).ChangedOnly [.csc, .alu, .sup] t) ∧
    (∀ (w : Moment) (s : State),
      s.SitePlain →
      s.csc.stage ≠ .equalize →
      ∃ t, exec (.equalizeStop w [2]) s = .next t ∧
        t.csc = { s.csc with eqDue := false } ∧
        t.Answered .equalize .ok none ∧
        t.LoggedLast .equalize .ok ∧
        t.sup = { (s.upTo w).heldOpen.sup with response := t.sup.response } ∧
        (s.upTo w).ChangedOnly [.csc, .alu, .sup] t) ∧
    (∀ (w : Moment) (s : State),
      s.SitePlain →
      s.csc.stage = .equalize →
      ∃ t, exec (.equalizeStop w [2]) s = .next t ∧
        t.csc = { s.csc with stage := .float, stageTimer := 0, tailDwell := 0, eqDue := false, target := targetFor s.settings.csc s.settings.csc.floatCell s.stringT } ∧
        t.Answered .equalize .ok none ∧
        (s.upTo w).Logged t .stage 0 (twoParts 5 4) ∧
        (t.sdo.live = true → t.sdo.outputs.strVref.target = t.csc.target) ∧
        (s.alu.running = true → s.alu.points.length = 32 → (pointGet t.alu.points 24).condition = false) ∧
        (s.upTo w).ChangedOnly [.csc, .sdo, .alu, .sac, .cbu, .pli, .sup] t) ∧
    (∀ (w : Moment) (s : State) (n : Byte) (p : PeerRecord),
      s.SitePlain →
      1 ≤ n.toNat →
      n.toNat ≤ 15 →
      n.toNat ≠ s.sup.number →
      findPeer s.ptb.peers n.toNat = some p →
      ∃ t, exec (.forgetPeer w [n]) s = .next t ∧
        (t.ptb.peers = s.ptb.peers.filter fun x => x.station != n.toNat) ∧
        (s.upTo w).Logged t .peer p.station (twoParts p.state.code 0) ∧
        t.Answered .forgetPeer .ok none ∧
        t.LoggedLast .forgetPeer .ok ∧
        (s.upTo w).ChangedOnly [.ptb, .csc, .cbu, .rot, .gco, .pli, .sup, .alu, .sdo] t) ∧
    (∀ (w : Moment) (s : State) (n : Byte),
      s.SitePlain →
      findPeer s.ptb.peers n.toNat = none →
      ∃ t, exec (.forgetPeer w [n]) s = .next t ∧
        (if n.toNat = 0 ∨ 15 < n.toNat ∨ n.toNat = s.sup.number then t.Answered .forgetPeer .badArg none else t.Answered .forgetPeer .refused (some .noRecord)) ∧
        t.ptb = s.ptb ∧
        (s.upTo w).ChangedOnly [.alu, .sup] t) ∧
    (∀ (w : Moment) (s : State),
      s.SitePlain →
      ∃ t, exec (.restart w []) s = .next t ∧
        (t.sup.restartWait = some { quietBy := if s.pli.granted then some ((s.upTo w).now + 1000) else none }) ∧
        (s.pli.granted = true → (s.pli).EnqueuedTo .quiet [2] t.pli) ∧
        t.WritePrompted ∧
        t.Answered .restart .ok none ∧
        t.LoggedLast .restart .ok ∧
        (s.upTo w).ChangedOnly [.pli, .alu, .sup] t)

/-- R42, R45: the resync of RESYNC_FULL; those of R43 and R44 come with a set (log entry 16 for the order of effect and entry). -/
def Obligations.AFullResyncFillsTheCount : Prop :=
    (∀ (w : Moment) (s : State),
      s.SitePlain →
      0 < s.sac.cEff →
      ∃ t, exec (.resyncFull w []) s = .next t ∧
        t.sac = { s.sac with q := s.sac.cEff, r := 0, synced := true, resyncDwell := 0, soc := 1000, d := 0, lineDeficit := 0 } ∧
        (s.alu.running = true → s.alu.points.length = 32 → (pointGet t.alu.points 23).condition = false) ∧
        (s.alu.running = true → (pointGet s.alu.points 23).condition = false → t.alu.points = s.alu.points) ∧
        t.Answered .resyncFull .ok none ∧
        t.LoggedLast .resyncFull .ok ∧
        t.sup = { (s.upTo w).heldOpen.sup with response := t.sup.response } ∧
        (s.upTo w).ChangedOnly [.sac, .alu, .sdo, .pli, .sup] t)

/-- R76, R79, R80, R94, R187 to R191: encodings read back. -/
def Obligations.RecordsAndFramesReadBack : Prop :=
    (∀ (m : List Host.Cell) (v : Retained), storeWf m = true → v.q < 4294967296 → v.r < 256 → v.runMinutes < 4294967296 →
      v.epoch < 256 → v.eqDays < 65536 → v.exMinutes < 65536 →
      ∃ b, readRecord (storeWriteAll m (recordAddress 13) (recordBytes (encodeRetained v))) [] 13 = .inr b ∧
        decodeRetained b = v) ∧
    (∀ (m : List Host.Cell) (v : Retained) (a : Nat), storeWf m = true → a < 0x300 ∨ 0x314 ≤ a →
      storeRead (storeWriteAll m (recordAddress 13) (recordBytes (encodeRetained v))) a = storeRead m a) ∧
    (∀ c : StatusContent, c.mode ≠ .dormant → c.causeCode < 16 → c.epoch < 256 → c.reasonCode < 256 → c.rectI < 65536 →
      -32768 ≤ c.strI → c.strI < 32768 → c.busV < 65536 → c.soc ≤ 1000 → c.deficit < 65536 → 20 ≤ c.capacityAh →
      c.capacityAh ≤ 500 → c.runHours < 65536 → c.digest < 65536 → c.urgent < 256 → c.nonUrgent < 256 → c.flags.toNat < 128 →
      (encodeStatus c).length = 26 ∧ decodeStatus (encodeStatus c) = some c) ∧
    (∀ (kind : NoteKind) (n seq : Nat) (payload : List Byte), 1 ≤ n → n ≤ 15 → seq < 16 →
      lengthAllowed kind payload.length = true →
      framePasses (buildFrame kind n seq payload) = true ∧
        noteKindOf (byte0Kind (byteAt (buildFrame kind n seq payload) 0)) = some kind ∧
        byte0Station (byteAt (buildFrame kind n seq payload) 0) = n ∧
        byteAt (buildFrame kind n seq payload) 1 = seq)
end

