-- ==== Sys2Proof/Laws/State.lean ====
section
/-! SUPPORT. What each update of one part of the state does to each part: the part named changes by the function
given, every other part stays. -/

namespace Sys2Proof.Machine

@[simp] theorem State.onClock_clock (f : Nat → Nat) (s : State) : (s.onClock f).clock = f s.clock := rfl
@[simp] theorem State.onClock_settings (f : Nat → Nat) (s : State) : (s.onClock f).settings = s.settings := rfl
@[simp] theorem State.onClock_mch (f : Nat → Nat) (s : State) : (s.onClock f).mch = s.mch := rfl
@[simp] theorem State.onClock_sdo (f : Nat → Nat) (s : State) : (s.onClock f).sdo = s.sdo := rfl
@[simp] theorem State.onClock_sac (f : Nat → Nat) (s : State) : (s.onClock f).sac = s.sac := rfl
@[simp] theorem State.onClock_csc (f : Nat → Nat) (s : State) : (s.onClock f).csc = s.csc := rfl
@[simp] theorem State.onClock_pli (f : Nat → Nat) (s : State) : (s.onClock f).pli = s.pli := rfl
@[simp] theorem State.onClock_ptb (f : Nat → Nat) (s : State) : (s.onClock f).ptb = s.ptb := rfl
@[simp] theorem State.onClock_cbu (f : Nat → Nat) (s : State) : (s.onClock f).cbu = s.cbu := rfl
@[simp] theorem State.onClock_rot (f : Nat → Nat) (s : State) : (s.onClock f).rot = s.rot := rfl
@[simp] theorem State.onClock_gco (f : Nat → Nat) (s : State) : (s.onClock f).gco = s.gco := rfl
@[simp] theorem State.onClock_alu (f : Nat → Nat) (s : State) : (s.onClock f).alu = s.alu := rfl
@[simp] theorem State.onClock_sup (f : Nat → Nat) (s : State) : (s.onClock f).sup = s.sup := rfl
@[simp] theorem State.onClock_store (f : Nat → Nat) (s : State) : (s.onClock f).store = s.store := rfl
@[simp] theorem State.onClock_spoiled (f : Nat → Nat) (s : State) : (s.onClock f).spoiled = s.spoiled := rfl
@[simp] theorem State.onClock_pending (f : Nat → Nat) (s : State) : (s.onClock f).pending = s.pending := rfl
@[simp] theorem State.onSettings_clock (f : Settings → Settings) (s : State) : (s.onSettings f).clock = s.clock := rfl
@[simp] theorem State.onSettings_settings (f : Settings → Settings) (s : State) : (s.onSettings f).settings = f s.settings := rfl
@[simp] theorem State.onSettings_mch (f : Settings → Settings) (s : State) : (s.onSettings f).mch = s.mch := rfl
@[simp] theorem State.onSettings_sdo (f : Settings → Settings) (s : State) : (s.onSettings f).sdo = s.sdo := rfl
@[simp] theorem State.onSettings_sac (f : Settings → Settings) (s : State) : (s.onSettings f).sac = s.sac := rfl
@[simp] theorem State.onSettings_csc (f : Settings → Settings) (s : State) : (s.onSettings f).csc = s.csc := rfl
@[simp] theorem State.onSettings_pli (f : Settings → Settings) (s : State) : (s.onSettings f).pli = s.pli := rfl
@[simp] theorem State.onSettings_ptb (f : Settings → Settings) (s : State) : (s.onSettings f).ptb = s.ptb := rfl
@[simp] theorem State.onSettings_cbu (f : Settings → Settings) (s : State) : (s.onSettings f).cbu = s.cbu := rfl
@[simp] theorem State.onSettings_rot (f : Settings → Settings) (s : State) : (s.onSettings f).rot = s.rot := rfl
@[simp] theorem State.onSettings_gco (f : Settings → Settings) (s : State) : (s.onSettings f).gco = s.gco := rfl
@[simp] theorem State.onSettings_alu (f : Settings → Settings) (s : State) : (s.onSettings f).alu = s.alu := rfl
@[simp] theorem State.onSettings_sup (f : Settings → Settings) (s : State) : (s.onSettings f).sup = s.sup := rfl
@[simp] theorem State.onSettings_store (f : Settings → Settings) (s : State) : (s.onSettings f).store = s.store := rfl
@[simp] theorem State.onSettings_spoiled (f : Settings → Settings) (s : State) : (s.onSettings f).spoiled = s.spoiled := rfl
@[simp] theorem State.onSettings_pending (f : Settings → Settings) (s : State) : (s.onSettings f).pending = s.pending := rfl
@[simp] theorem State.onMch_clock (f : Mch → Mch) (s : State) : (s.onMch f).clock = s.clock := rfl
@[simp] theorem State.onMch_settings (f : Mch → Mch) (s : State) : (s.onMch f).settings = s.settings := rfl
@[simp] theorem State.onMch_mch (f : Mch → Mch) (s : State) : (s.onMch f).mch = f s.mch := rfl
@[simp] theorem State.onMch_sdo (f : Mch → Mch) (s : State) : (s.onMch f).sdo = s.sdo := rfl
@[simp] theorem State.onMch_sac (f : Mch → Mch) (s : State) : (s.onMch f).sac = s.sac := rfl
@[simp] theorem State.onMch_csc (f : Mch → Mch) (s : State) : (s.onMch f).csc = s.csc := rfl
@[simp] theorem State.onMch_pli (f : Mch → Mch) (s : State) : (s.onMch f).pli = s.pli := rfl
@[simp] theorem State.onMch_ptb (f : Mch → Mch) (s : State) : (s.onMch f).ptb = s.ptb := rfl
@[simp] theorem State.onMch_cbu (f : Mch → Mch) (s : State) : (s.onMch f).cbu = s.cbu := rfl
@[simp] theorem State.onMch_rot (f : Mch → Mch) (s : State) : (s.onMch f).rot = s.rot := rfl
@[simp] theorem State.onMch_gco (f : Mch → Mch) (s : State) : (s.onMch f).gco = s.gco := rfl
@[simp] theorem State.onMch_alu (f : Mch → Mch) (s : State) : (s.onMch f).alu = s.alu := rfl
@[simp] theorem State.onMch_sup (f : Mch → Mch) (s : State) : (s.onMch f).sup = s.sup := rfl
@[simp] theorem State.onMch_store (f : Mch → Mch) (s : State) : (s.onMch f).store = s.store := rfl
@[simp] theorem State.onMch_spoiled (f : Mch → Mch) (s : State) : (s.onMch f).spoiled = s.spoiled := rfl
@[simp] theorem State.onMch_pending (f : Mch → Mch) (s : State) : (s.onMch f).pending = s.pending := rfl
@[simp] theorem State.onSdo_clock (f : Sdo → Sdo) (s : State) : (s.onSdo f).clock = s.clock := rfl
@[simp] theorem State.onSdo_settings (f : Sdo → Sdo) (s : State) : (s.onSdo f).settings = s.settings := rfl
@[simp] theorem State.onSdo_mch (f : Sdo → Sdo) (s : State) : (s.onSdo f).mch = s.mch := rfl
@[simp] theorem State.onSdo_sdo (f : Sdo → Sdo) (s : State) : (s.onSdo f).sdo = f s.sdo := rfl
@[simp] theorem State.onSdo_sac (f : Sdo → Sdo) (s : State) : (s.onSdo f).sac = s.sac := rfl
@[simp] theorem State.onSdo_csc (f : Sdo → Sdo) (s : State) : (s.onSdo f).csc = s.csc := rfl
@[simp] theorem State.onSdo_pli (f : Sdo → Sdo) (s : State) : (s.onSdo f).pli = s.pli := rfl
@[simp] theorem State.onSdo_ptb (f : Sdo → Sdo) (s : State) : (s.onSdo f).ptb = s.ptb := rfl
@[simp] theorem State.onSdo_cbu (f : Sdo → Sdo) (s : State) : (s.onSdo f).cbu = s.cbu := rfl
@[simp] theorem State.onSdo_rot (f : Sdo → Sdo) (s : State) : (s.onSdo f).rot = s.rot := rfl
@[simp] theorem State.onSdo_gco (f : Sdo → Sdo) (s : State) : (s.onSdo f).gco = s.gco := rfl
@[simp] theorem State.onSdo_alu (f : Sdo → Sdo) (s : State) : (s.onSdo f).alu = s.alu := rfl
@[simp] theorem State.onSdo_sup (f : Sdo → Sdo) (s : State) : (s.onSdo f).sup = s.sup := rfl
@[simp] theorem State.onSdo_store (f : Sdo → Sdo) (s : State) : (s.onSdo f).store = s.store := rfl
@[simp] theorem State.onSdo_spoiled (f : Sdo → Sdo) (s : State) : (s.onSdo f).spoiled = s.spoiled := rfl
@[simp] theorem State.onSdo_pending (f : Sdo → Sdo) (s : State) : (s.onSdo f).pending = s.pending := rfl
@[simp] theorem State.onSac_clock (f : Sac → Sac) (s : State) : (s.onSac f).clock = s.clock := rfl
@[simp] theorem State.onSac_settings (f : Sac → Sac) (s : State) : (s.onSac f).settings = s.settings := rfl
@[simp] theorem State.onSac_mch (f : Sac → Sac) (s : State) : (s.onSac f).mch = s.mch := rfl
@[simp] theorem State.onSac_sdo (f : Sac → Sac) (s : State) : (s.onSac f).sdo = s.sdo := rfl
@[simp] theorem State.onSac_sac (f : Sac → Sac) (s : State) : (s.onSac f).sac = f s.sac := rfl
@[simp] theorem State.onSac_csc (f : Sac → Sac) (s : State) : (s.onSac f).csc = s.csc := rfl
@[simp] theorem State.onSac_pli (f : Sac → Sac) (s : State) : (s.onSac f).pli = s.pli := rfl
@[simp] theorem State.onSac_ptb (f : Sac → Sac) (s : State) : (s.onSac f).ptb = s.ptb := rfl
@[simp] theorem State.onSac_cbu (f : Sac → Sac) (s : State) : (s.onSac f).cbu = s.cbu := rfl
@[simp] theorem State.onSac_rot (f : Sac → Sac) (s : State) : (s.onSac f).rot = s.rot := rfl
@[simp] theorem State.onSac_gco (f : Sac → Sac) (s : State) : (s.onSac f).gco = s.gco := rfl
@[simp] theorem State.onSac_alu (f : Sac → Sac) (s : State) : (s.onSac f).alu = s.alu := rfl
@[simp] theorem State.onSac_sup (f : Sac → Sac) (s : State) : (s.onSac f).sup = s.sup := rfl
@[simp] theorem State.onSac_store (f : Sac → Sac) (s : State) : (s.onSac f).store = s.store := rfl
@[simp] theorem State.onSac_spoiled (f : Sac → Sac) (s : State) : (s.onSac f).spoiled = s.spoiled := rfl
@[simp] theorem State.onSac_pending (f : Sac → Sac) (s : State) : (s.onSac f).pending = s.pending := rfl
@[simp] theorem State.onCsc_clock (f : Csc → Csc) (s : State) : (s.onCsc f).clock = s.clock := rfl
@[simp] theorem State.onCsc_settings (f : Csc → Csc) (s : State) : (s.onCsc f).settings = s.settings := rfl
@[simp] theorem State.onCsc_mch (f : Csc → Csc) (s : State) : (s.onCsc f).mch = s.mch := rfl
@[simp] theorem State.onCsc_sdo (f : Csc → Csc) (s : State) : (s.onCsc f).sdo = s.sdo := rfl
@[simp] theorem State.onCsc_sac (f : Csc → Csc) (s : State) : (s.onCsc f).sac = s.sac := rfl
@[simp] theorem State.onCsc_csc (f : Csc → Csc) (s : State) : (s.onCsc f).csc = f s.csc := rfl
@[simp] theorem State.onCsc_pli (f : Csc → Csc) (s : State) : (s.onCsc f).pli = s.pli := rfl
@[simp] theorem State.onCsc_ptb (f : Csc → Csc) (s : State) : (s.onCsc f).ptb = s.ptb := rfl
@[simp] theorem State.onCsc_cbu (f : Csc → Csc) (s : State) : (s.onCsc f).cbu = s.cbu := rfl
@[simp] theorem State.onCsc_rot (f : Csc → Csc) (s : State) : (s.onCsc f).rot = s.rot := rfl
@[simp] theorem State.onCsc_gco (f : Csc → Csc) (s : State) : (s.onCsc f).gco = s.gco := rfl
@[simp] theorem State.onCsc_alu (f : Csc → Csc) (s : State) : (s.onCsc f).alu = s.alu := rfl
@[simp] theorem State.onCsc_sup (f : Csc → Csc) (s : State) : (s.onCsc f).sup = s.sup := rfl
@[simp] theorem State.onCsc_store (f : Csc → Csc) (s : State) : (s.onCsc f).store = s.store := rfl
@[simp] theorem State.onCsc_spoiled (f : Csc → Csc) (s : State) : (s.onCsc f).spoiled = s.spoiled := rfl
@[simp] theorem State.onCsc_pending (f : Csc → Csc) (s : State) : (s.onCsc f).pending = s.pending := rfl
@[simp] theorem State.onPli_clock (f : Pli → Pli) (s : State) : (s.onPli f).clock = s.clock := rfl
@[simp] theorem State.onPli_settings (f : Pli → Pli) (s : State) : (s.onPli f).settings = s.settings := rfl
@[simp] theorem State.onPli_mch (f : Pli → Pli) (s : State) : (s.onPli f).mch = s.mch := rfl
@[simp] theorem State.onPli_sdo (f : Pli → Pli) (s : State) : (s.onPli f).sdo = s.sdo := rfl
@[simp] theorem State.onPli_sac (f : Pli → Pli) (s : State) : (s.onPli f).sac = s.sac := rfl
@[simp] theorem State.onPli_csc (f : Pli → Pli) (s : State) : (s.onPli f).csc = s.csc := rfl
@[simp] theorem State.onPli_pli (f : Pli → Pli) (s : State) : (s.onPli f).pli = f s.pli := rfl
@[simp] theorem State.onPli_ptb (f : Pli → Pli) (s : State) : (s.onPli f).ptb = s.ptb := rfl
@[simp] theorem State.onPli_cbu (f : Pli → Pli) (s : State) : (s.onPli f).cbu = s.cbu := rfl
@[simp] theorem State.onPli_rot (f : Pli → Pli) (s : State) : (s.onPli f).rot = s.rot := rfl
@[simp] theorem State.onPli_gco (f : Pli → Pli) (s : State) : (s.onPli f).gco = s.gco := rfl
@[simp] theorem State.onPli_alu (f : Pli → Pli) (s : State) : (s.onPli f).alu = s.alu := rfl
@[simp] theorem State.onPli_sup (f : Pli → Pli) (s : State) : (s.onPli f).sup = s.sup := rfl
@[simp] theorem State.onPli_store (f : Pli → Pli) (s : State) : (s.onPli f).store = s.store := rfl
@[simp] theorem State.onPli_spoiled (f : Pli → Pli) (s : State) : (s.onPli f).spoiled = s.spoiled := rfl
@[simp] theorem State.onPli_pending (f : Pli → Pli) (s : State) : (s.onPli f).pending = s.pending := rfl
@[simp] theorem State.onPtb_clock (f : Ptb → Ptb) (s : State) : (s.onPtb f).clock = s.clock := rfl
@[simp] theorem State.onPtb_settings (f : Ptb → Ptb) (s : State) : (s.onPtb f).settings = s.settings := rfl
@[simp] theorem State.onPtb_mch (f : Ptb → Ptb) (s : State) : (s.onPtb f).mch = s.mch := rfl
@[simp] theorem State.onPtb_sdo (f : Ptb → Ptb) (s : State) : (s.onPtb f).sdo = s.sdo := rfl
@[simp] theorem State.onPtb_sac (f : Ptb → Ptb) (s : State) : (s.onPtb f).sac = s.sac := rfl
@[simp] theorem State.onPtb_csc (f : Ptb → Ptb) (s : State) : (s.onPtb f).csc = s.csc := rfl
@[simp] theorem State.onPtb_pli (f : Ptb → Ptb) (s : State) : (s.onPtb f).pli = s.pli := rfl
@[simp] theorem State.onPtb_ptb (f : Ptb → Ptb) (s : State) : (s.onPtb f).ptb = f s.ptb := rfl
@[simp] theorem State.onPtb_cbu (f : Ptb → Ptb) (s : State) : (s.onPtb f).cbu = s.cbu := rfl
@[simp] theorem State.onPtb_rot (f : Ptb → Ptb) (s : State) : (s.onPtb f).rot = s.rot := rfl
@[simp] theorem State.onPtb_gco (f : Ptb → Ptb) (s : State) : (s.onPtb f).gco = s.gco := rfl
@[simp] theorem State.onPtb_alu (f : Ptb → Ptb) (s : State) : (s.onPtb f).alu = s.alu := rfl
@[simp] theorem State.onPtb_sup (f : Ptb → Ptb) (s : State) : (s.onPtb f).sup = s.sup := rfl
@[simp] theorem State.onPtb_store (f : Ptb → Ptb) (s : State) : (s.onPtb f).store = s.store := rfl
@[simp] theorem State.onPtb_spoiled (f : Ptb → Ptb) (s : State) : (s.onPtb f).spoiled = s.spoiled := rfl
@[simp] theorem State.onPtb_pending (f : Ptb → Ptb) (s : State) : (s.onPtb f).pending = s.pending := rfl
@[simp] theorem State.onCbu_clock (f : Cbu → Cbu) (s : State) : (s.onCbu f).clock = s.clock := rfl
@[simp] theorem State.onCbu_settings (f : Cbu → Cbu) (s : State) : (s.onCbu f).settings = s.settings := rfl
@[simp] theorem State.onCbu_mch (f : Cbu → Cbu) (s : State) : (s.onCbu f).mch = s.mch := rfl
@[simp] theorem State.onCbu_sdo (f : Cbu → Cbu) (s : State) : (s.onCbu f).sdo = s.sdo := rfl
@[simp] theorem State.onCbu_sac (f : Cbu → Cbu) (s : State) : (s.onCbu f).sac = s.sac := rfl
@[simp] theorem State.onCbu_csc (f : Cbu → Cbu) (s : State) : (s.onCbu f).csc = s.csc := rfl
@[simp] theorem State.onCbu_pli (f : Cbu → Cbu) (s : State) : (s.onCbu f).pli = s.pli := rfl
@[simp] theorem State.onCbu_ptb (f : Cbu → Cbu) (s : State) : (s.onCbu f).ptb = s.ptb := rfl
@[simp] theorem State.onCbu_cbu (f : Cbu → Cbu) (s : State) : (s.onCbu f).cbu = f s.cbu := rfl
@[simp] theorem State.onCbu_rot (f : Cbu → Cbu) (s : State) : (s.onCbu f).rot = s.rot := rfl
@[simp] theorem State.onCbu_gco (f : Cbu → Cbu) (s : State) : (s.onCbu f).gco = s.gco := rfl
@[simp] theorem State.onCbu_alu (f : Cbu → Cbu) (s : State) : (s.onCbu f).alu = s.alu := rfl
@[simp] theorem State.onCbu_sup (f : Cbu → Cbu) (s : State) : (s.onCbu f).sup = s.sup := rfl
@[simp] theorem State.onCbu_store (f : Cbu → Cbu) (s : State) : (s.onCbu f).store = s.store := rfl
@[simp] theorem State.onCbu_spoiled (f : Cbu → Cbu) (s : State) : (s.onCbu f).spoiled = s.spoiled := rfl
@[simp] theorem State.onCbu_pending (f : Cbu → Cbu) (s : State) : (s.onCbu f).pending = s.pending := rfl
@[simp] theorem State.onRot_clock (f : Rot → Rot) (s : State) : (s.onRot f).clock = s.clock := rfl
@[simp] theorem State.onRot_settings (f : Rot → Rot) (s : State) : (s.onRot f).settings = s.settings := rfl
@[simp] theorem State.onRot_mch (f : Rot → Rot) (s : State) : (s.onRot f).mch = s.mch := rfl
@[simp] theorem State.onRot_sdo (f : Rot → Rot) (s : State) : (s.onRot f).sdo = s.sdo := rfl
@[simp] theorem State.onRot_sac (f : Rot → Rot) (s : State) : (s.onRot f).sac = s.sac := rfl
@[simp] theorem State.onRot_csc (f : Rot → Rot) (s : State) : (s.onRot f).csc = s.csc := rfl
@[simp] theorem State.onRot_pli (f : Rot → Rot) (s : State) : (s.onRot f).pli = s.pli := rfl
@[simp] theorem State.onRot_ptb (f : Rot → Rot) (s : State) : (s.onRot f).ptb = s.ptb := rfl
@[simp] theorem State.onRot_cbu (f : Rot → Rot) (s : State) : (s.onRot f).cbu = s.cbu := rfl
@[simp] theorem State.onRot_rot (f : Rot → Rot) (s : State) : (s.onRot f).rot = f s.rot := rfl
@[simp] theorem State.onRot_gco (f : Rot → Rot) (s : State) : (s.onRot f).gco = s.gco := rfl
@[simp] theorem State.onRot_alu (f : Rot → Rot) (s : State) : (s.onRot f).alu = s.alu := rfl
@[simp] theorem State.onRot_sup (f : Rot → Rot) (s : State) : (s.onRot f).sup = s.sup := rfl
@[simp] theorem State.onRot_store (f : Rot → Rot) (s : State) : (s.onRot f).store = s.store := rfl
@[simp] theorem State.onRot_spoiled (f : Rot → Rot) (s : State) : (s.onRot f).spoiled = s.spoiled := rfl
@[simp] theorem State.onRot_pending (f : Rot → Rot) (s : State) : (s.onRot f).pending = s.pending := rfl
@[simp] theorem State.onGco_clock (f : Gco → Gco) (s : State) : (s.onGco f).clock = s.clock := rfl
@[simp] theorem State.onGco_settings (f : Gco → Gco) (s : State) : (s.onGco f).settings = s.settings := rfl
@[simp] theorem State.onGco_mch (f : Gco → Gco) (s : State) : (s.onGco f).mch = s.mch := rfl
@[simp] theorem State.onGco_sdo (f : Gco → Gco) (s : State) : (s.onGco f).sdo = s.sdo := rfl
@[simp] theorem State.onGco_sac (f : Gco → Gco) (s : State) : (s.onGco f).sac = s.sac := rfl
@[simp] theorem State.onGco_csc (f : Gco → Gco) (s : State) : (s.onGco f).csc = s.csc := rfl
@[simp] theorem State.onGco_pli (f : Gco → Gco) (s : State) : (s.onGco f).pli = s.pli := rfl
@[simp] theorem State.onGco_ptb (f : Gco → Gco) (s : State) : (s.onGco f).ptb = s.ptb := rfl
@[simp] theorem State.onGco_cbu (f : Gco → Gco) (s : State) : (s.onGco f).cbu = s.cbu := rfl
@[simp] theorem State.onGco_rot (f : Gco → Gco) (s : State) : (s.onGco f).rot = s.rot := rfl
@[simp] theorem State.onGco_gco (f : Gco → Gco) (s : State) : (s.onGco f).gco = f s.gco := rfl
@[simp] theorem State.onGco_alu (f : Gco → Gco) (s : State) : (s.onGco f).alu = s.alu := rfl
@[simp] theorem State.onGco_sup (f : Gco → Gco) (s : State) : (s.onGco f).sup = s.sup := rfl
@[simp] theorem State.onGco_store (f : Gco → Gco) (s : State) : (s.onGco f).store = s.store := rfl
@[simp] theorem State.onGco_spoiled (f : Gco → Gco) (s : State) : (s.onGco f).spoiled = s.spoiled := rfl
@[simp] theorem State.onGco_pending (f : Gco → Gco) (s : State) : (s.onGco f).pending = s.pending := rfl
@[simp] theorem State.onAlu_clock (f : Alu → Alu) (s : State) : (s.onAlu f).clock = s.clock := rfl
@[simp] theorem State.onAlu_settings (f : Alu → Alu) (s : State) : (s.onAlu f).settings = s.settings := rfl
@[simp] theorem State.onAlu_mch (f : Alu → Alu) (s : State) : (s.onAlu f).mch = s.mch := rfl
@[simp] theorem State.onAlu_sdo (f : Alu → Alu) (s : State) : (s.onAlu f).sdo = s.sdo := rfl
@[simp] theorem State.onAlu_sac (f : Alu → Alu) (s : State) : (s.onAlu f).sac = s.sac := rfl
@[simp] theorem State.onAlu_csc (f : Alu → Alu) (s : State) : (s.onAlu f).csc = s.csc := rfl
@[simp] theorem State.onAlu_pli (f : Alu → Alu) (s : State) : (s.onAlu f).pli = s.pli := rfl
@[simp] theorem State.onAlu_ptb (f : Alu → Alu) (s : State) : (s.onAlu f).ptb = s.ptb := rfl
@[simp] theorem State.onAlu_cbu (f : Alu → Alu) (s : State) : (s.onAlu f).cbu = s.cbu := rfl
@[simp] theorem State.onAlu_rot (f : Alu → Alu) (s : State) : (s.onAlu f).rot = s.rot := rfl
@[simp] theorem State.onAlu_gco (f : Alu → Alu) (s : State) : (s.onAlu f).gco = s.gco := rfl
@[simp] theorem State.onAlu_alu (f : Alu → Alu) (s : State) : (s.onAlu f).alu = f s.alu := rfl
@[simp] theorem State.onAlu_sup (f : Alu → Alu) (s : State) : (s.onAlu f).sup = s.sup := rfl
@[simp] theorem State.onAlu_store (f : Alu → Alu) (s : State) : (s.onAlu f).store = s.store := rfl
@[simp] theorem State.onAlu_spoiled (f : Alu → Alu) (s : State) : (s.onAlu f).spoiled = s.spoiled := rfl
@[simp] theorem State.onAlu_pending (f : Alu → Alu) (s : State) : (s.onAlu f).pending = s.pending := rfl
@[simp] theorem State.onSup_clock (f : Sup → Sup) (s : State) : (s.onSup f).clock = s.clock := rfl
@[simp] theorem State.onSup_settings (f : Sup → Sup) (s : State) : (s.onSup f).settings = s.settings := rfl
@[simp] theorem State.onSup_mch (f : Sup → Sup) (s : State) : (s.onSup f).mch = s.mch := rfl
@[simp] theorem State.onSup_sdo (f : Sup → Sup) (s : State) : (s.onSup f).sdo = s.sdo := rfl
@[simp] theorem State.onSup_sac (f : Sup → Sup) (s : State) : (s.onSup f).sac = s.sac := rfl
@[simp] theorem State.onSup_csc (f : Sup → Sup) (s : State) : (s.onSup f).csc = s.csc := rfl
@[simp] theorem State.onSup_pli (f : Sup → Sup) (s : State) : (s.onSup f).pli = s.pli := rfl
@[simp] theorem State.onSup_ptb (f : Sup → Sup) (s : State) : (s.onSup f).ptb = s.ptb := rfl
@[simp] theorem State.onSup_cbu (f : Sup → Sup) (s : State) : (s.onSup f).cbu = s.cbu := rfl
@[simp] theorem State.onSup_rot (f : Sup → Sup) (s : State) : (s.onSup f).rot = s.rot := rfl
@[simp] theorem State.onSup_gco (f : Sup → Sup) (s : State) : (s.onSup f).gco = s.gco := rfl
@[simp] theorem State.onSup_alu (f : Sup → Sup) (s : State) : (s.onSup f).alu = s.alu := rfl
@[simp] theorem State.onSup_sup (f : Sup → Sup) (s : State) : (s.onSup f).sup = f s.sup := rfl
@[simp] theorem State.onSup_store (f : Sup → Sup) (s : State) : (s.onSup f).store = s.store := rfl
@[simp] theorem State.onSup_spoiled (f : Sup → Sup) (s : State) : (s.onSup f).spoiled = s.spoiled := rfl
@[simp] theorem State.onSup_pending (f : Sup → Sup) (s : State) : (s.onSup f).pending = s.pending := rfl
@[simp] theorem State.onStore_clock (f : List Host.Cell → List Host.Cell) (s : State) : (s.onStore f).clock = s.clock := rfl
@[simp] theorem State.onStore_settings (f : List Host.Cell → List Host.Cell) (s : State) : (s.onStore f).settings = s.settings := rfl
@[simp] theorem State.onStore_mch (f : List Host.Cell → List Host.Cell) (s : State) : (s.onStore f).mch = s.mch := rfl
@[simp] theorem State.onStore_sdo (f : List Host.Cell → List Host.Cell) (s : State) : (s.onStore f).sdo = s.sdo := rfl
@[simp] theorem State.onStore_sac (f : List Host.Cell → List Host.Cell) (s : State) : (s.onStore f).sac = s.sac := rfl
@[simp] theorem State.onStore_csc (f : List Host.Cell → List Host.Cell) (s : State) : (s.onStore f).csc = s.csc := rfl
@[simp] theorem State.onStore_pli (f : List Host.Cell → List Host.Cell) (s : State) : (s.onStore f).pli = s.pli := rfl
@[simp] theorem State.onStore_ptb (f : List Host.Cell → List Host.Cell) (s : State) : (s.onStore f).ptb = s.ptb := rfl
@[simp] theorem State.onStore_cbu (f : List Host.Cell → List Host.Cell) (s : State) : (s.onStore f).cbu = s.cbu := rfl
@[simp] theorem State.onStore_rot (f : List Host.Cell → List Host.Cell) (s : State) : (s.onStore f).rot = s.rot := rfl
@[simp] theorem State.onStore_gco (f : List Host.Cell → List Host.Cell) (s : State) : (s.onStore f).gco = s.gco := rfl
@[simp] theorem State.onStore_alu (f : List Host.Cell → List Host.Cell) (s : State) : (s.onStore f).alu = s.alu := rfl
@[simp] theorem State.onStore_sup (f : List Host.Cell → List Host.Cell) (s : State) : (s.onStore f).sup = s.sup := rfl
@[simp] theorem State.onStore_store (f : List Host.Cell → List Host.Cell) (s : State) : (s.onStore f).store = f s.store := rfl
@[simp] theorem State.onStore_spoiled (f : List Host.Cell → List Host.Cell) (s : State) : (s.onStore f).spoiled = s.spoiled := rfl
@[simp] theorem State.onStore_pending (f : List Host.Cell → List Host.Cell) (s : State) : (s.onStore f).pending = s.pending := rfl
@[simp] theorem State.onSpoiled_clock (f : Nat → Nat) (s : State) : (s.onSpoiled f).clock = s.clock := rfl
@[simp] theorem State.onSpoiled_settings (f : Nat → Nat) (s : State) : (s.onSpoiled f).settings = s.settings := rfl
@[simp] theorem State.onSpoiled_mch (f : Nat → Nat) (s : State) : (s.onSpoiled f).mch = s.mch := rfl
@[simp] theorem State.onSpoiled_sdo (f : Nat → Nat) (s : State) : (s.onSpoiled f).sdo = s.sdo := rfl
@[simp] theorem State.onSpoiled_sac (f : Nat → Nat) (s : State) : (s.onSpoiled f).sac = s.sac := rfl
@[simp] theorem State.onSpoiled_csc (f : Nat → Nat) (s : State) : (s.onSpoiled f).csc = s.csc := rfl
@[simp] theorem State.onSpoiled_pli (f : Nat → Nat) (s : State) : (s.onSpoiled f).pli = s.pli := rfl
@[simp] theorem State.onSpoiled_ptb (f : Nat → Nat) (s : State) : (s.onSpoiled f).ptb = s.ptb := rfl
@[simp] theorem State.onSpoiled_cbu (f : Nat → Nat) (s : State) : (s.onSpoiled f).cbu = s.cbu := rfl
@[simp] theorem State.onSpoiled_rot (f : Nat → Nat) (s : State) : (s.onSpoiled f).rot = s.rot := rfl
@[simp] theorem State.onSpoiled_gco (f : Nat → Nat) (s : State) : (s.onSpoiled f).gco = s.gco := rfl
@[simp] theorem State.onSpoiled_alu (f : Nat → Nat) (s : State) : (s.onSpoiled f).alu = s.alu := rfl
@[simp] theorem State.onSpoiled_sup (f : Nat → Nat) (s : State) : (s.onSpoiled f).sup = s.sup := rfl
@[simp] theorem State.onSpoiled_store (f : Nat → Nat) (s : State) : (s.onSpoiled f).store = s.store := rfl
@[simp] theorem State.onSpoiled_spoiled (f : Nat → Nat) (s : State) : (s.onSpoiled f).spoiled = f s.spoiled := rfl
@[simp] theorem State.onSpoiled_pending (f : Nat → Nat) (s : State) : (s.onSpoiled f).pending = s.pending := rfl
@[simp] theorem State.onPending_clock (f : List Sys2Proof.Instr → List Sys2Proof.Instr) (s : State) : (s.onPending f).clock = s.clock := rfl
@[simp] theorem State.onPending_settings (f : List Sys2Proof.Instr → List Sys2Proof.Instr) (s : State) : (s.onPending f).settings = s.settings := rfl
@[simp] theorem State.onPending_mch (f : List Sys2Proof.Instr → List Sys2Proof.Instr) (s : State) : (s.onPending f).mch = s.mch := rfl
@[simp] theorem State.onPending_sdo (f : List Sys2Proof.Instr → List Sys2Proof.Instr) (s : State) : (s.onPending f).sdo = s.sdo := rfl
@[simp] theorem State.onPending_sac (f : List Sys2Proof.Instr → List Sys2Proof.Instr) (s : State) : (s.onPending f).sac = s.sac := rfl
@[simp] theorem State.onPending_csc (f : List Sys2Proof.Instr → List Sys2Proof.Instr) (s : State) : (s.onPending f).csc = s.csc := rfl
@[simp] theorem State.onPending_pli (f : List Sys2Proof.Instr → List Sys2Proof.Instr) (s : State) : (s.onPending f).pli = s.pli := rfl
@[simp] theorem State.onPending_ptb (f : List Sys2Proof.Instr → List Sys2Proof.Instr) (s : State) : (s.onPending f).ptb = s.ptb := rfl
@[simp] theorem State.onPending_cbu (f : List Sys2Proof.Instr → List Sys2Proof.Instr) (s : State) : (s.onPending f).cbu = s.cbu := rfl
@[simp] theorem State.onPending_rot (f : List Sys2Proof.Instr → List Sys2Proof.Instr) (s : State) : (s.onPending f).rot = s.rot := rfl
@[simp] theorem State.onPending_gco (f : List Sys2Proof.Instr → List Sys2Proof.Instr) (s : State) : (s.onPending f).gco = s.gco := rfl
@[simp] theorem State.onPending_alu (f : List Sys2Proof.Instr → List Sys2Proof.Instr) (s : State) : (s.onPending f).alu = s.alu := rfl
@[simp] theorem State.onPending_sup (f : List Sys2Proof.Instr → List Sys2Proof.Instr) (s : State) : (s.onPending f).sup = s.sup := rfl
@[simp] theorem State.onPending_store (f : List Sys2Proof.Instr → List Sys2Proof.Instr) (s : State) : (s.onPending f).store = s.store := rfl
@[simp] theorem State.onPending_spoiled (f : List Sys2Proof.Instr → List Sys2Proof.Instr) (s : State) : (s.onPending f).spoiled = s.spoiled := rfl
@[simp] theorem State.onPending_pending (f : List Sys2Proof.Instr → List Sys2Proof.Instr) (s : State) : (s.onPending f).pending = f s.pending := rfl

end Sys2Proof.Machine
end

