-- ==== Sys2Proof/Laws/Keeps.lean ====
section
/-! SUPPORT. What each shared operation can change: one lemma for each, saying which parts of the state may differ after
it at most. `h.rot`, `h.gco`, … of such a fact give the parts that stay. -/

set_option maxRecDepth 4000

namespace Sys2Proof.Machine

variable {s t u : State} {l m : List Part}

/-! ## The relation -/

theorem State.AgreeOn.rfl (p : Part) : s.AgreeOn s p := by cases p <;> exact Eq.refl _

theorem State.AgreeOn.trans {p : Part} (h : s.AgreeOn t p) (g : t.AgreeOn u p) : s.AgreeOn u p := by
  cases p <;> exact Eq.trans h g

theorem State.ChangedOnly.refl (s : State) (l : List Part) : s.ChangedOnly l s := fun p _ => .rfl p

theorem State.ChangedOnly.trans (h : s.ChangedOnly l t) (g : t.ChangedOnly l u) : s.ChangedOnly l u :=
  fun p hp => (h p hp).trans (g p hp)

/-- A longer list allows more. -/
theorem State.ChangedOnly.mono (h : s.ChangedOnly l t) (hl : l.all (fun p => decide (p ∈ m)) = true) :
    s.ChangedOnly m t :=
  fun p hp => h p fun hm => hp (by simpa using List.all_eq_true.mp hl p hm)

theorem State.ChangedOnly.ite {c : Prop} [Decidable c] (h : s.ChangedOnly l t) (g : s.ChangedOnly l u) :
    s.ChangedOnly l (if c then t else u) := by split <;> assumption

/-- A hand-off changes what its takers can change. -/
theorem fan_changedOnly (order takers : List Taker) {f : Taker → State → State}
    (h : ∀ (x : Taker) (s : State), s.ChangedOnly l (f x s)) (s : State) : s.ChangedOnly l (fan order takers f s) := by
  unfold fan
  generalize arrange order takers = ts
  induction ts generalizing s with
  | nil => exact .refl s l
  | cons x ts ih => exact (h x s).trans (ih (f x s))

/-- Steps one after another change what each can change. -/
theorem foldl_changedOnly {α : Type} {f : State → α → State} (h : ∀ (s : State) (x : α), s.ChangedOnly l (f s x)) (xs : List α)
    (s : State) : s.ChangedOnly l (xs.foldl f s) := by
  induction xs generalizing s with
  | nil => exact .refl s l
  | cons x xs ih => exact (h s x).trans (ih (f s x))

/-! ## The parts that stay -/

theorem State.ChangedOnly.clock (h : s.ChangedOnly l t) (hn : Part.clock ∉ l := by decide) : t.clock = s.clock := (h .clock hn).symm
theorem State.ChangedOnly.settings (h : s.ChangedOnly l t) (hn : Part.settings ∉ l := by decide) : t.settings = s.settings := (h .settings hn).symm
theorem State.ChangedOnly.mch (h : s.ChangedOnly l t) (hn : Part.mch ∉ l := by decide) : t.mch = s.mch := (h .mch hn).symm
theorem State.ChangedOnly.sdo (h : s.ChangedOnly l t) (hn : Part.sdo ∉ l := by decide) : t.sdo = s.sdo := (h .sdo hn).symm
theorem State.ChangedOnly.sac (h : s.ChangedOnly l t) (hn : Part.sac ∉ l := by decide) : t.sac = s.sac := (h .sac hn).symm
theorem State.ChangedOnly.csc (h : s.ChangedOnly l t) (hn : Part.csc ∉ l := by decide) : t.csc = s.csc := (h .csc hn).symm
theorem State.ChangedOnly.pli (h : s.ChangedOnly l t) (hn : Part.pli ∉ l := by decide) : t.pli = s.pli := (h .pli hn).symm
theorem State.ChangedOnly.ptb (h : s.ChangedOnly l t) (hn : Part.ptb ∉ l := by decide) : t.ptb = s.ptb := (h .ptb hn).symm
theorem State.ChangedOnly.cbu (h : s.ChangedOnly l t) (hn : Part.cbu ∉ l := by decide) : t.cbu = s.cbu := (h .cbu hn).symm
theorem State.ChangedOnly.rot (h : s.ChangedOnly l t) (hn : Part.rot ∉ l := by decide) : t.rot = s.rot := (h .rot hn).symm
theorem State.ChangedOnly.gco (h : s.ChangedOnly l t) (hn : Part.gco ∉ l := by decide) : t.gco = s.gco := (h .gco hn).symm
theorem State.ChangedOnly.alu (h : s.ChangedOnly l t) (hn : Part.alu ∉ l := by decide) : t.alu = s.alu := (h .alu hn).symm
theorem State.ChangedOnly.sup (h : s.ChangedOnly l t) (hn : Part.sup ∉ l := by decide) : t.sup = s.sup := (h .sup hn).symm
theorem State.ChangedOnly.store (h : s.ChangedOnly l t) (hn : Part.store ∉ l := by decide) : t.store = s.store := (h .store hn).symm
theorem State.ChangedOnly.spoiled (h : s.ChangedOnly l t) (hn : Part.spoiled ∉ l := by decide) : t.spoiled = s.spoiled := (h .spoiled hn).symm
theorem State.ChangedOnly.pending (h : s.ChangedOnly l t) (hn : Part.pending ∉ l := by decide) : t.pending = s.pending := (h .pending hn).symm

/-! ## One part changed -/

theorem onClock_changedOnly (f : Nat → Nat) (s : State) : s.ChangedOnly [.clock] (s.onClock f) := by
  intro p hp; cases p <;> first | exact Eq.refl _ | simp at hp
theorem onSettings_changedOnly (f : Settings → Settings) (s : State) : s.ChangedOnly [.settings] (s.onSettings f) := by
  intro p hp; cases p <;> first | exact Eq.refl _ | simp at hp
theorem onMch_changedOnly (f : Mch → Mch) (s : State) : s.ChangedOnly [.mch] (s.onMch f) := by
  intro p hp; cases p <;> first | exact Eq.refl _ | simp at hp
theorem onSdo_changedOnly (f : Sdo → Sdo) (s : State) : s.ChangedOnly [.sdo] (s.onSdo f) := by
  intro p hp; cases p <;> first | exact Eq.refl _ | simp at hp
theorem onSac_changedOnly (f : Sac → Sac) (s : State) : s.ChangedOnly [.sac] (s.onSac f) := by
  intro p hp; cases p <;> first | exact Eq.refl _ | simp at hp
theorem onCsc_changedOnly (f : Csc → Csc) (s : State) : s.ChangedOnly [.csc] (s.onCsc f) := by
  intro p hp; cases p <;> first | exact Eq.refl _ | simp at hp
theorem onPli_changedOnly (f : Pli → Pli) (s : State) : s.ChangedOnly [.pli] (s.onPli f) := by
  intro p hp; cases p <;> first | exact Eq.refl _ | simp at hp
theorem onPtb_changedOnly (f : Ptb → Ptb) (s : State) : s.ChangedOnly [.ptb] (s.onPtb f) := by
  intro p hp; cases p <;> first | exact Eq.refl _ | simp at hp
theorem onCbu_changedOnly (f : Cbu → Cbu) (s : State) : s.ChangedOnly [.cbu] (s.onCbu f) := by
  intro p hp; cases p <;> first | exact Eq.refl _ | simp at hp
theorem onRot_changedOnly (f : Rot → Rot) (s : State) : s.ChangedOnly [.rot] (s.onRot f) := by
  intro p hp; cases p <;> first | exact Eq.refl _ | simp at hp
theorem onGco_changedOnly (f : Gco → Gco) (s : State) : s.ChangedOnly [.gco] (s.onGco f) := by
  intro p hp; cases p <;> first | exact Eq.refl _ | simp at hp
theorem onAlu_changedOnly (f : Alu → Alu) (s : State) : s.ChangedOnly [.alu] (s.onAlu f) := by
  intro p hp; cases p <;> first | exact Eq.refl _ | simp at hp
theorem onSup_changedOnly (f : Sup → Sup) (s : State) : s.ChangedOnly [.sup] (s.onSup f) := by
  intro p hp; cases p <;> first | exact Eq.refl _ | simp at hp
theorem onStore_changedOnly (f : List Host.Cell → List Host.Cell) (s : State) : s.ChangedOnly [.store] (s.onStore f) := by
  intro p hp; cases p <;> first | exact Eq.refl _ | simp at hp
theorem onSpoiled_changedOnly (f : Nat → Nat) (s : State) : s.ChangedOnly [.spoiled] (s.onSpoiled f) := by
  intro p hp; cases p <;> first | exact Eq.refl _ | simp at hp
theorem onPending_changedOnly (f : List Sys2Proof.Instr → List Sys2Proof.Instr) (s : State) : s.ChangedOnly [.pending] (s.onPending f) := by
  intro p hp; cases p <;> first | exact Eq.refl _ | simp at hp

/-! ## The shared operations -/

theorem logEntry_changedOnly (k : LogKind) (o v : Nat) (s : State) : s.ChangedOnly [.alu] (logEntry k o v s) := by
  exact onAlu_changedOnly _ s

theorem advance_changedOnly (e : Nat) (s : State) : s.ChangedOnly [.clock, .alu] (advance e s) := by
  unfold advance; dsimp only; split
  · exact ((onClock_changedOnly _ s).mono rfl).trans ((onAlu_changedOnly _ _).mono rfl)
  · exact (onClock_changedOnly _ s).mono rfl

theorem writeTarget_changedOnly (d : Dac) (v : Nat) (s : State) : s.ChangedOnly [.sdo] (writeTarget d v s) := by
  exact onSdo_changedOnly _ s

theorem writeRelay_changedOnly (r : Relay) (v : Bool) (s : State) : s.ChangedOnly [.sdo] (writeRelay r v s) := by
  exact onSdo_changedOnly _ s

theorem enqueue_changedOnly (k : NoteKind) (p : List Byte) (s : State) : s.ChangedOnly [.pli] (enqueue k p s) := by
  unfold enqueue; split
  · exact onPli_changedOnly _ s
  · exact .refl s _

theorem enqueueStatus_changedOnly (s : State) : s.ChangedOnly [.pli] (enqueueStatus s) := by
  unfold enqueueStatus; split
  · exact (enqueue_changedOnly _ _ s).trans (onPli_changedOnly _ _)
  · exact .refl s _

theorem requestStatus_changedOnly (s : State) : s.ChangedOnly [.pli] (requestStatus s) := by
  unfold requestStatus; split
  · split
    · split
      · exact onPli_changedOnly _ s
      · exact enqueueStatus_changedOnly s
    · exact enqueueStatus_changedOnly s
  · exact .refl s _

theorem enqueuePoint_changedOnly (s : State) : s.ChangedOnly [.pli, .alu] (enqueuePoint s) := by
  unfold enqueuePoint; split
  · exact ((enqueue_changedOnly _ _ s).mono rfl).trans ((onAlu_changedOnly _ _).mono rfl)
  · exact .refl s _

theorem recomputeRelays_changedOnly (s : State) : s.ChangedOnly [.alu, .sdo] (recomputeRelays s) := by
  unfold recomputeRelays; dsimp only
  have h0 : s.ChangedOnly [.alu, .sdo] (s.onAlu fun a => { a with demands := s.aluDemandsNow }) := (onAlu_changedOnly _ s).mono rfl
  have step : ∀ (c : Prop) [Decidable c] (r : Relay) (v : Bool) (x : State), s.ChangedOnly [.alu, .sdo] x →
      s.ChangedOnly [.alu, .sdo] (if c then x else writeRelay r v x) := fun c _ r v x h =>
    h.ite (h.trans ((writeRelay_changedOnly r v x).mono rfl))
  exact step _ _ _ _ (step _ _ _ _ (step _ _ _ _ (step _ _ _ _ h0)))

theorem logSubChanges_changedOnly (l : List (Subscription × Bool × Bool)) (s : State) : s.ChangedOnly [.alu] (logSubChanges l s) := by
  induction l generalizing s with
  | nil => exact .refl s _
  | cons x l ih =>
    obtain ⟨sub, old, new⟩ := x
    unfold logSubChanges
    exact (State.ChangedOnly.ite (logEntry_changedOnly _ _ _ s) (.refl s _)).trans (ih _)

theorem recomputeSubs_changedOnly (b : Bool) (s : State) : s.ChangedOnly [.alu, .sdo] (recomputeSubs b s) := by
  unfold recomputeSubs; dsimp only
  exact (((onAlu_changedOnly _ s).trans (logSubChanges_changedOnly _ _)).mono rfl).trans (recomputeRelays_changedOnly _)

theorem handPoint_changedOnly (order : List Taker) (id : Nat) (p : Point) (s : State) : s.ChangedOnly [.alu, .sdo, .pli] (handPoint order id p s) := by
  unfold handPoint; dsimp only
  refine ((onAlu_changedOnly _ s).mono rfl).trans (fan_changedOnly _ _ (fun x s => ?_) _)
  cases x <;> dsimp only <;> first
    | exact .refl s _
    | exact State.ChangedOnly.ite ((recomputeRelays_changedOnly s).mono rfl) (.refl s _)
    | exact State.ChangedOnly.ite (((recomputeSubs_changedOnly _ s).mono rfl).trans ((enqueuePoint_changedOnly _).mono rfl)) (.refl s _)
    | exact State.ChangedOnly.ite ((logEntry_changedOnly _ _ _ s).mono rfl) (.refl s _)

theorem takeCondition_changedOnly (order : List Taker) (id : Nat) (s : State) : s.ChangedOnly [.alu, .sdo, .pli] (takeCondition order id s) := by
  unfold takeCondition; dsimp only
  exact State.ChangedOnly.ite (handPoint_changedOnly _ _ _ s) (.refl s _)

theorem takeConditions_changedOnly (order : List Taker) (ids : List Nat) (s : State) : s.ChangedOnly [.alu, .sdo, .pli] (takeConditions order ids s) := by
  exact foldl_changedOnly (fun s id => takeCondition_changedOnly order id s) ids s

theorem beginWrite_changedOnly (s : State) : s.ChangedOnly [.sup] (beginWrite s) := by
  exact onSup_changedOnly _ s

theorem triggerWrite_changedOnly (s : State) : s.ChangedOnly [.sup] (triggerWrite s) := by
  unfold triggerWrite
  exact State.ChangedOnly.ite (onSup_changedOnly _ s) (beginWrite_changedOnly s)

theorem beginPendingWrite_changedOnly (s : State) : s.ChangedOnly [.sup] (beginPendingWrite s) := by
  unfold beginPendingWrite
  exact State.ChangedOnly.ite ((beginWrite_changedOnly s).trans (onSup_changedOnly _ _)) (.refl s _)

/-! ## The supervisor's dwells and modes, the budget and the accountant -/

theorem updateLeanDwell_changedOnly (s : State) : s.ChangedOnly [.sup] (updateLeanDwell s) := by
  exact onSup_changedOnly _ s

theorem updateDormantDwell_changedOnly (s : State) : s.ChangedOnly [.sup] (updateDormantDwell s) := by
  exact onSup_changedOnly _ s

theorem abandonEntryWait_changedOnly (s : State) : s.ChangedOnly [.sup] (abandonEntryWait s) := by
  unfold abandonEntryWait
  exact State.ChangedOnly.ite ((onSup_changedOnly _ s).trans (updateDormantDwell_changedOnly _)) (.refl s _)

theorem changeMode_changedOnly (order : List Taker) (m : Mode) (s : State) : s.ChangedOnly [.sup, .alu, .pli, .sdo] (changeMode order m s) := by
  unfold changeMode; dsimp only
  refine State.ChangedOnly.ite (.refl s _) (((onSup_changedOnly _ s).mono rfl).trans (fan_changedOnly _ _ (fun x s => ?_) _))
  cases x <;> dsimp only <;> first
    | exact .refl s _
    | exact (logEntry_changedOnly _ _ _ s).mono rfl
    | exact (requestStatus_changedOnly s).mono rfl
    | exact (recomputeRelays_changedOnly s).mono rfl

theorem leaveLean_changedOnly (order : List Taker) (s : State) : s.ChangedOnly [.sup, .alu, .pli, .sdo] (leaveLean order s) := by
  unfold leaveLean
  exact State.ChangedOnly.ite (changeMode_changedOnly _ _ s) (.refl s _)

theorem supOnView_changedOnly (order : List Taker) (s : State) : s.ChangedOnly [.sup, .alu, .pli, .sdo] (supOnView order s) := by
  unfold supOnView; dsimp only
  refine State.ChangedOnly.trans (State.ChangedOnly.ite (.refl s _) ?_)
    (((updateLeanDwell_changedOnly _).trans (updateDormantDwell_changedOnly _)).mono rfl)
  exact (((onSup_changedOnly _ s).trans (abandonEntryWait_changedOnly _)).mono rfl).trans (leaveLean_changedOnly order _)

theorem supOnStage_changedOnly (s : State) : s.ChangedOnly [.sup] (supOnStage s) := by
  unfold supOnStage
  exact (State.ChangedOnly.ite (.refl s _) ((onSup_changedOnly _ s).trans (abandonEntryWait_changedOnly _))).trans
    (updateDormantDwell_changedOnly _)

theorem applyLimit_changedOnly (a : Nat) (s : State) : s.ChangedOnly [.cbu, .sdo] (applyLimit a s) := by
  unfold applyLimit; dsimp only
  have h : s.ChangedOnly [.cbu, .sdo] (s.onCbu fun x => { x with applied := a }) := (onCbu_changedOnly _ s).mono rfl
  exact h.ite (h.trans ((writeTarget_changedOnly _ _ _).mono rfl))

theorem cbuOnEvent_changedOnly (s : State) : s.ChangedOnly [.cbu, .sdo] (cbuOnEvent s) := by
  unfold cbuOnEvent; dsimp only
  exact State.ChangedOnly.ite (((onCbu_changedOnly _ s).mono rfl).trans (applyLimit_changedOnly _ _)) (.refl s _)

theorem cbuOnSet_changedOnly (p n : Nat) (s : State) : s.ChangedOnly [.cbu, .sdo] (cbuOnSet p n s) := by
  unfold cbuOnSet; dsimp only
  have h : s.ChangedOnly [.cbu, .sdo] (s.onCbu fun x => { x with computed := some s.budgetNow, lastSet := some n }) :=
    (onCbu_changedOnly _ s).mono rfl
  exact State.ChangedOnly.ite (h.ite (h.trans (applyLimit_changedOnly _ _))) (.refl s _)

theorem cbuOnOperating_changedOnly (s : State) : s.ChangedOnly [.cbu, .sdo] (cbuOnOperating s) := by
  unfold cbuOnOperating; dsimp only
  exact State.ChangedOnly.ite (((onCbu_changedOnly _ s).mono rfl).trans ((writeTarget_changedOnly _ _ _).mono rfl))
    (((onCbu_changedOnly _ s).mono rfl).trans ((writeTarget_changedOnly _ _ _).mono rfl))

theorem sacOnSet_changedOnly (order : List Taker) (p : Nat) (s : State) : s.ChangedOnly [.sac, .alu, .sdo, .pli] (sacOnSet order p s) := by
  exact ((onSac_changedOnly _ s).mono rfl).trans ((takeCondition_changedOnly _ _ _).mono rfl)

theorem sacFullResync_changedOnly (order : List Taker) (s : State) : s.ChangedOnly [.sac, .alu, .sdo, .pli] (sacFullResync order s) := by
  exact ((onSac_changedOnly _ s).mono rfl).trans ((takeCondition_changedOnly _ _ _).mono rfl)

theorem sacOnAbsorbEnd_changedOnly (order : List Taker) (s : State) : s.ChangedOnly [.sac, .alu, .sdo, .pli] (sacOnAbsorbEnd order s) := by
  unfold sacOnAbsorbEnd; split
  · exact State.ChangedOnly.ite (sacFullResync_changedOnly order s) (.refl s _)
  · exact .refl s _

/-! ## The contactor and the charge stages -/

theorem beginAttempt_changedOnly (d : Direction) (n : Nat) (s : State) : s.ChangedOnly [.sdo] (beginAttempt d n s) := by
  exact onSdo_changedOnly _ s

theorem contactorCommand_changedOnly (d : Direction) (s : State) : s.ChangedOnly [.sdo] (contactorCommand d s) := by
  unfold contactorCommand; split
  · exact onSdo_changedOnly _ s
  · split
    · exact onSdo_changedOnly _ s
    · exact State.ChangedOnly.ite (.refl s _) (beginAttempt_changedOnly _ _ s)

theorem takeWaitingCommand_changedOnly (s : State) : s.ChangedOnly [.sdo] (takeWaitingCommand s) := by
  unfold takeWaitingCommand; split
  · exact (onSdo_changedOnly _ s).trans (contactorCommand_changedOnly _ _)
  · exact .refl s _

theorem cscOnReport_changedOnly (d : Direction) (b : Bool) (s : State) : s.ChangedOnly [.csc] (cscOnReport d b s) := by
  unfold cscOnReport
  exact State.ChangedOnly.ite (onCsc_changedOnly _ s) (.refl s _)

theorem endOperation_changedOnly (order : List Taker) (op : ContactorOp) (b : Bool) (s : State) : s.ChangedOnly [.sdo, .csc, .alu, .pli] (endOperation order op b s) := by
  unfold endOperation; dsimp only
  refine (((onSdo_changedOnly _ s).mono rfl).trans (fan_changedOnly _ _ (fun x s => ?_) _)).trans
    ((takeWaitingCommand_changedOnly _).mono rfl)
  cases x <;> dsimp only <;> first
    | exact .refl s _
    | exact (cscOnReport_changedOnly _ _ s).mono rfl
    | exact (logEntry_changedOnly _ _ _ s).mono rfl
    | exact (takeCondition_changedOnly _ _ s).mono rfl

theorem sdoOnCtrFb_changedOnly (order : List Taker) (s : State) : s.ChangedOnly [.sdo, .csc, .alu, .pli] (sdoOnCtrFb order s) := by
  unfold sdoOnCtrFb; split
  · exact State.ChangedOnly.ite (endOperation_changedOnly _ _ _ s) (.refl s _)
  · dsimp only
    exact (State.ChangedOnly.ite (((onSdo_changedOnly _ s).mono rfl).trans ((takeCondition_changedOnly _ _ _).mono rfl))
      (.refl s _)).trans ((takeWaitingCommand_changedOnly _).mono rfl)

theorem sdoOnWindow_changedOnly (order : List Taker) (op : ContactorOp) (s : State) : s.ChangedOnly [.sdo, .csc, .alu, .pli] (sdoOnWindow order op s) := by
  unfold sdoOnWindow
  exact State.ChangedOnly.ite ((beginAttempt_changedOnly _ _ s).mono rfl) (endOperation_changedOnly _ _ _ s)

theorem cscHand_changedOnly (order : List Taker) (old : Csc) (d : Option Direction) (s : State) : s.ChangedOnly [.sdo, .alu, .pli, .sac, .cbu, .sup] (cscHand order old d s) := by
  unfold cscHand; dsimp only
  refine fan_changedOnly _ _ (fun x s => ?_) s
  cases x <;> dsimp only <;> first
    | exact .refl s _
    | exact State.ChangedOnly.ite ((sacOnAbsorbEnd_changedOnly _ s).mono rfl) (.refl s _)
    | exact State.ChangedOnly.ite ((cbuOnEvent_changedOnly s).mono rfl) (.refl s _)
    | exact State.ChangedOnly.ite ((requestStatus_changedOnly s).mono rfl) (.refl s _)
    | exact State.ChangedOnly.ite ((supOnStage_changedOnly s).mono rfl) (.refl s _)
    | exact (takeConditions_changedOnly _ _ s).mono rfl
    | skip
  · split
    · exact (((contactorCommand_changedOnly _ s).trans (writeTarget_changedOnly _ _ _))).mono rfl
    · exact (writeTarget_changedOnly _ _ s).mono rfl
  · split
    · exact (State.ChangedOnly.ite ((logEntry_changedOnly _ _ _ s).mono rfl) (.refl s _)).trans ((logEntry_changedOnly _ _ _ _).mono rfl)
    · exact State.ChangedOnly.ite ((logEntry_changedOnly _ _ _ s).mono rfl) (.refl s _)

theorem cscOnSet_changedOnly (order : List Taker) (p : Nat) (s : State) : s.ChangedOnly [.csc, .sdo, .alu, .pli, .sac, .cbu, .sup] (cscOnSet order p s) := by
  exact ((onCsc_changedOnly _ s).mono rfl).trans ((cscHand_changedOnly _ _ _ _).mono rfl)

theorem stageEvent_changedOnly (order : List Taker) (new : Csc) (d : Option Direction) (s : State) : s.ChangedOnly [.csc, .sdo, .alu, .pli, .sac, .cbu, .sup] (stageEvent order new d s) := by
  unfold stageEvent
  exact State.ChangedOnly.ite ((onCsc_changedOnly _ s).mono rfl)
    (((onCsc_changedOnly _ s).mono rfl).trans ((cscHand_changedOnly _ _ _ _).mono rfl))

theorem cscOnView_changedOnly (order : List Taker) (old : SourceView) (s : State) : s.ChangedOnly [.csc, .sdo, .alu, .pli, .sac, .cbu, .sup] (cscOnView order old s) := by
  unfold cscOnView; dsimp only
  exact State.ChangedOnly.ite (stageEvent_changedOnly _ _ _ s) (.refl s _)

theorem cscOnCtrFb_changedOnly (order : List Taker) (p : Direction) (s : State) : s.ChangedOnly [.csc, .sdo, .alu, .pli, .sac, .cbu, .sup] (cscOnCtrFb order p s) := by
  unfold cscOnCtrFb; dsimp only
  split <;> first
    | exact State.ChangedOnly.ite (stageEvent_changedOnly _ _ _ s) (stageEvent_changedOnly _ _ _ s)
    | exact stageEvent_changedOnly _ _ _ s
    | exact (onCsc_changedOnly _ s).mono rfl

theorem cscOnOperating_changedOnly (order : List Taker) (s : State) : s.ChangedOnly [.csc, .sdo, .alu, .pli, .sac, .cbu, .sup] (cscOnOperating order s) := by
  unfold cscOnOperating; dsimp only
  have h : s.ChangedOnly [.csc, .sdo, .alu, .pli, .sac, .cbu, .sup] (s.onCsc fun c =>
      { c with eqDue := c.eqDue || decide (s.settings.csc.eqIntervalDays ≤ c.eqDays) }) := (onCsc_changedOnly _ s).mono rfl
  exact State.ChangedOnly.ite (h.trans (((onCsc_changedOnly _ _).mono rfl).trans ((cscHand_changedOnly _ _ _ _).mono rfl))) h

theorem cscEqualizeStart_changedOnly (s : State) : s.ChangedOnly [.csc] (cscEqualizeStart s) := by
  exact onCsc_changedOnly _ s

theorem cscEqualizeStop_changedOnly (order : List Taker) (s : State) : s.ChangedOnly [.csc, .sdo, .alu, .pli, .sac, .cbu, .sup] (cscEqualizeStop order s) := by
  exact stageEvent_changedOnly _ _ _ s

/-! ## The rectifier -/

theorem rectDrive_changedOnly (s : State) : s.ChangedOnly [.sdo] (rectDrive s) := by
  exact (writeRelay_changedOnly _ _ s).trans (writeTarget_changedOnly _ _ _)

theorem enterRect_changedOnly (order : List Taker) (x : RectState) (s : State) : s.ChangedOnly [.rot, .sdo, .pli, .alu] (enterRect order x s) := by
  unfold enterRect; dsimp only
  refine ((onRot_changedOnly _ s).mono rfl).trans (fan_changedOnly _ _ (fun x s => ?_) _)
  cases x <;> dsimp only <;> first
    | exact .refl s _
    | exact (rectDrive_changedOnly s).mono rfl
    | exact (requestStatus_changedOnly s).mono rfl
    | exact (logEntry_changedOnly _ _ _ s).mono rfl
    | exact (takeCondition_changedOnly _ _ s).mono rfl

theorem beginRest_changedOnly (order : List Taker) (s : State) : s.ChangedOnly [.rot, .sdo, .pli, .alu] (beginRest order s) := by
  unfold beginRest; dsimp only
  exact ((enterRect_changedOnly _ _ s).trans ((enqueue_changedOnly _ _ _).mono rfl)).trans ((onRot_changedOnly _ _).mono rfl)

theorem beginWake_changedOnly (order : List Taker) (r : WakeReason) (s : State) : s.ChangedOnly [.rot, .sdo, .pli, .alu] (beginWake order r s) := by
  unfold beginWake; dsimp only
  exact (((enqueue_changedOnly _ _ s).mono rfl).trans (enterRect_changedOnly _ _ _)).trans ((onRot_changedOnly _ _).mono rfl)

/-- What the check may begin. -/
theorem rotMayBegin_changedOnly (order : List Taker) (hour : Prop) [Decidable hour] (s : State) :
    s.ChangedOnly [.rot, .sdo, .pli, .alu] (match s.rot.state with
      | .run => if s.restTest then beginRest order s else s
      | .resting =>
        if s.wakeTest then beginWake order .need s else if hour ∧ s.swapTest then beginWake order .swap s else s
      | _ => s) := by
  cases s.rot.state <;> dsimp only
  case run => exact State.ChangedOnly.ite (beginRest_changedOnly _ _) (.refl _ _)
  case resting =>
    split
    · exact beginWake_changedOnly _ _ _
    · split
      · exact beginWake_changedOnly _ _ _
      · exact .refl _ _
  all_goals exact .refl _ _

theorem rotCheck_changedOnly (order : List Taker) (s : State) : s.ChangedOnly [.rot, .sdo, .pli, .alu] (rotCheck order s) := by
  unfold rotCheck; dsimp only
  refine State.ChangedOnly.trans (t := s.onRot fun r => { r with lastT := s.runningCurrent, lastNreq := s.nreq })
    ((onRot_changedOnly _ s).mono rfl) (State.ChangedOnly.ite ?_ ((onRot_changedOnly _ _).mono rfl))
  let x := s.onRot fun r => { r with lastT := s.runningCurrent, lastNreq := s.nreq }
  exact State.ChangedOnly.trans
    (t := x.onRot fun r => { r with lastNr := x.runningForRest, lastNw := x.runningForWake
                                    swapClock := if 3600 ≤ x.rot.swapClock + 1 then 0 else r.swapClock + 1 })
    ((onRot_changedOnly _ _).mono rfl) (rotMayBegin_changedOnly order (3600 ≤ x.rot.swapClock + 1) _)

theorem rotTick_changedOnly (order : List Taker) (s : State) : s.ChangedOnly [.rot, .sdo, .pli, .alu] (rotTick order s) := by
  unfold rotTick; dsimp only
  exact ((onRot_changedOnly _ s).mono rfl).trans (State.ChangedOnly.ite (rotCheck_changedOnly _ _) (.refl _ _))

theorem rotSettle_changedOnly (order : List Taker) (s : State) : s.ChangedOnly [.rot, .sdo, .pli, .alu] (rotSettle order s) := by
  exact enterRect_changedOnly _ _ s

theorem rotRamp_changedOnly (order : List Taker) (n : Nat) (s : State) : s.ChangedOnly [.rot, .sdo, .pli, .alu] (rotRamp order n s) := by
  unfold rotRamp
  exact State.ChangedOnly.ite (((onRot_changedOnly _ s).mono rfl).trans ((writeTarget_changedOnly _ _ _).mono rfl))
    (((writeTarget_changedOnly _ _ s).mono rfl).trans (enterRect_changedOnly _ _ _))

theorem rotFailClear_changedOnly (order : List Taker) (s : State) : s.ChangedOnly [.rot, .sdo, .pli, .alu] (rotFailClear order s) := by
  exact enterRect_changedOnly _ _ s

theorem rotOnView_changedOnly (order : List Taker) (s : State) : s.ChangedOnly [.rot, .sdo, .pli, .alu] (rotOnView order s) := by
  unfold rotOnView; split
  · exact .refl s _
  · split <;> first | exact enterRect_changedOnly _ _ s | exact .refl s _

theorem rotOnAcok_changedOnly (order : List Taker) (s : State) : s.ChangedOnly [.rot, .sdo, .pli, .alu] (rotOnAcok order s) := by
  unfold rotOnAcok; split
  · exact State.ChangedOnly.ite (enterRect_changedOnly _ _ s) (.refl s _)
  · split <;> first | exact .refl s _ | exact enterRect_changedOnly _ _ s

theorem rotOnFail_changedOnly (order : List Taker) (s : State) : s.ChangedOnly [.rot, .sdo, .pli, .alu] (rotOnFail order s) := by
  unfold rotOnFail; split
  · exact State.ChangedOnly.ite ((onRot_changedOnly _ s).mono rfl) (enterRect_changedOnly _ _ s)
  · exact State.ChangedOnly.ite ((onRot_changedOnly _ s).mono rfl) (.refl s _)

theorem rotOnRest_changedOnly (order : List Taker) (n h : Nat) (s : State) : s.ChangedOnly [.rot, .sdo, .pli, .alu] (rotOnRest order n h s) := by
  unfold rotOnRest
  exact State.ChangedOnly.ite (enterRect_changedOnly _ _ s) (.refl s _)

theorem rotOnSent_changedOnly (k : IntentKind) (s : State) : s.ChangedOnly [.rot] (rotOnSent k s) := by
  exact onRot_changedOnly _ s

theorem rotOnDormant_changedOnly (order : List Taker) (s : State) : s.ChangedOnly [.rot, .sdo, .pli, .alu] (rotOnDormant order s) := by
  unfold rotOnDormant; dsimp only
  exact (State.ChangedOnly.ite (((onRot_changedOnly _ s).mono rfl).trans ((rectDrive_changedOnly _).mono rfl))
    (enterRect_changedOnly _ _ s)).trans ((onRot_changedOnly _ _).mono rfl)

/-! ## The generator -/

theorem gcoHand_changedOnly (order : List Taker) (old : Gco) (a : Bool) (g : Option (List Byte)) (logs : List (LogKind × Nat × Nat)) (s : State) : s.ChangedOnly [.sdo, .pli, .alu, .sup] (gcoHand order old a g logs s) := by
  unfold gcoHand; dsimp only
  refine fan_changedOnly _ _ (fun x s => ?_) s
  cases x <;> dsimp only <;> first
    | exact .refl s _
    | exact State.ChangedOnly.ite (.refl s _) ((writeRelay_changedOnly _ _ s).mono rfl)
    | exact (takeConditions_changedOnly _ _ s).mono rfl
    | exact (foldl_changedOnly (fun s e => logEntry_changedOnly _ _ _ s) logs s).mono rfl
    | exact (State.ChangedOnly.ite ((beginPendingWrite_changedOnly s).mono rfl) (.refl s _)).trans
        (State.ChangedOnly.ite ((triggerWrite_changedOnly _).mono rfl) (.refl _ _))
    | skip
  cases g <;> dsimp only
  · exact (State.ChangedOnly.ite (.refl s _) ((requestStatus_changedOnly s).mono rfl)).trans
      (State.ChangedOnly.ite ((requestStatus_changedOnly _).mono rfl) (.refl _ _))
  · exact (((enqueue_changedOnly _ _ s).mono rfl).trans (State.ChangedOnly.ite (.refl _ _)
      ((requestStatus_changedOnly _).mono rfl))).trans (State.ChangedOnly.ite ((requestStatus_changedOnly _).mono rfl) (.refl _ _))

theorem gcoMove_changedOnly (order : List Taker) (f : Gco → Gco) (logs : List (LogKind × Nat × Nat)) (s : State) : s.ChangedOnly [.gco, .sdo, .pli, .alu, .sup] (gcoMove order f logs s) := by
  exact ((onGco_changedOnly _ s).mono rfl).trans ((gcoHand_changedOnly _ _ _ _ _ _).mono rfl)

theorem gcoRelease_changedOnly (order : List Taker) (s : State) : s.ChangedOnly [.gco, .sdo, .pli, .alu, .sup] (gcoRelease order s) := by
  exact gcoMove_changedOnly _ _ _ s

theorem gcoRaiseNow_changedOnly (order : List Taker) (r : DemandReason) (e : Option Nat) (s : State) : s.ChangedOnly [.gco, .sdo, .pli, .alu, .sup] (gcoRaiseNow order r e s) := by
  exact gcoMove_changedOnly _ _ _ s

theorem gcoRunCheck_changedOnly (order : List Taker) (d : Demand) (s : State) : s.ChangedOnly [.gco, .sdo, .pli, .alu, .sup] (gcoRunCheck order d s) := by
  unfold gcoRunCheck; dsimp only
  refine State.ChangedOnly.ite (gcoMove_changedOnly _ _ _ s) (State.ChangedOnly.trans
    (t := s.onGco fun g => { g with acceptDwell := s.acceptNext }) ((onGco_changedOnly _ s).mono rfl) ?_)
  exact State.ChangedOnly.ite (gcoRelease_changedOnly _ _) (.refl _ _)

theorem gcoCheck_changedOnly (order : List Taker) (s : State) : s.ChangedOnly [.gco, .sdo, .pli, .alu, .sup] (gcoCheck order s) := by
  unfold gcoCheck; dsimp only
  refine State.ChangedOnly.trans ((onGco_changedOnly (gcoDwells s) s).mono rfl) ?_
  split
  · split
    · exact State.ChangedOnly.ite (gcoRaiseNow_changedOnly _ _ _ _) (.refl _ _)
    · exact .refl _ _
  · exact State.ChangedOnly.ite (gcoRaiseNow_changedOnly _ _ _ _) (.refl _ _)
  · split
    · exact gcoRunCheck_changedOnly _ _ _
    · exact .refl _ _
  · exact .refl _ _

theorem gcoTick_changedOnly (order : List Taker) (s : State) : s.ChangedOnly [.gco, .sdo, .pli, .alu, .sup] (gcoTick order s) := by
  unfold gcoTick; dsimp only
  exact ((onGco_changedOnly _ s).mono rfl).trans (State.ChangedOnly.ite (gcoCheck_changedOnly _ _) (.refl _ _))

theorem gcoStartFailure_changedOnly (order : List Taker) (s : State) : s.ChangedOnly [.gco, .sdo, .pli, .alu, .sup] (gcoStartFailure order s) := by
  exact ((onGco_changedOnly _ s).mono rfl).trans ((gcoHand_changedOnly _ _ _ _ _ _).mono rfl)

theorem gcoRestEnd_changedOnly (order : List Taker) (s : State) : s.ChangedOnly [.gco, .sdo, .pli, .alu, .sup] (gcoRestEnd order s) := by
  exact gcoMove_changedOnly _ _ _ s

theorem gcoSettle_changedOnly (order : List Taker) (s : State) : s.ChangedOnly [.gco, .sdo, .pli, .alu, .sup] (gcoSettle order s) := by
  exact gcoMove_changedOnly _ _ _ s

theorem gcoOnKnowledge_changedOnly (order : List Taker) (s : State) : s.ChangedOnly [.gco, .sdo, .pli, .alu, .sup] (gcoOnKnowledge order s) := by
  exact gcoMove_changedOnly _ _ _ s

theorem gcoOnView_changedOnly (order : List Taker) (s : State) : s.ChangedOnly [.gco, .sdo, .pli, .alu, .sup] (gcoOnView order s) := by
  unfold gcoOnView; split
  · exact State.ChangedOnly.ite (gcoRelease_changedOnly _ s) (.refl s _)
  · exact .refl s _

theorem gcoOnFuel_changedOnly (order : List Taker) (s : State) : s.ChangedOnly [.gco, .sdo, .pli, .alu, .sup] (gcoOnFuel order s) := by
  unfold gcoOnFuel; dsimp only
  exact ((onGco_changedOnly _ s).mono rfl).trans (State.ChangedOnly.ite (gcoRelease_changedOnly _ _) (.refl _ _))

theorem gcoOnInhibit_changedOnly (order : List Taker) (s : State) : s.ChangedOnly [.gco, .sdo, .pli, .alu, .sup] (gcoOnInhibit order s) := by
  unfold gcoOnInhibit; dsimp only
  exact ((onGco_changedOnly _ s).mono rfl).trans (State.ChangedOnly.ite (gcoRelease_changedOnly _ _) (.refl _ _))

theorem gcoHear_changedOnly (order : List Taker) (n : Nat) (b : Bool) (e : Nat) (s : State) : s.ChangedOnly [.gco, .sdo, .pli, .alu, .sup] (gcoHear order n b e s) := by
  unfold gcoHear
  exact State.ChangedOnly.ite (((onGco_changedOnly _ s).mono rfl).trans ((gcoHand_changedOnly _ _ _ _ _ _).mono rfl)) (.refl s _)

theorem gcoOnOperating_changedOnly (s : State) : s.ChangedOnly [.gco] (gcoOnOperating s) := by
  exact onGco_changedOnly _ s

theorem gcoOnDormant_changedOnly (order : List Taker) (s : State) : s.ChangedOnly [.gco, .sdo, .pli, .alu, .sup] (gcoOnDormant order s) := by
  unfold gcoOnDormant
  split <;> first
    | exact gcoRelease_changedOnly _ s
    | exact gcoMove_changedOnly _ _ _ s
    | exact (onGco_changedOnly _ s).mono rfl

/-! ## The alarm unit -/

theorem recomputeFuel_changedOnly (order : List Taker) (s : State) : s.ChangedOnly [.alu, .sdo, .pli, .gco, .sup] (recomputeFuel order s) := by
  unfold recomputeFuel; dsimp only
  refine State.ChangedOnly.ite (((onAlu_changedOnly _ s).mono rfl).trans (fan_changedOnly _ _ (fun x s => ?_) _))
    ((onAlu_changedOnly _ s).mono rfl)
  cases x <;> dsimp only <;> first
    | exact .refl s _
    | exact (takeCondition_changedOnly _ _ s).mono rfl
    | exact (gcoOnFuel_changedOnly _ s).mono rfl
    | exact (logEntry_changedOnly _ _ _ s).mono rfl

theorem recomputeInhibit_changedOnly (order : List Taker) (s : State) : s.ChangedOnly [.alu, .sdo, .pli, .gco, .sup] (recomputeInhibit order s) := by
  unfold recomputeInhibit; dsimp only
  refine State.ChangedOnly.ite (((onAlu_changedOnly _ s).mono rfl).trans (fan_changedOnly _ _ (fun x s => ?_) _))
    ((onAlu_changedOnly _ s).mono rfl)
  cases x <;> dsimp only <;> first
    | exact .refl s _
    | exact (gcoOnInhibit_changedOnly _ s).mono rfl
    | exact (logEntry_changedOnly _ _ _ s).mono rfl

theorem aluRecompute_changedOnly (order : List Taker) (s : State) : s.ChangedOnly [.alu, .sdo, .pli, .gco, .sup] (aluRecompute order s) := by
  unfold aluRecompute
  exact State.ChangedOnly.ite ((((recomputeSubs_changedOnly _ s).mono rfl).trans (recomputeFuel_changedOnly _ _)).trans
    (recomputeInhibit_changedOnly _ _)) (.refl s _)

theorem aluOnSet_changedOnly (order : List Taker) (s : State) : s.ChangedOnly [.alu, .sdo, .pli, .gco, .sup] (aluOnSet order s) := by
  unfold aluOnSet; dsimp only
  exact State.ChangedOnly.ite ((((onAlu_changedOnly _ s).mono rfl).trans ((takeConditions_changedOnly _ _ _).mono rfl)).trans
    (recomputeFuel_changedOnly _ _)) (.refl s _)

theorem aluAck_changedOnly (order : List Taker) (s : State) : s.ChangedOnly [.alu, .sdo, .pli] (aluAck order s) := by
  exact foldl_changedOnly (fun s id => handPoint_changedOnly _ _ _ s) _ s

theorem aluConsumeLog_changedOnly (s : State) : s.ChangedOnly [.alu] (aluConsumeLog s) := by
  exact onAlu_changedOnly _ s

theorem aluOnListen_changedOnly (order : List Taker) (s : State) : s.ChangedOnly [.alu, .sdo, .pli, .gco, .sup] (aluOnListen order s) := by
  exact (((onAlu_changedOnly _ s).mono rfl).trans ((takeConditions_changedOnly _ _ _).mono rfl)).trans (aluRecompute_changedOnly _ _)

/-! ## The peer table -/

theorem recomputeViews_changedOnly (order : List Taker) (s : State) : s.ChangedOnly [.ptb, .csc, .cbu, .rot, .gco, .pli, .sup, .alu, .sdo, .sac] (recomputeViews order s) := by
  unfold recomputeViews; dsimp only
  refine State.ChangedOnly.ite (((onPtb_changedOnly _ s).mono rfl).trans (fan_changedOnly _ _ (fun x s => ?_) _)) (.refl s _)
  cases x <;> dsimp only <;> first
    | exact .refl s _
    | exact State.ChangedOnly.ite ((cscOnView_changedOnly _ _ s).mono rfl) (.refl s _)
    | exact State.ChangedOnly.ite ((cbuOnEvent_changedOnly s).mono rfl) (.refl s _)
    | exact State.ChangedOnly.ite ((rotOnView_changedOnly _ s).mono rfl) (.refl s _)
    | exact State.ChangedOnly.ite ((gcoOnView_changedOnly _ s).mono rfl) (.refl s _)
    | exact State.ChangedOnly.ite ((requestStatus_changedOnly s).mono rfl) (.refl s _)
    | exact State.ChangedOnly.ite ((supOnView_changedOnly _ s).mono rfl) (.refl s _)
    | exact State.ChangedOnly.ite ((gcoOnKnowledge_changedOnly _ s).mono rfl) (.refl s _)
    | exact (takeCondition_changedOnly _ _ s).mono rfl

theorem peerHand_changedOnly (order : List Taker) (logs : List (Nat × Nat)) (subs views : Bool)
    {also : Taker → State → State} (h : ∀ (x : Taker) (s : State), s.ChangedOnly [.ptb, .csc, .cbu, .rot, .gco, .pli, .sup, .alu, .sdo, .sac] (also x s)) (s : State) :
    s.ChangedOnly [.ptb, .csc, .cbu, .rot, .gco, .pli, .sup, .alu, .sdo, .sac] (peerHand order logs subs views also s) := by
  unfold peerHand
  refine fan_changedOnly _ _ (fun x s => ?_) s
  cases x <;> dsimp only <;> first
    | exact (foldl_changedOnly (fun s e => logEntry_changedOnly _ _ _ s) logs s).mono rfl
    | exact State.ChangedOnly.ite (recomputeViews_changedOnly _ s) (.refl s _)
    | exact h _ s
    | exact ((takeConditions_changedOnly _ _ s).mono rfl).trans
        (State.ChangedOnly.ite ((aluRecompute_changedOnly _ _).mono rfl) (.refl _ _))

theorem takeNote_changedOnly (order : List Taker) (station seq : Nat) (n : NoteContent)
    (hg : ∀ s : State, s.ChangedOnly [.ptb, .csc, .cbu, .rot, .gco, .pli, .sup, .alu, .sdo, .sac] (n.gco s)) (hr : ∀ s : State, s.ChangedOnly [.ptb, .csc, .cbu, .rot, .gco, .pli, .sup, .alu, .sdo, .sac] (n.rot s)) (s : State) :
    s.ChangedOnly [.ptb, .csc, .cbu, .rot, .gco, .pli, .sup, .alu, .sdo, .sac] (takeNote order station seq n s) := by
  unfold takeNote; dsimp only
  refine State.ChangedOnly.ite (.refl s _) (((onPtb_changedOnly _ s).mono rfl).trans
    (peerHand_changedOnly _ _ _ _ (fun x s => ?_) _))
  cases x <;> dsimp only <;> first
    | exact .refl s _
    | exact hg s
    | exact hr s
    | exact State.ChangedOnly.ite (((requestStatus_changedOnly s).mono rfl).trans ((enqueuePoint_changedOnly _).mono rfl))
        (.refl s _)

theorem ageRecords_changedOnly (order : List Taker) (s : State) : s.ChangedOnly [.ptb, .csc, .cbu, .rot, .gco, .pli, .sup, .alu, .sdo, .sac] (ageRecords order s) := by
  exact ((onPtb_changedOnly _ s).mono rfl).trans (peerHand_changedOnly _ _ _ _ (fun _ s => .refl s _) _)

theorem expireIntent_changedOnly (n : Nat) (s : State) : s.ChangedOnly [.ptb] (expireIntent n s) := by
  unfold expireIntent; split
  · split
    · exact State.ChangedOnly.ite (onPtb_changedOnly _ s) (.refl s _)
    · exact .refl s _
  · exact .refl s _

theorem forgetRecord_changedOnly (order : List Taker) (p : PeerRecord) (s : State) : s.ChangedOnly [.ptb, .csc, .cbu, .rot, .gco, .pli, .sup, .alu, .sdo, .sac] (forgetRecord order p s) := by
  exact ((onPtb_changedOnly _ s).mono rfl).trans (peerHand_changedOnly _ _ _ _ (fun _ s => .refl s _) _)

theorem clearPeers_changedOnly (order : List Taker) (s : State) : s.ChangedOnly [.ptb, .csc, .cbu, .rot, .gco, .pli, .sup, .alu, .sdo, .sac] (clearPeers order s) := by
  exact ((onPtb_changedOnly _ s).mono rfl).trans (peerHand_changedOnly _ _ _ _ (fun _ s => .refl s _) _)

/-! ## The line and the phases -/

theorem grantTransmission_changedOnly (s : State) : s.ChangedOnly [.pli, .alu] (grantTransmission s) := by
  exact ((onPli_changedOnly _ s).mono rfl).trans ((onAlu_changedOnly _ _).mono rfl)

theorem withdrawTransmission_changedOnly (s : State) : s.ChangedOnly [.pli, .alu] (withdrawTransmission s) := by
  exact ((onPli_changedOnly _ s).mono rfl).trans ((onAlu_changedOnly _ _).mono rfl)

theorem frameSeen_changedOnly (s : State) : s.ChangedOnly [.pli] (frameSeen s) := by
  exact onPli_changedOnly _ s

theorem lineFaultNow_changedOnly (order : List Taker) (f : Pli → Pli) (s : State) : s.ChangedOnly [.pli, .alu, .sdo] (lineFaultNow order f s) := by
  exact ((onPli_changedOnly _ s).mono rfl).trans ((takeCondition_changedOnly _ _ _).mono rfl)

theorem discardFrame_changedOnly (order : List Taker) (s : State) : s.ChangedOnly [.pli, .alu, .sdo] (discardFrame order s) := by
  unfold discardFrame
  exact State.ChangedOnly.ite (State.ChangedOnly.ite (((frameSeen_changedOnly s).mono rfl).trans (lineFaultNow_changedOnly _ _ _))
    ((frameSeen_changedOnly s).mono rfl)) (.refl s _)

theorem duplicateFound_changedOnly (order : List Taker) (s : State) : s.ChangedOnly [.pli, .alu, .sdo] (duplicateFound order s) := by
  exact ((onPli_changedOnly _ s).mono rfl).trans ((takeCondition_changedOnly _ _ _).mono rfl)

theorem beginFrame_changedOnly (s : State) : s.ChangedOnly [.pli] (beginFrame s) := by
  unfold beginFrame; split
  · exact State.ChangedOnly.ite (onPli_changedOnly _ s) (.refl s _)
  · exact .refl s _

theorem loseContention_changedOnly (s : State) : s.ChangedOnly [.pli] (loseContention s) := by
  unfold loseContention
  exact State.ChangedOnly.ite (onPli_changedOnly _ s) (.refl s _)

theorem failDrive_changedOnly (order : List Taker) (s : State) : s.ChangedOnly [.pli, .alu, .sdo] (failDrive order s) := by
  unfold failDrive
  exact State.ChangedOnly.ite (((onPli_changedOnly _ s).mono rfl).trans (lineFaultNow_changedOnly _ _ _)) (.refl s _)

theorem listenEntry_changedOnly (order : List Taker) (b : Bool) (s : State) : s.ChangedOnly [.mch, .ptb, .csc, .cbu, .rot, .gco, .pli, .sup, .alu, .sdo, .sac] (listenEntry order b s) := by
  unfold listenEntry
  refine ((onSup_changedOnly _ s).mono rfl).trans (fan_changedOnly _ _ (fun x s => ?_) _)
  cases x <;> dsimp only <;> first
    | exact .refl s _
    | exact (onMch_changedOnly _ s).mono rfl
    | exact (onPli_changedOnly _ s).mono rfl
    | exact (aluOnListen_changedOnly _ s).mono rfl
    | exact State.ChangedOnly.ite ((clearPeers_changedOnly _ s).mono rfl) (.refl s _)
    | exact State.ChangedOnly.ite (.refl s _) ((rectDrive_changedOnly s).mono rfl)

theorem logWake_changedOnly (s : State) : s.ChangedOnly [.alu] (logWake s) := by
  exact (logEntry_changedOnly _ _ _ s).trans (logEntry_changedOnly _ _ _ _)

theorem enterOperating_changedOnly (order : List Taker) (s : State) : s.ChangedOnly [.sup, .pli, .alu, .sdo, .csc, .sac, .cbu, .gco] (enterOperating order s) := by
  unfold enterOperating; dsimp only
  refine State.ChangedOnly.trans (t := if s.sup.startCause = .wakeTimer then logWake s else s)
    (State.ChangedOnly.ite ((logWake_changedOnly s).mono rfl) (.refl s _)) ?_
  generalize (if s.sup.startCause = .wakeTimer then logWake s else s) = s
  refine State.ChangedOnly.trans (t := grantTransmission (s.onSup fun x => { x with phase := .operating }))
    (((onSup_changedOnly _ _).mono rfl).trans ((grantTransmission_changedOnly _).mono rfl)) ?_
  generalize grantTransmission (s.onSup fun x => { x with phase := .operating }) = s
  refine State.ChangedOnly.trans (((enqueue_changedOnly _ _ _).mono rfl).trans (((enqueueStatus_changedOnly _).mono rfl).trans
    ((enqueuePoint_changedOnly _).mono rfl))) (fan_changedOnly _ _ (fun x s => ?_) _)
  cases x <;> dsimp only <;> first
    | exact .refl s _
    | exact (onSdo_changedOnly _ s).mono rfl
    | exact (cscOnOperating_changedOnly _ s).mono rfl
    | exact (cbuOnOperating_changedOnly s).mono rfl
    | exact (onGco_changedOnly _ s).mono rfl
    | exact (recomputeRelays_changedOnly s).mono rfl
    | exact ((updateLeanDwell_changedOnly s).trans (updateDormantDwell_changedOnly _)).mono rfl

theorem dormantEntry_changedOnly (order : List Taker) (s : State) : s.ChangedOnly [.sdo, .mch, .sac, .csc, .pli, .cbu, .rot, .gco, .alu, .sup] (dormantEntry order s) := by
  unfold dormantEntry
  refine ((onSdo_changedOnly _ s).mono rfl).trans (fan_changedOnly _ _ (fun x s => ?_) _)
  cases x <;> dsimp only <;> first
    | exact .refl s _
    | exact ((onMch_changedOnly _ s).mono rfl).trans ((takeConditions_changedOnly _ _ _).mono rfl)
    | exact (onSac_changedOnly _ s).mono rfl
    | exact (onCsc_changedOnly _ s).mono rfl
    | exact (onCbu_changedOnly _ s).mono rfl
    | exact (onAlu_changedOnly _ s).mono rfl
    | exact (rotOnDormant_changedOnly _ s).mono rfl
    | exact (gcoOnDormant_changedOnly _ s).mono rfl
    | exact ((onPli_changedOnly _ s).mono rfl).trans ((takeCondition_changedOnly _ _ _).mono rfl)

theorem fallAsleep_changedOnly (order : List Taker) (s : State) : s.ChangedOnly [.sdo, .mch, .sac, .csc, .pli, .cbu, .rot, .gco, .alu, .sup] (fallAsleep order s) := by
  exact (((onSup_changedOnly _ s).mono rfl).trans (((recomputeRelays_changedOnly _).mono rfl).trans
    (dormantEntry_changedOnly _ _))).trans ((triggerWrite_changedOnly _).mono rfl)

theorem stopStation_changedOnly (order : List Taker) (s : State) : s.ChangedOnly [.sdo, .mch, .sac, .csc, .pli, .cbu, .rot, .gco, .alu, .sup] (stopStation order s) := by
  exact ((((withdrawTransmission_changedOnly s).mono rfl).trans ((logEntry_changedOnly _ _ _ _).mono rfl))).trans
    (fallAsleep_changedOnly _ _)

theorem wakeUp_changedOnly (order : List Taker) (c : StartCause) (s : State) : s.ChangedOnly [.mch, .ptb, .csc, .cbu, .rot, .gco, .pli, .sup, .alu, .sdo, .sac] (wakeUp order c s) := by
  unfold wakeUp; dsimp only
  refine State.ChangedOnly.ite (((onSup_changedOnly _ s).mono rfl).trans (State.ChangedOnly.trans (State.ChangedOnly.ite (.refl _ _) ?_)
    (listenEntry_changedOnly _ _ _))) (.refl s _)
  exact ((logEntry_changedOnly _ _ _ _).trans (logEntry_changedOnly _ _ _ _)).mono rfl

theorem tryLean_changedOnly (order : List Taker) (s : State) : s.ChangedOnly [.sup, .alu, .pli, .sdo] (tryLean order s) := by
  unfold tryLean
  exact State.ChangedOnly.ite (changeMode_changedOnly _ _ s) (.refl s _)

theorem tryDormant_changedOnly (order : List Taker) (s : State) : s.ChangedOnly [.sup, .alu, .pli, .sdo] (tryDormant order s) := by
  unfold tryDormant; dsimp only
  exact State.ChangedOnly.ite (State.ChangedOnly.ite (((enqueue_changedOnly _ _ s).mono rfl).trans ((onSup_changedOnly _ _).mono rfl))
    (((onSup_changedOnly _ s).mono rfl).trans ((takeCondition_changedOnly _ _ _).mono rfl))) (.refl s _)

theorem leaveCheck_changedOnly (order : List Taker) (s : State) : s.ChangedOnly [.sup, .pli, .alu, .sdo, .csc, .sac, .cbu, .gco] (leaveCheck order s) := by
  unfold leaveCheck
  exact State.ChangedOnly.ite (enterOperating_changedOnly _ s) (.refl s _)

theorem validFrame_changedOnly (order : List Taker) (s : State) : s.ChangedOnly [.sup, .pli, .alu, .sdo, .csc, .sac, .cbu, .gco] (validFrame order s) := by
  unfold validFrame; dsimp only
  exact ((((onSup_changedOnly _ s).trans (abandonEntryWait_changedOnly _)).mono rfl).trans (leaveCheck_changedOnly _ _)).trans
    ((leaveLean_changedOnly _ _).mono rfl)

/-- Outside CHECK, and in a state that has no change to act on, nothing follows a command. -/
theorem leaveCheck_of_steady (order : List Taker) (h : s.Steady) : leaveCheck order s = s := by
  unfold leaveCheck
  exact if_neg fun g => by simp [h g.1] at g

end Sys2Proof.Machine
end

