-- ==== Sys2Proof/Laws/Order.lean ====
section
/-! SUPPORT. A hand-off reaches every one of its takers, once, in whatever order a moment asks for (log entry 3). -/

namespace Sys2Proof.Machine

/-- A moment's order rearranges the takers: it neither adds one nor leaves one out. -/
theorem arrange_perm (order takers : List Taker) : (arrange order takers).Perm takers := by
  induction order generalizing takers with
  | nil => exact .refl _
  | cons t order ih =>
    unfold arrange
    split
    · exact ((ih _).cons t).trans (List.perm_cons_erase ‹_›).symm
    · exact ih _

theorem mem_arrange {order takers : List Taker} {t : Taker} : t ∈ arrange order takers ↔ t ∈ takers :=
  (arrange_perm order takers).mem_iff

@[simp] theorem length_arrange (order takers : List Taker) : (arrange order takers).length = takers.length :=
  (arrange_perm order takers).length_eq

/-- What holds before a hand-off and is kept by each of its takers holds after it. -/
theorem fan_induction {P : State → Prop} {f : Taker → State → State} {takers : List Taker} (order : List Taker)
    (h : ∀ t ∈ takers, ∀ s, P s → P (f t s)) (s : State) (hs : P s) : P (fan order takers f s) := by
  unfold fan
  have hm : ∀ t ∈ arrange order takers, t ∈ takers := fun _ => mem_arrange.mp
  generalize arrange order takers = ts at hm
  induction ts generalizing s with
  | nil => exact hs
  | cons t ts ih =>
    exact ih _ (h t (hm t List.mem_cons_self) s hs) fun x hx => hm x (List.mem_cons_of_mem t hx)

end Sys2Proof.Machine
end

