-- ==== Sys2Proof/Laws/Store.lean ====
section
/-! SUPPORT. The store: its canonical form, what every write of it keeps, and what reads see after writes. -/

namespace Sys2Proof.Machine

open Host

/-- The canonical form, said of all cells at once. -/
theorem storeWf_iff (m : List Cell) :
    storeWf m = true ↔ (m.map (·.1)).Pairwise (· < ·) ∧ ∀ c ∈ m, c.2 ≠ erased := by
  induction m with
  | nil => simp [storeWf]
  | cons c m ih =>
    obtain ⟨a, b⟩ := c
    cases m with
    | nil => simp [storeWf]
    | cons d m =>
      obtain ⟨a', b'⟩ := d
      rw [storeWf, Bool.and_eq_true, Bool.and_eq_true, ih]
      simp only [List.map_cons, List.pairwise_cons, List.mem_cons, List.mem_map, decide_eq_true_eq, bne_iff_ne,
        forall_eq_or_imp, Prod.exists]
      constructor
      · rintro ⟨⟨h, hb⟩, ⟨⟨h', hp⟩, hb', hm⟩⟩
        exact ⟨⟨⟨h, fun x hx => lt_trans h (h' x hx)⟩, h', hp⟩, hb, hb', hm⟩
      · rintro ⟨⟨⟨h, _⟩, h', hp⟩, hb, hb', hm⟩
        exact ⟨⟨h, hb⟩, ⟨⟨h', hp⟩, hb', hm⟩⟩

theorem storeWf_tail {c : Cell} {m : List Cell} (h : storeWf (c :: m) = true) : storeWf m = true := by
  rw [storeWf_iff] at h ⊢
  exact ⟨(List.pairwise_cons.mp h.1).2, fun x hx => h.2 x (List.mem_cons_of_mem _ hx)⟩

/-- In a canonical store the cells after the first lie above it. -/
theorem storeWf_above {a : Nat} {b : Byte} {m : List Cell} (h : storeWf ((a, b) :: m) = true) :
    ∀ c ∈ m, a < c.1 := by
  rw [storeWf_iff] at h
  exact fun c hc => (List.pairwise_cons.mp h.1).1 c.1 (List.mem_map_of_mem hc)

/-- A cell above every listed address, or below, reads erased. -/
theorem storeRead_below {m : List Cell} {x : Nat} (h : ∀ c ∈ m, x < c.1) : storeRead m x = erased := by
  cases m with
  | nil => rfl
  | cons c m =>
    have := h c List.mem_cons_self
    simp [storeRead, this, Nat.ne_of_lt this]

/-- The addresses a write lists are those listed before and its own. -/
theorem storeWrite_mem {m : List Cell} {x : Nat} {v : Byte} {c : Cell} (h : c ∈ storeWrite m x v) :
    c ∈ m ∨ (c = (x, v) ∧ v ≠ erased) := by
  induction m with
  | nil =>
    unfold storeWrite at h
    split at h <;> simp_all
  | cons d m ih =>
    obtain ⟨a, b⟩ := d
    unfold storeWrite at h
    split at h
    · split at h <;> simp_all
      tauto
    · split at h
      · split at h <;> simp_all
        tauto
      · simp only [List.mem_cons] at h ⊢
        rcases h with h | h
        · exact .inl (.inl h)
        · rcases ih h with h | h
          · exact .inl (.inr h)
          · exact .inr h

/-- A write keeps the canonical form. -/
theorem storeWrite_wf {m : List Cell} (x : Nat) (v : Byte) (h : storeWf m = true) :
    storeWf (storeWrite m x v) = true := by
  induction m with
  | nil =>
    unfold storeWrite
    split <;> simp_all [storeWf]
  | cons d m ih =>
    obtain ⟨a, b⟩ := d
    have hm := storeWf_tail h
    have ha := storeWf_above h
    have hall := (storeWf_iff _).mp h
    have hb : b ≠ erased := hall.2 (a, b) List.mem_cons_self
    unfold storeWrite
    split
    · split
      · exact hm
      · subst_vars
        rw [storeWf_iff]
        refine ⟨hall.1, ?_⟩
        simp only [List.mem_cons, forall_eq_or_imp]
        exact ⟨by assumption, fun c hc => hall.2 c (List.mem_cons_of_mem _ hc)⟩
    · split
      · split
        · exact h
        · have hx : x < a := by assumption
          rw [storeWf_iff]
          simp only [List.map_cons, List.pairwise_cons, List.mem_cons, forall_eq_or_imp, List.mem_map,
            forall_exists_index, and_imp, forall_apply_eq_imp_iff₂]
          exact ⟨⟨⟨hx, fun c hc => lt_trans hx (ha c hc)⟩, fun c hc => ha c hc, ((storeWf_iff _).mp hm).1⟩,
            by assumption, hb, ((storeWf_iff _).mp hm).2⟩
      · have hx : a < x := by omega
        have hw := (storeWf_iff _).mp (ih hm)
        rw [storeWf_iff]
        simp only [List.map_cons, List.pairwise_cons, List.mem_cons, forall_eq_or_imp, List.mem_map,
          forall_exists_index, and_imp, forall_apply_eq_imp_iff₂]
        refine ⟨⟨fun c hc => ?_, hw.1⟩, hb, hw.2⟩
        rcases storeWrite_mem hc with h' | ⟨rfl, -⟩
        · exact ha c h'
        · exact hx

/-- A read after a write to the same cell gives the byte written. -/
theorem storeRead_storeWrite_same {m : List Cell} (x : Nat) (v : Byte) (h : storeWf m = true) :
    storeRead (storeWrite m x v) x = v := by
  induction m with
  | nil =>
    unfold storeWrite
    split <;> simp_all [storeRead]
  | cons d m ih =>
    obtain ⟨a, b⟩ := d
    have ha := storeWf_above h
    unfold storeWrite
    split
    · split
      · subst_vars; exact storeRead_below ha
      · simp [storeRead]
    · split
      · split
        · simp_all [storeRead]
        · simp [storeRead]
      · rw [storeRead, if_neg (by assumption), if_neg (by assumption)]
        exact ih (storeWf_tail h)

/-- A write leaves every other cell alone. -/
theorem storeRead_storeWrite_other {m : List Cell} {x y : Nat} (v : Byte) (h : storeWf m = true) (hy : y ≠ x) :
    storeRead (storeWrite m x v) y = storeRead m y := by
  induction m with
  | nil =>
    unfold storeWrite
    split
    · rfl
    · simp [storeRead, hy]
  | cons d m ih =>
    obtain ⟨a, b⟩ := d
    have ha := storeWf_above h
    unfold storeWrite
    split
    · subst_vars
      split
      · by_cases hlt : y < a
        · rw [storeRead_below fun c hc => lt_trans hlt (ha c hc)]
          simp [storeRead, hy, hlt]
        · simp [storeRead, hy, hlt]
      · simp [storeRead, hy]
    · split
      · split
        · rfl
        · by_cases hlt : y < x
          · have : y < a := by omega
            simp [storeRead, hy, hlt, this, Nat.ne_of_lt this]
          · rw [storeRead, if_neg hy, if_neg hlt]
      · simp only [storeRead]
        rw [ih (storeWf_tail h)]

theorem storeWriteAll_wf {m : List Cell} (x : Nat) (vs : List Byte) (h : storeWf m = true) :
    storeWf (storeWriteAll m x vs) = true := by
  induction vs generalizing m x with
  | nil => exact h
  | cons v vs ih => exact ih _ (storeWrite_wf x v h)

/-- Bytes written from an address on leave every cell outside them alone. -/
theorem storeRead_storeWriteAll_other {m : List Cell} {x y : Nat} (vs : List Byte) (h : storeWf m = true)
    (hy : y < x ∨ x + vs.length ≤ y) : storeRead (storeWriteAll m x vs) y = storeRead m y := by
  induction vs generalizing m x with
  | nil => rfl
  | cons v vs ih =>
    simp only [List.length_cons] at hy
    rw [storeWriteAll, ih (storeWrite_wf x v h) (by omega), storeRead_storeWrite_other v h (by omega)]

/-- The bytes of a read of one cell more. -/
theorem storeReadN_succ (m : List Cell) (x n : Nat) :
    storeReadN m x (n + 1) = storeRead m x :: storeReadN m (x + 1) n := rfl

/-- A read of bytes that agree in two stores. -/
theorem storeReadN_congr {m m' : List Cell} (x n : Nat)
    (h : ∀ y, x ≤ y → y < x + n → storeRead m y = storeRead m' y) : storeReadN m x n = storeReadN m' x n := by
  induction n generalizing x with
  | zero => rfl
  | succ n ih => rw [storeReadN, storeReadN, h x (by omega) (by omega), ih (x + 1) fun y h1 h2 => h y (by omega) (by omega)]

/-- The bytes written from an address on are read back there. -/
theorem storeReadN_storeWriteAll {m : List Cell} (x : Nat) (vs : List Byte) (h : storeWf m = true) :
    storeReadN (storeWriteAll m x vs) x vs.length = vs := by
  induction vs generalizing m x with
  | nil => rfl
  | cons v vs ih =>
    rw [List.length_cons, storeReadN, storeWriteAll, ih (x + 1) (storeWrite_wf x v h),
      storeRead_storeWriteAll_other vs (storeWrite_wf x v h) (by omega), storeRead_storeWrite_same x v h]

theorem storeProgram_wf {m : List Cell} (cells : List (Nat × Byte)) (h : storeWf m = true) :
    storeWf (storeProgram m cells) = true := by
  induction cells generalizing m with
  | nil => exact h
  | cons c cells ih => exact ih (storeWrite_wf c.1 c.2 h)

/-- Cells that the programmer does not name stay. -/
theorem storeRead_storeProgram_other {m : List Cell} {y : Nat} (cells : List (Nat × Byte)) (h : storeWf m = true)
    (hy : y ∉ cells.map (·.1)) : storeRead (storeProgram m cells) y = storeRead m y := by
  induction cells generalizing m with
  | nil => rfl
  | cons c cells ih =>
    simp only [List.map_cons, List.mem_cons, not_or] at hy
    rw [storeProgram, List.foldl_cons]
    exact (ih (storeWrite_wf c.1 c.2 h) hy.2).trans (storeRead_storeWrite_other c.2 h hy.1)

theorem storeAfterFailedWrite_wf {m : List Cell} (n : Nat) (h : storeWf m = true) :
    storeWf (storeAfterFailedWrite n m) = true := storeWriteAll_wf _ _ h

theorem storeAfterCutWrite_wf {m : List Cell} (n : Nat) (h : storeWf m = true) :
    storeWf (storeAfterCutWrite n m) = true := by
  unfold storeAfterCutWrite
  have := storeAfterFailedWrite_wf n h
  dsimp only
  split
  · exact this
  · exact storeWriteAll_wf _ _ this

theorem reset_store_wf : storeWf State.reset.store = true := rfl

end Sys2Proof.Machine
end

