-- ==== Sys2Proof/Tests/Slice0.lean ====
section
/-! SUPPORT. Tests: the manual's worked cases, ill-formed commands that the well-formedness check refuses, single steps
on small states, and the states that the witnesses are built from. -/

namespace Sys2Proof.Tests

open Sys2Proof.Machine

/-! ## Small states -/

/-- A station in LISTEN with its number and its first measurement period. -/
def awakeState : State :=
  { State.reset with
    mch := { Mch.reset with period := some 250 }
    alu := { Alu.reset with running := true }
    sup := { Sup.reset with phase := .listen, number := 3 } }

/-- A station in LISTEN whose RECT_FAIL is about to qualify at 1. -/
def failingState : State :=
  awakeState.onMch fun m =>
    { m with contacts := { m.contacts with rectFail := { state := .inactive, candidate := some true, count := 5 } } }

/-- A gen-sense wired station in LOAD. -/
def loadState : State := State.reset.onSup fun x => { x with phase := .load, number := 3 }

/-- The contacts of a station fed by the mains with its contactor closed. -/
def mainsContacts : PerContact ContactInput :=
  { everyContact { state := .inactive, candidate := none, count := 0 } with
    rectAcok := { state := .active, candidate := none, count := 0 }
    ctrFb := { state := .active, candidate := none, count := 0 } }

/-- A wired station in OPERATING under MAINS, its string in FLOAT, its rectifier without input, all else at rest. -/
def operatingState : State :=
  let w := { Settings.builtIn with sup := { Settings.builtIn.sup with wired := true } }
  { State.reset with
    settings := w
    mch := { Mch.reset with
             period := some 250, contacts := mainsContacts
             ac := { reference := none, count := 8, valid := true, lastPeriod := 20000, frequency := 5000 } }
    sdo := { Sdo.reset with live := true, relays := { Relays.start with rla := true, rlb := true } }
    sac := { Sac.reset with synced := true }
    csc := { Csc.reset with stage := .float }
    pli := { Pli.reset with tx := .empty, granted := true }
    ptb := { Ptb.reset with view := .mains }
    cbu := { Cbu.reset with
             computed := some { ilim := 2000, load := 0, deficitSum := 500, ownDeficit := 500, lost := 0, budget := 1900
                                share := 20, shareCase := .hold } }
    gco := { Gco.reset with unsettled := false }
    alu := { Alu.reset with
             running := true, demands := { rla := true, rlb := true, out1 := false, out2 := false } }
    sup := { Sup.reset with phase := .operating, number := 3 } }

/-- A station asleep whose wake timer is due at once. -/
def asleepState : State :=
  { State.reset with sup := { Sup.reset with phase := .dormant, mode := .dormant, number := 3, wakeAt := some 0 } }

/-- A GEN note in the queue. -/
def genSlot : Slot := { kind := .gen, payload := [1, 4], replaced := false }

/-- A station whose GEN frame is on the line. -/
def sendingState : State :=
  operatingState.onPli fun p =>
    { p with tx := .send, queue := [genSlot], sending := some (buildFrame .gen 3 0 [1, 4]) }

/-- The 26 bytes of a STATUS in LEAN, wired, under MAINS, RUN, FLOAT, with a CLEAR lockout at epoch 0. -/
def goodStatus : List Byte :=
  [1, 1, 1, 2, 4, 0, 0, 0, 10, 0, 0xFE, 0xFF, 0xF0, 0xD2, 0x20, 3, 5, 0, 100, 0, 7, 0, 0, 0, 0, 0]

/-- Peers 4, 5 and 6, FRESH, each with its rectifier in RUN. -/
def runningPeers : List PeerRecord :=
  let st := { State.reset.ownStatus with rect := .run, view := .mains, flags := 1, rectI := 10 }
  [4, 5, 6].map fun n => { PeerRecord.blank n with status := some { content := st, arrival := 0 } }

/-- A station in RUN with three peers running: one rectifier too many. -/
def restReadyState : State :=
  (operatingState.onRot fun r => { r with state := .run }).onPtb fun p => { p with peers := runningPeers }

/-- Sums of 16 conversions, each at half scale. -/
def halfSums : PerChannel Nat := everyChannel 32768

/-- A station on the generator whose last set shows a bus of 42,000 mV. -/
def lowBusState : State :=
  (operatingState.onPtb fun p => { p with view := .gen }).onMch fun m =>
    { m with lastSet := some { number := 0, period := 250
                               pairs := { everyChannel { status := .unused, value := none } with
                                          busV := { status := .valid, value := some 42000 } } } }

/-- The moment of a command that comes at once. -/
def atOnce : Moment := { elapsed := 0, order := [] }

/-- The state a command leaves. -/
def result (c : Instr) (s : State) : State :=
  match exec c s with
  | .next t => t
  | _ => s

/-! ## Ill-formed commands -/

theorem test_refuses_silent_record_14 : wellFormed (.loadEnd atOnce [] [14]) = false := by decide
theorem test_refuses_impossible_sums : wellFormed (.measurementSet atOnce (everyChannel 65521)) = false := by decide
theorem test_refuses_status_of_station_0 : wellFormed (.statusNote atOnce 0 0 goodStatus) = false := by decide
theorem test_refuses_short_status : wellFormed (.statusNote atOnce 2 0 [1]) = false := by decide
theorem test_refuses_gen_of_station_0 : wellFormed (.genNote atOnce 0 0 1 1) = false := by decide
theorem test_refuses_rest_of_station_0 : wellFormed (.restNote atOnce 0 0 1 0) = false := by decide
theorem test_refuses_wake_of_station_0 : wellFormed (.wakeNote atOnce 0 0 1 1) = false := by decide
theorem test_refuses_17_pairs : wellFormed (.pointNote atOnce 2 0 (List.replicate 17 (1, 1))) = false := by decide
theorem test_refuses_hello_of_station_0 : wellFormed (.helloNote atOnce 0 0 1 0) = false := by decide
theorem test_refuses_quiet_of_station_0 : wellFormed (.quietNote atOnce 0 0 1) = false := by decide
theorem test_refuses_intent_of_station_0 : wellFormed (.intentExpiry atOnce 0) = false := by decide
theorem test_refuses_point_0 : wellFormed (.qualifyExpiry atOnce 0) = false := by decide
theorem test_refuses_point_33 : wellFormed (.qualifyExpiry atOnce 33) = false := by decide
theorem test_refuses_a_defined_code_as_unknown : wellFormed (.unknown atOnce 0x10 []) = false := by decide
theorem test_refuses_38_argument_bytes : wellFormed (.ack atOnce (List.replicate 38 0)) = false := by decide
theorem test_refuses_rest_argument_as_run : wellFormed (.rectForceRun atOnce [2]) = false := by decide
theorem test_refuses_run_argument_as_rest : wellFormed (.rectForceRest atOnce [1]) = false := by decide
theorem test_refuses_stop_argument_as_start : wellFormed (.equalizeStart atOnce [2]) = false := by decide
theorem test_accepts_wrong_length_arguments : wellFormed (.ack atOnce [1, 2]) = true := by decide

/-! ## Measurement: the worked cases of R3 to R6, R16, R22 -/

theorem test_bus_v_in_full :
    averageCode 16 43690 = 2731 ∧ isRail 2731 = false ∧
      engineering .busV (correctedCode { g := -1500, off16 := 40 } 2731) = 54600 := by decide
theorem test_str_i_in_lean :
    averageCode 4 7380 = 1845 ∧ engineering .strI (correctedCode { g := -300, off16 := 12 } 1845) = -406 := by decide
theorem test_str_t_in_full :
    averageCode 16 19203 = 1200 ∧ engineering .strT (correctedCode { g := 800, off16 := -56 } 1200) = 98 := by decide
theorem test_clamped_code_is_no_rail :
    correctedCode { g := 0, off16 := -40 } 1 = 0 ∧ isRail 1 = false := by decide
theorem test_ac_frequency : acFrequency 20010 = 4998 := by decide
theorem test_str_vref_code : outputCode .strVref { g := 2100, off16 := -24 } 53280 = 3335 := by decide
theorem test_zero_limit_codes :
    outputCode .strIlim { g := 0, off16 := 40 } 0 = 3 ∧ outputCode .strIlim { g := 0, off16 := -40 } 0 = 0 := by decide
theorem test_default_codes :
    outputCode .rectVref .plain 54000 = 3375 ∧ outputCode .rectIlim .plain 300 = 300 := by decide

/-! ## The string: the worked cases of R34, R35, R37 to R40, R53 -/

/-- The string of the worked cases. -/
def worked : SacSettings :=
  { capacityAh := 400, eta := 243, k1 := 600, k2 := 860, k3 := 1024, k4 := 1070, resyncHold := 30 }

theorem test_five_sets :
    countCharge worked 250 160 900000000 100 = (900003797, 68) ∧ countCharge worked 250 160 900003797 68 = (900007594, 36) ∧
      countCharge worked 250 160 900007594 36 = (900011391, 4) ∧ countCharge worked 250 160 900011391 4 = (900015187, 228) ∧
      countCharge worked 250 (-30) 900015187 228 = (900014437, 228) := by decide
theorem test_the_two_ends :
    countCharge worked 250 160 1439998000 200 = (1440000000, 168) ∧ countCharge worked 1000 (-406) 30000 7 = (0, 7) := by
  decide
theorem test_a_cool_morning :
    capacityFactor worked 50 = 892 ∧ effectiveCapacity 1440000000 892 = 1254375000 ∧
      stateOfCharge 900000000 1254375000 = 717 ∧ lineDeficit (deficit 900000000 1254375000) = 985 := by decide
theorem test_frost_and_heat :
    capacityFactor worked (-150) = 665 ∧ effectiveCapacity 1440000000 665 = 935156250 ∧
      stateOfCharge 1000000000 935156250 = 1000 ∧ deficit 1000000000 935156250 = 0 ∧
      capacityFactor worked 350 = 1054 ∧ effectiveCapacity 1440000000 1054 = 1440000000 := by decide
theorem test_four_targets :
    let a := Settings.builtIn.csc
    targetFor a (stageCell a .float false) 350 = 53280 ∧ targetFor a (stageCell a .bulk false) (-150) = 58800 ∧
      targetFor a (stageCell a .bulk true) 600 = 52200 ∧
      targetFor { a with cells := 22, kUV := 2500 } (stageCell a .float false) 227 = 49626 ∧
      absorbTarget a 350 = 55680 := by decide

/-! ## Budget, rotation, line: the worked cases of R111 to R115, R124, R76, R189 -/

theorem test_budget_and_share :
    let a := { Settings.builtIn.cbu with genLimit := 1500 }
    sourceLimit a .gen = 1500 ∧ budgetOf a 1500 720 1 = 530 ∧ shareOf a false .bulk .gen 530 850 1880 = (239, .prop) ∧
      budgetOf a 1500 960 0 = 440 ∧ shareOf a false .bulk .gen 440 850 2580 = (144, .prop) := by decide
theorem test_ramp_of_the_limit :
    slewToward 239 160 20 = 180 ∧ slewToward 239 220 20 = 239 ∧ slewToward 239 160 80 = 239 ∧ slewToward 144 239 20 = 144 := by
  decide
theorem test_bounds_of_the_share :
    let a := Settings.builtIn.cbu
    proportionalShare a 530 10 1880 = (20, .pmin) ∧ proportionalShare a 12 850 1880 = (12, .pmin) ∧
      proportionalShare a 0 850 1880 = (0, .prop) ∧ proportionalShare a 1400 1700 2000 = (400, .pmax) ∧
      proportionalShare a 300 0 0 = (20, .hold) := by decide
/-- The bits of byte 0 in the order of the line, of the table of three stations. -/
theorem test_byte_0_bits :
    frameByte0 6 3 = 0b01100011 ∧ frameByte0 2 5 = 0b01010010 ∧ frameByte0 6 5 = 0b01010011 ∧
      frameByte0 6 9 = 0b01001011 := by decide
theorem test_check_of_nine_digits :
    crc16 [0x31, 0x32, 0x33, 0x34, 0x35, 0x36, 0x37, 0x38, 0x39] = 0x29B1 := by decide +kernel

/-! ## Single steps -/

theorem test_reset_leaves_rect_en_alone : State.reset.sdo.relays = Relays.start ∧ Relays.start.rectEn = true := by decide
theorem test_idle_on_an_empty_queue : State.reset.pending = [] := by decide
theorem test_held_end_reads_the_straps :
    (result (.heldEnd atOnce 5) State.reset).sup.number = 5 := by decide +kernel
theorem test_load_of_an_empty_store :
    (result (.loadEnd atOnce [] []) loadState).sup.configFault = true ∧
      (result (.loadEnd atOnce [] []) loadState).sac.q = 180000000 := by decide +kernel
theorem test_contact_takes_five :
    (contactGet (result (.contactQualified atOnce .in3) (awakeState.onMch fun m =>
      { m with contacts := { m.contacts with in3 := { state := .inactive, candidate := some true, count := 5 } } })).mch.contacts
      .in3).state = .active := by decide +kernel
theorem test_edge_at_22223_is_outside :
    (result (.acEdge { elapsed := 22223, order := [] }) (awakeState.onMch fun m =>
      { m with ac := { m.ac with reference := some 0, count := 7 } })).mch.ac.count = 0 := by decide +kernel
theorem test_eighth_edge_is_valid :
    (result (.acEdge { elapsed := 20010, order := [] }) (awakeState.onMch fun m =>
      { m with ac := { m.ac with reference := some 0, count := 7 } })).mch.ac.frequency = 4998 := by decide +kernel
theorem test_ack_with_an_argument_is_bad :
    ((result (.ack atOnce [1]) operatingState).sup.response.map (·.code)) = some .badArg := by decide +kernel
theorem test_frame_of_a_status_is_31_bytes : (buildFrame .status 3 0 goodStatus).length = 31 := by decide +kernel

end Sys2Proof.Tests
end

