-- ==== Sys2Proof/Tests/Witnesses.lean ====
section
/-! SUPPORT. Witnesses: for each clause of each statement with hypotheses, a state and operands that meet all of its
hypotheses together. The number is the place of the clause in the statement. -/

set_option Elab.async false

namespace Sys2Proof.Tests

open Sys2Proof.Machine

/-- The state of OPERATING with a command waiting. -/
def waitingState : State := operatingState.onPending fun _ => [.overrun { elapsed := 1000, order := [] }]

/-- The state after the waiting command. -/
def afterWaiting : State := result (.overrun { elapsed := 1000, order := [] }) operatingState

theorem waiting_step : step waitingState = .next afterWaiting := rfl

theorem witness_TheStoreStaysCanonical :
    ∃ s t : State, s.StoreCanonical ∧ step s = .next t :=
  ⟨waitingState, afterWaiting, by unfold State.StoreCanonical; decide +kernel, waiting_step⟩
theorem witness_TheLogStaysInOrder :
    ∃ s t : State, s.LogInOrder ∧ step s = .next t :=
  ⟨waitingState, afterWaiting, by unfold State.LogInOrder; decide +kernel, waiting_step⟩
theorem witness_TheChargeStaysInRange :
    ∃ s t : State, s.ChargeInRange ∧ step s = .next t :=
  ⟨waitingState, afterWaiting, by unfold State.ChargeInRange; decide +kernel, waiting_step⟩
theorem witness_ThePeerTableStaysInOrder :
    ∃ s t : State, s.PeersInOrder ∧ step s = .next t :=
  ⟨waitingState, afterWaiting, by unfold State.PeersInOrder; decide +kernel, waiting_step⟩
theorem witness_TheTransmitQueueStaysInOrder :
    ∃ s t : State, s.QueueInOrder ∧ step s = .next t :=
  ⟨waitingState, afterWaiting, by unfold State.QueueInOrder; decide +kernel, waiting_step⟩
theorem witness_TransmissionFollowsThePhase :
    ∃ s t : State, s.LineMatchesPhase ∧ step s = .next t :=
  ⟨waitingState, afterWaiting, by unfold State.LineMatchesPhase State.Steady; decide +kernel, waiting_step⟩
theorem witness_LockoutAndDemandStayConsistent :
    ∃ s t : State, s.LockoutConsistent ∧ step s = .next t :=
  ⟨waitingState, afterWaiting, by unfold State.LockoutConsistent; decide +kernel, waiting_step⟩
theorem witness_TheRectifierRestsOnlyUnderMains :
    ∃ s t : State, s.RotationInOrder ∧ step s = .next t :=
  ⟨waitingState, afterWaiting, by unfold State.RotationInOrder State.RelaysWaitForOperating; decide +kernel, waiting_step⟩
theorem witness_TheStageFollowsTheContactor :
    ∃ s t : State, s.StageFollowsContactor ∧ step s = .next t :=
  ⟨waitingState, afterWaiting, by unfold State.StageFollowsContactor; decide +kernel, waiting_step⟩
theorem witness_TheLimitStaysWithinTheShare :
    ∃ s t : State, s.LimitWithinShare ∧ step s = .next t :=
  ⟨waitingState, afterWaiting, ⟨by decide +kernel, by decide +kernel, by decide +kernel, fun _ _ => ⟨_, rfl, by
      unfold BudgetCalc.LimitedBy BudgetCalc.SharedBy; decide +kernel⟩⟩, waiting_step⟩
theorem witness_ADemandStandsOnlyBehindItsGates :
    ∃ s t : State, s.DemandBehindGates ∧ step s = .next t :=
  ⟨waitingState, afterWaiting, by unfold State.DemandBehindGates State.RelaysWaitForOperating State.LockoutConsistent; decide +kernel, waiting_step⟩
theorem witness_TheAlarmRelaysFollowTheAlarms :
    ∃ s t : State, s.AlarmRelaysFollow ∧ step s = .next t :=
  ⟨waitingState, afterWaiting, ⟨by unfold State.RelaysWaitForOperating; decide +kernel, by unfold State.WaitsInOperating; decide +kernel,
      by decide +kernel, by decide +kernel, fun _ => ⟨.nil, by decide +kernel⟩, by decide +kernel⟩, waiting_step⟩
theorem witness_EveryConditionIsItsOwners :
    ∃ s t : State, s.PointsFollowOwners ∧ step s = .next t :=
  ⟨waitingState, afterWaiting, by unfold State.PointsFollowOwners; decide +kernel, waiting_step⟩
theorem witness_ChannelsAndTheAcStateStayInOrder :
    ∃ s t : State, s.MeasurementInOrder ∧ step s = .next t :=
  ⟨waitingState, afterWaiting, ⟨fun ch _ => by cases ch <;> exact ⟨rfl, rfl⟩, by decide +kernel⟩, waiting_step⟩
theorem witness_TheSourceViewIsCurrent :
    ∃ s t : State, s.ViewIsCurrent ∧ step s = .next t :=
  ⟨waitingState, afterWaiting, by unfold State.ViewIsCurrent; decide +kernel, waiting_step⟩
theorem witness_WiredStationsJudgeForThemselves :
    ∃ s t : State, s.ViewIsCurrent ∧ step s = .next t ∧ t.awake = true ∧ t.wired = true ∧ t.mch.ac.valid = true ∧ t.contact .xferGen = .inactive :=
  ⟨waitingState, afterWaiting, by unfold State.ViewIsCurrent; decide +kernel, waiting_step, by decide +kernel⟩
theorem witness_RetainedQuantitiesMoveOnlyByTheirRules :
    ∃ (c : Instr) (s t : State), exec c s = .next t ∧ c.isLoadEnd = false ∧ c.canLoseRam = false ∧ c.isSet = false ∧ c.isResync = false ∧ c.isRotationTick = false :=
  ⟨.overrun atOnce, awakeState, result (.overrun atOnce) awakeState, rfl, by decide +kernel⟩
theorem witness_TheStoreChangesOnlyWhereItIsWritten_1 :
    ∃ (c : Instr) (s t : State), s.StoreCanonical ∧ exec c s = .next t ∧ c.isLoadEnd = false ∧ c.isWriteEnd = false ∧ c.canReset = false :=
  ⟨.overrun atOnce, operatingState, result (.overrun atOnce) operatingState, by unfold State.StoreCanonical; decide +kernel, rfl, by decide +kernel⟩
theorem witness_TheStoreChangesOnlyWhereItIsWritten_2 :
    ∃ (w : Moment) (programmed : List (Nat × Byte)) (silent : List Nat) (s t : State), s.StoreCanonical ∧ exec (.loadEnd w programmed silent) s = .next t ∧ (5 : Nat) ∉ programmed.map (·.1) :=
  ⟨atOnce, [(4, 7)], [], loadState, result (.loadEnd atOnce [(4, 7)] []) loadState, by unfold State.StoreCanonical; decide +kernel, rfl, by decide +kernel⟩
theorem witness_TheConfigurationIsFixedBetweenStarts :
    ∃ (c : Instr) (s t : State), exec c s = .next t ∧ c.isLoadEnd = false ∧ c.canReset = false ∧ c.isHeldEnd = false :=
  ⟨.overrun atOnce, awakeState, result (.overrun atOnce) awakeState, rfl, by decide +kernel⟩
theorem witness_TheLockoutEpochNeverGoesBack :
    ∃ (c : Instr) (s t : State), exec c s = .next t ∧ s.gco.unsettled = false ∧ s.gco.epoch < 256 ∧ c.canLoseRam = false ∧ c.isLoadEnd = false :=
  ⟨.overrun atOnce, operatingState, result (.overrun atOnce) operatingState, rfl, by decide +kernel⟩
theorem witness_TheLimitRisesOnlyAtASet_1 :
    ∃ (w : Moment) (sums : PerChannel Nat) (s t : State), exec (.measurementSet w sums) s = .next t ∧ s.operating = true ∧ t.operating = true :=
  ⟨atOnce, halfSums, operatingState, result (.measurementSet atOnce halfSums) operatingState, rfl, by decide +kernel⟩
theorem witness_TheLimitRisesOnlyAtASet_2 :
    ∃ (c : Instr) (s t : State), exec c s = .next t ∧ s.operating = true ∧ t.operating = true ∧ c.isSet = false :=
  ⟨.overrun atOnce, operatingState, result (.overrun atOnce) operatingState, rfl, by decide +kernel⟩
theorem witness_OutputsAreNotDrivenBeforeOperating_1 :
    ∃ (c : Instr) (s t : State), exec c s = .next t ∧ (s.sup.entryWait.isSome = true → s.operating = true) ∧ s.sdo.live = false ∧ t.sdo.live = false ∧ c.isLoadEnd = false ∧ c.canReset = false ∧ t.sup.phase ≠ .dormant :=
  ⟨.overrun atOnce, awakeState, result (.overrun atOnce) awakeState, rfl, by decide +kernel⟩
theorem witness_OutputsAreNotDrivenBeforeOperating_2 :
    ∃ (c : Instr) (s t : State), exec c s = .next t ∧ (s.sup.entryWait.isSome = true → s.operating = true) ∧ s.sdo.live = false ∧ t.sdo.live = false ∧ c.isLoadEnd = false ∧ c.canReset = false ∧ t.sup.phase ≠ .dormant ∧ c.isSet = true ∧ s.awake = true ∧ s.mch.period.isSome = true :=
  ⟨.measurementSet atOnce halfSums, awakeState, result (.measurementSet atOnce halfSums) awakeState, rfl, by decide +kernel⟩
theorem witness_OutputsAreNotDrivenBeforeOperating_3 :
    ∃ (c : Instr) (s t : State), exec c s = .next t ∧ (s.sup.entryWait.isSome = true → s.operating = true) ∧ s.sdo.live = false ∧ t.sdo.live = false ∧ c.isLoadEnd = false ∧ c.canReset = false ∧ t.sup.phase ≠ .dormant ∧ t.rot.state ≠ s.rot.state :=
  ⟨.contactQualified atOnce .rectFail, failingState, result (.contactQualified atOnce .rectFail) failingState, rfl, by decide +kernel⟩
theorem witness_FramesAndTheSequenceGoTogether :
    ∃ (w : Moment) (s t : State), exec (.frameComplete w) s = .next t ∧ s.pli.tx = .send ∧ s.pli.dup = true :=
  ⟨atOnce, sendingState.onPli fun p => { p with dup := true }, result (.frameComplete atOnce) (sendingState.onPli fun p => { p with dup := true }), rfl, by decide +kernel⟩
theorem witness_ResetsStartAfresh_2 :
    ∃ (s : State),
      s.sup.phase ≠ .held ∧ s.sup.lowCount = 4 :=
  ⟨awakeState.onSup fun x => { x with lowCount := 4 }, (by decide +kernel), (by decide +kernel)⟩
theorem witness_ResetsStartAfresh_3 :
    ∃ (s : State),
      s.sup.phase ≠ .held :=
  ⟨awakeState, (by decide +kernel)⟩
theorem witness_ResetsStartAfresh_4 :
    ∃ (w : Moment) (s : State),
      (s.upTo w).restartDue = true :=
  ⟨atOnce, awakeState.onSup fun x => { x with restartWait := some { quietBy := none } }, (by decide +kernel)⟩
theorem witness_TheSupplyMonitorCountsAndWarns_1 :
    ∃ (s : State),
      s.sup.phase = .held :=
  ⟨State.reset, (by decide +kernel)⟩
theorem witness_TheSupplyMonitorCountsAndWarns_2 :
    ∃ (s : State),
      s.sup.phase = .held ∧ s.sup.lowCount = 4 :=
  ⟨State.reset.onSup fun x => { x with lowCount := 4 }, (by decide +kernel), (by decide +kernel)⟩
theorem witness_TheSupplyMonitorCountsAndWarns_3 :
    ∃ (s : State),
      s.Steady ∧ s.sup.lowCount ≠ 4 :=
  ⟨State.reset, (by unfold State.Steady; decide +kernel), (by decide +kernel)⟩
theorem witness_TheSupplyMonitorCountsAndWarns_4 :
    ∃ (s : State),
      s.Steady ∧ s.sup.rearmCount ≤ 1000 :=
  ⟨awakeState.onSup fun x => { x with armed := false, rearmCount := 999 }, (by unfold State.Steady; decide +kernel), (by decide +kernel)⟩
theorem witness_TheSupplyMonitorCountsAndWarns_5 :
    ∃ (s : State) (zone : SupplyZone),
      s.Steady ∧ zone ≠ .good ∧ s.sup.armed = false :=
  ⟨awakeState.onSup fun x => { x with armed := false }, .belowReset, (by unfold State.Steady; decide +kernel), (by decide +kernel), (by decide +kernel)⟩
theorem witness_TheSupplyMonitorCountsAndWarns_6 :
    ∃ (s : State) (zone : SupplyZone),
      s.Steady ∧ zone ≠ .good ∧ s.sup.armed = true :=
  ⟨awakeState, .belowWarn, (by unfold State.Steady; decide +kernel), (by decide +kernel), (by decide +kernel)⟩
theorem witness_StrapsAndLoadConfigureTheStation_1 :
    ∃ (s : State),
      s.sup.phase = .held :=
  ⟨State.reset, (by decide +kernel)⟩
theorem witness_StrapsAndLoadConfigureTheStation_2 :
    ∃ (s : State),
      s.sup.phase = .load :=
  ⟨loadState, (by decide +kernel)⟩
theorem witness_StrapsAndLoadConfigureTheStation_3 :
    ∃ (s : State),
      s.sup.phase = .load ∧ s.sup.resetKind.keepsRam = false :=
  ⟨loadState, (by decide +kernel), (by decide +kernel)⟩
theorem witness_StrapsAndLoadConfigureTheStation_4 :
    ∃ (s : State),
      s.sup.phase = .load ∧ s.sup.resetKind.keepsRam = true :=
  ⟨loadState.onSup fun x => { x with resetKind := .pin }, (by decide +kernel), (by decide +kernel)⟩
theorem witness_ListenEndsInOperatingOrCheck_1 :
    ∃ (w : Moment) (s : State),
      s.sup.phase = .listen ∧ s.sup.listenEnd ≤ (s.upTo w).now ∧ (s.sup.startCause ≠ .wakeTimer ∨ s.sup.found = true) ∧ s.pli.queue = [] ∧ s.pli.tx = .off :=
  ⟨atOnce, awakeState.onSup fun x => { x with phase := .listen }, (by decide +kernel), (by decide +kernel), (by decide +kernel), (by decide +kernel), (by decide +kernel)⟩
theorem witness_ListenEndsInOperatingOrCheck_2 :
    ∃ (w : Moment) (s : State),
      s.sup.phase = .listen ∧ s.sup.listenEnd ≤ (s.upTo w).now ∧ s.sup.startCause = .wakeTimer ∧ s.sup.found = false :=
  ⟨atOnce, awakeState.onSup fun x => { x with phase := .listen, startCause := .wakeTimer }, (by decide +kernel), (by decide +kernel), (by decide +kernel), (by decide +kernel)⟩
theorem witness_TheStationFallsAsleep_1 :
    ∃ (w : Moment) (s : State),
      s.sup.phase = .check ∧ s.Steady ∧ s.sup.checkEnd ≤ (s.upTo w).now :=
  ⟨atOnce, awakeState.onSup fun x => { x with phase := .check }, (by decide +kernel), (by unfold State.Steady; decide +kernel), (by decide +kernel)⟩
theorem witness_TheStationFallsAsleep_2 :
    ∃ (w : Moment) (s : State),
      due s.sup.entryWait (s.upTo w).now = true :=
  ⟨atOnce, operatingState.onSup fun x => { x with entryWait := some 0 }, (by decide +kernel)⟩
theorem witness_TheStationWakes_1 :
    ∃ (w : Moment) (s : State),
      s.asleep = true ∧ due s.sup.wakeAt (s.upTo w).now = true :=
  ⟨atOnce, asleepState, (by decide +kernel), (by decide +kernel)⟩
theorem witness_TheStationWakes_2 :
    ∃ (s : State),
      s.asleep = true ∧ s.settings.sup.mask.sitePort = true :=
  ⟨asleepState, (by decide +kernel), (by decide +kernel)⟩
theorem witness_TheStationWakes_3 :
    ∃ (s : State),
      s.Steady ∧ (s.asleep = false ∨ s.settings.sup.mask.sitePort = false) :=
  ⟨operatingState, (by unfold State.Steady; decide +kernel), (by decide +kernel)⟩
theorem witness_TheStationWakes_4 :
    ∃ (s : State),
      s.asleep = true ∧ s.settings.sup.mask.line = false :=
  ⟨asleepState.onSettings fun c => { c with sup := { c.sup with mask := { c.sup.mask with line := false } } }, (by decide +kernel), (by decide +kernel)⟩
theorem witness_TheStationWakes_5 :
    ∃ (s : State) (frame : List Byte),
      s.asleep = true ∧ s.canReceive = true ∧ framePasses frame = true :=
  ⟨asleepState.onPli fun p => { p with rx := .ready }, buildFrame .quiet 3 0 [1], (by decide +kernel), (by decide +kernel), (by decide +kernel)⟩
theorem witness_TheStationWakes_6 :
    ∃ (s : State) (frame : List Byte),
      s.asleep = true ∧ s.canReceive = true ∧ framePasses frame = false :=
  ⟨asleepState.onPli fun p => { p with rx := .ready }, buildFrame .quiet 0 0 [1], (by decide +kernel), (by decide +kernel), (by decide +kernel)⟩
theorem witness_ASetTakesEveryChannel_1 :
    ∃ (s : State) (sums : PerChannel Nat) (p : Nat),
      s.awake = true ∧ s.mch.period = some p ∧ s.sumsFit sums = true :=
  ⟨operatingState, halfSums, 250, (by decide +kernel), (by decide +kernel), (by decide +kernel)⟩
theorem witness_ASetCountsTheCharge_1 :
    ∃ (s : State) (sums : PerChannel Nat) (p : Nat),
      s.awake = true ∧ s.mch.period = some p ∧ s.sumsFit sums = true :=
  ⟨operatingState, halfSums, 250, (by decide +kernel), (by decide +kernel), (by decide +kernel)⟩
theorem witness_ASetCountsTheCharge_2 :
    ∃ (s : State) (sums : PerChannel Nat) (p : Nat),
      s.awake = true ∧ s.mch.period = some p ∧ s.sumsFit sums = true ∧ 1 ≤ s.settings.sac.resyncHold ∧ s.csc.stage ≠ .float :=
  ⟨operatingState.onCsc fun c => { c with stage := .bulk }, halfSums, 250, (by decide +kernel), (by decide +kernel), (by decide +kernel), (by decide +kernel), (by decide +kernel)⟩
theorem witness_ASetCountsTheCharge_3 :
    ∃ (s : State) (sums : PerChannel Nat) (p : Nat),
      s.awake = true ∧ s.mch.period = some p ∧ s.sumsFit sums = true ∧ s.csc.stage = .float :=
  ⟨operatingState.onSac fun x => { x with resyncDwell := 1799750 }, halfSums, 250, (by decide +kernel), (by decide +kernel), (by decide +kernel), (by decide +kernel)⟩
theorem witness_ASetCountsTheCharge_4 :
    ∃ (s : State) (sums : PerChannel Nat) (p : Nat),
      s.awake = true ∧ s.mch.period = some p ∧ s.sumsFit sums = true ∧ 1 ≤ s.settings.sac.resyncHold ∧ s.csc.stage = .absorb :=
  ⟨operatingState.onCsc fun c => { c with stage := .absorb, stageTimer := 28800000 }, halfSums, 250, (by decide +kernel), (by decide +kernel), (by decide +kernel), (by decide +kernel), (by decide +kernel)⟩
theorem witness_ASetMovesTheStageOneStep_1 :
    ∃ (s : State) (sums : PerChannel Nat) (p : Nat),
      s.operating = true ∧ s.mch.period = some p ∧ s.sumsFit sums = true :=
  ⟨operatingState, halfSums, 250, (by decide +kernel), (by decide +kernel), (by decide +kernel)⟩
theorem witness_ASetMovesTheStageOneStep_2 :
    ∃ (s : State) (sums : PerChannel Nat) (p : Nat),
      s.operating = true ∧ s.mch.period = some p ∧ s.sumsFit sums = true ∧ s.csc.stage ≠ .isolated ∧ s.csc.record = none ∧ s.settings.csc.lvdDwellS * 1000 ≤ s.csc.lvdDwell + p ∧ s.sdo.operation = none ∧ s.position = some .closing :=
  ⟨(operatingState.onCsc fun c => { c with lvdDwell := 60000 }), halfSums, 250, (by decide +kernel), (by decide +kernel), (by decide +kernel), (by decide +kernel), (by decide +kernel), (by decide +kernel), (by decide +kernel), (by decide +kernel)⟩
theorem witness_ASetMovesTheStageOneStep_3 :
    ∃ (s : State) (sums : PerChannel Nat) (p : Nat),
      s.operating = true ∧ s.mch.period = some p ∧ s.sumsFit sums = true ∧ s.csc.stage = .isolated ∧ s.csc.record = none ∧ s.settings.csc.reconnectDwellS * 1000 ≤ s.csc.reconnectDwell + p ∧ s.ptb.view ≠ .noSource ∧ s.sdo.operation = none ∧ s.position = some .opening :=
  ⟨((operatingState.onCsc fun c => { c with stage := .isolated, reconnectDwell := 300000 }).onMch fun m => { m with contacts := { m.contacts with ctrFb := { m.contacts.ctrFb with state := .inactive } } }), halfSums, 250, (by decide +kernel), (by decide +kernel), (by decide +kernel), (by decide +kernel), (by decide +kernel), (by decide +kernel), (by decide +kernel), (by decide +kernel), (by decide +kernel)⟩
theorem witness_TheAcCaptureFollowsItsEdges_1 :
    ∃ (s : State),
      s.Steady ∧ s.capturing = true ∧ s.mch.ac.reference = none :=
  ⟨awakeState, (by unfold State.Steady; decide +kernel), (by decide +kernel), (by decide +kernel)⟩
theorem witness_TheAcCaptureFollowsItsEdges_2 :
    ∃ (w : Moment) (s : State) (r : Nat),
      s.capturing = true ∧ s.mch.ac.reference = some r ∧ 15385 ≤ (s.upTo w).clock - r ∧ (s.upTo w).clock - r ≤ 22222 ∧ s.mch.ac.count ≤ 8 :=
  ⟨⟨20000, []⟩, awakeState.onMch fun m => { m with ac := { m.ac with reference := some 0 } }, 0, (by decide +kernel), (by decide +kernel), (by decide +kernel), (by decide +kernel), (by decide +kernel)⟩
theorem witness_TheAcCaptureFollowsItsEdges_3 :
    ∃ (w : Moment) (s : State) (r : Nat),
      s.capturing = true ∧ s.mch.ac.reference = some r ∧ ((s.upTo w).clock - r < 15385 ∨ 22222 < (s.upTo w).clock - r) :=
  ⟨⟨22223, []⟩, awakeState.onMch fun m => { m with ac := { m.ac with reference := some 0 } }, 0, (by decide +kernel), (by decide +kernel), (by decide +kernel)⟩
theorem witness_TheAcCaptureFollowsItsEdges_4 :
    ∃ (w : Moment) (s : State) (r : Nat),
      s.capturing = true ∧ s.mch.ac.reference = some r ∧ r + 40000 ≤ (s.upTo w).clock :=
  ⟨⟨40000, []⟩, awakeState.onMch fun m => { m with ac := { m.ac with reference := some 0 } }, 0, (by decide +kernel), (by decide +kernel), (by decide +kernel)⟩
theorem witness_ContactsQualifyInFiveSamples_1 :
    ∃ (s : State),
      s.Steady ∧ s.awake = true :=
  ⟨awakeState, (by unfold State.Steady; decide +kernel), (by decide +kernel)⟩
theorem witness_ContactsQualifyInFiveSamples_2 :
    ∃ (s : State) (i : Contact) (level : Bool),
      s.awake = true ∧ (contactGet s.mch.contacts i).candidate = some level ∧ (contactGet s.mch.contacts i).count = 5 :=
  ⟨awakeState.onMch fun m => { m with contacts := { m.contacts with in3 := { state := .inactive, candidate := some true, count := 5 } } }, .in3, true, (by decide +kernel), (by decide +kernel), (by decide +kernel)⟩
theorem witness_ContactsQualifyInFiveSamples_3 :
    ∃ (s : State),
      s.Steady ∧ s.awake = true ∧ s.mch.contacts.rectFail.candidate = some true ∧ s.mch.contacts.rectFail.count = 5 :=
  ⟨failingState, (by unfold State.Steady; decide +kernel), (by decide +kernel), (by decide +kernel), (by decide +kernel)⟩
theorem witness_ContactsQualifyInFiveSamples_4 :
    ∃ (s : State),
      s.Steady ∧ s.awake = true ∧ s.mch.contacts.rectFail.candidate = some false ∧ s.mch.contacts.rectFail.count = 5 :=
  ⟨(operatingState.onRot fun r => { r with state := .failed }).onMch fun m => { m with contacts := { m.contacts with rectFail := { state := .active, candidate := some false, count := 5 } } }, (by unfold State.Steady; decide +kernel), (by decide +kernel), (by decide +kernel), (by decide +kernel)⟩
theorem witness_ContactsQualifyInFiveSamples_5 :
    ∃ (s : State),
      s.RelaysWaitForOperating ∧ s.awake = true ∧ s.mch.contacts.rectAcok.candidate = some true ∧ s.mch.contacts.rectAcok.count = 5 :=
  ⟨operatingState.onMch fun m => { m with contacts := { m.contacts with rectAcok := { state := .inactive, candidate := some true, count := 5 } } }, (by unfold State.RelaysWaitForOperating; decide +kernel), (by decide +kernel), (by decide +kernel), (by decide +kernel)⟩
theorem witness_ContactsQualifyInFiveSamples_6 :
    ∃ (s : State),
      s.RelaysWaitForOperating ∧ s.awake = true ∧ s.mch.contacts.rectAcok.candidate = some false ∧ s.mch.contacts.rectAcok.count = 5 :=
  ⟨(operatingState.onRot fun r => { r with state := .run }).onMch fun m => { m with contacts := { m.contacts with rectAcok := { state := .active, candidate := some false, count := 5 } } }, (by unfold State.RelaysWaitForOperating; decide +kernel), (by decide +kernel), (by decide +kernel), (by decide +kernel)⟩
theorem witness_TheContactorIsTriedTwice_1 :
    ∃ (w : Moment) (s : State) (op : ContactorOp),
      s.Steady ∧ s.sdo.operation = some op ∧ op.pulseStart + 100 ≤ (s.upTo w).now :=
  ⟨⟨100000, []⟩, awakeState.onSdo fun x => { x with operation := some { direction := .opening, attempt := 1, pulseStart := 0, driven := true } }, { direction := .opening, attempt := 1, pulseStart := 0, driven := true }, (by unfold State.Steady; decide +kernel), (by decide +kernel), (by decide +kernel)⟩
theorem witness_TheContactorIsTriedTwice_2 :
    ∃ (w : Moment) (s : State) (op : ContactorOp),
      s.Steady ∧ s.sdo.operation = some op ∧ op.pulseStart + 500 ≤ (s.upTo w).now ∧ op.attempt = 1 :=
  ⟨⟨500000, []⟩, awakeState.onSdo fun x => { x with operation := some { direction := .opening, attempt := 1, pulseStart := 0, driven := false } }, { direction := .opening, attempt := 1, pulseStart := 0, driven := false }, (by unfold State.Steady; decide +kernel), (by decide +kernel), (by decide +kernel), (by decide +kernel)⟩
theorem witness_TheContactorIsTriedTwice_3 :
    ∃ (w : Moment) (s : State) (op : ContactorOp),
      s.Steady ∧ s.sdo.operation = some op ∧ op.pulseStart + 500 ≤ (s.upTo w).now ∧ op.attempt ≠ 1 :=
  ⟨⟨500000, []⟩, awakeState.onSdo fun x => { x with operation := some { direction := .opening, attempt := 2, pulseStart := 0, driven := false } }, { direction := .opening, attempt := 2, pulseStart := 0, driven := false }, (by unfold State.Steady; decide +kernel), (by decide +kernel), (by decide +kernel), (by decide +kernel)⟩
theorem witness_TheContactorIsTriedTwice_4 :
    ∃ (s : State) (op : ContactorOp) (level : Bool),
      s.awake = true ∧ s.sdo.operation = some op ∧ s.mch.contacts.ctrFb.candidate = some level ∧ s.mch.contacts.ctrFb.count = 5 ∧ (op.direction = if level then .closing else .opening) :=
  ⟨(awakeState.onMch fun m => { m with contacts := { m.contacts with ctrFb := { state := .active, candidate := some false, count := 5 } } }).onSdo fun x => { x with operation := some { direction := .opening, attempt := 1, pulseStart := 0, driven := true } }, { direction := .opening, attempt := 1, pulseStart := 0, driven := true }, false, (by decide +kernel), (by decide +kernel), (by decide +kernel), (by decide +kernel), (by decide +kernel)⟩
theorem witness_TheContactorIsTriedTwice_5 :
    ∃ (s : State),
      s.awake = true ∧ s.sup.phase ≠ .check ∧ s.csc.stage = .isolated ∧ s.csc.record ≠ some .closing ∧ s.sdo.operation = none ∧ s.mch.contacts.ctrFb.candidate = some true ∧ s.mch.contacts.ctrFb.count = 5 :=
  ⟨(awakeState.onCsc fun c => { c with stage := .isolated }).onMch fun m => { m with contacts := { m.contacts with ctrFb := { state := .unqualified, candidate := some true, count := 5 } } }, (by decide +kernel), (by decide +kernel), (by decide +kernel), (by decide +kernel), (by decide +kernel), (by decide +kernel), (by decide +kernel)⟩
theorem witness_AnOwnFrameRunsItsCourse_1 :
    ∃ (s : State) (x : Slot) (xs : List Slot),
      s.Steady ∧ s.pli.queue = x :: xs ∧ s.awake = true ∧ s.pli.tx = .wait ∧ s.pli.rx = .ready ∧ s.pli.courtesyPending = false ∧ s.pli.stuck = false :=
  ⟨operatingState.onPli fun p => { p with rx := .ready, tx := .wait, queue := [genSlot] }, genSlot, [], (by unfold State.Steady; decide +kernel), (by decide +kernel), (by decide +kernel), (by decide +kernel), (by decide +kernel), (by decide +kernel), (by decide +kernel)⟩
theorem witness_AnOwnFrameRunsItsCourse_2 :
    ∃ (s : State) (x : Slot) (xs : List Slot),
      s.Steady ∧ s.pli.queue = x :: xs ∧ s.pli.tx = .send ∧ s.pli.sending.isSome = true ∧ s.pli.granted = true ∧ x.kind ≠ .quiet :=
  ⟨sendingState, genSlot, [], (by unfold State.Steady; decide +kernel), (by decide +kernel), (by decide +kernel), (by decide +kernel), (by decide +kernel), (by decide +kernel)⟩
theorem witness_AnOwnFrameRunsItsCourse_3 :
    ∃ (s : State) (x : Slot) (xs : List Slot),
      s.Steady ∧ s.pli.queue = x :: xs ∧ s.pli.tx = .send ∧ s.pli.sending.isSome = true ∧ s.pli.granted = false ∧ x.kind ≠ .quiet :=
  ⟨sendingState.onPli fun p => { p with granted := false }, genSlot, [], (by unfold State.Steady; decide +kernel), (by decide +kernel), (by decide +kernel), (by decide +kernel), (by decide +kernel), (by decide +kernel)⟩
theorem witness_AnOwnFrameRunsItsCourse_4 :
    ∃ (s : State) (x : Slot) (xs : List Slot) (f : List Byte),
      s.pli.queue = x :: xs ∧ s.pli.tx = .send ∧ s.pli.sending = some f ∧ x.kind = .quiet ∧ byteAt f 3 = 1 ∧ s.sup.entryWait.isSome = true :=
  ⟨(operatingState.onPli fun p => { p with tx := .send, queue := [{ kind := .quiet, payload := [1], replaced := false }], sending := some (buildFrame .quiet 3 0 [1]) }).onSup fun x => { x with entryWait := some 1000 }, { kind := .quiet, payload := [1], replaced := false }, [], buildFrame .quiet 3 0 [1], (by decide +kernel), (by decide +kernel), (by decide +kernel), (by decide +kernel), (by decide +kernel), (by decide +kernel)⟩
theorem witness_AnOwnFrameRunsItsCourse_5 :
    ∃ (s : State) (x : Slot) (xs : List Slot) (f : List Byte),
      s.Steady ∧ s.pli.queue = x :: xs ∧ s.pli.tx = .send ∧ s.pli.sending = some f ∧ x.kind = .quiet ∧ byteAt f 3 = 2 :=
  ⟨(operatingState.onPli fun p => { p with tx := .send, queue := [{ kind := .quiet, payload := [2], replaced := false }], sending := some (buildFrame .quiet 3 0 [2]) }), { kind := .quiet, payload := [2], replaced := false }, [], buildFrame .quiet 3 0 [2], (by unfold State.Steady; decide +kernel), (by decide +kernel), (by decide +kernel), (by decide +kernel), (by decide +kernel), (by decide +kernel)⟩
theorem witness_AnOwnFrameRunsItsCourse_6 :
    ∃ (s : State),
      s.Steady ∧ s.pli.tx = .send ∧ s.awake = true :=
  ⟨sendingState, (by unfold State.Steady; decide +kernel), (by decide +kernel), (by decide +kernel)⟩
theorem witness_AnOwnFrameRunsItsCourse_7 :
    ∃ (s : State),
      s.Steady ∧ s.pli.tx = .send :=
  ⟨sendingState, (by unfold State.Steady; decide +kernel), (by decide +kernel)⟩
theorem witness_TheReceiverCountsItsFaults_1 :
    ∃ (s : State),
      s.Steady ∧ s.awake = true ∧ s.canReceive = true :=
  ⟨operatingState.onPli fun p => { p with rx := .ready }, (by unfold State.Steady; decide +kernel), (by decide +kernel), (by decide +kernel)⟩
theorem witness_TheReceiverCountsItsFaults_2 :
    ∃ (s : State),
      s.asleep = true ∧ s.canReceive = true :=
  ⟨asleepState.onPli fun p => { p with rx := .ready }, (by decide +kernel), (by decide +kernel)⟩
theorem witness_TheReceiverCountsItsFaults_3 :
    ∃ (s : State),
      s.Steady ∧ s.receiving = true :=
  ⟨operatingState, (by unfold State.Steady; decide +kernel), (by decide +kernel)⟩
theorem witness_TheReceiverCountsItsFaults_4 :
    ∃ (s : State),
      s.Steady ∧ s.receiving = true :=
  ⟨operatingState, (by unfold State.Steady; decide +kernel), (by decide +kernel)⟩
theorem witness_TheReceiverCountsItsFaults_5 :
    ∃ (w : Moment) (s : State) (x : Nat) (xs : List Nat),
      s.Steady ∧ s.pli.window = x :: xs ∧ x + 60000 ≤ (s.upTo w).now :=
  ⟨⟨60000000, []⟩, operatingState.onPli fun p => { p with window := [0] }, 0, [], (by unfold State.Steady; decide +kernel), (by decide +kernel), (by decide +kernel)⟩
theorem witness_TheReceiverCountsItsFaults_6 :
    ∃ (w : Moment) (s : State) (x : Nat),
      s.Steady ∧ s.pli.belowSince = some x ∧ x + 60000 ≤ (s.upTo w).now ∧ s.pli.rateFault = true :=
  ⟨⟨60000000, []⟩, operatingState.onPli fun p => { p with rateFault := true, belowSince := some 0 }, 0, (by unfold State.Steady; decide +kernel), (by decide +kernel), (by decide +kernel), (by decide +kernel)⟩
theorem witness_TheReceiverCountsItsFaults_7 :
    ∃ (s : State),
      s.Steady ∧ s.receiving = true ∧ s.pli.rx = .hunt ∧ s.pli.tx ≠ .send :=
  ⟨operatingState, (by unfold State.Steady; decide +kernel), (by decide +kernel), (by decide +kernel), (by decide +kernel)⟩
theorem witness_TheReceiverCountsItsFaults_8 :
    ∃ (s : State),
      s.Steady ∧ s.awake = true :=
  ⟨operatingState.onPli fun p => { p with courtesyPending := true }, (by unfold State.Steady; decide +kernel), (by decide +kernel)⟩
theorem witness_NotesAreTakenIntoTheirRecords_1 :
    ∃ (s : State) (c : Instr) (kind : NoteKind) (n : Nat) (seq : Nat),
      wellFormed c = true ∧ c.note = some (kind, n, seq) ∧ (s.upTo c.moment).HasRoomFor n :=
  ⟨operatingState.onPli fun p => { p with rx := .ready }, .genNote ⟨0, []⟩ 2 7 1 4, .gen, 2, 7, (by decide +kernel), (by decide +kernel), (by unfold State.HasRoomFor; decide +kernel)⟩
theorem witness_NotesAreTakenIntoTheirRecords_2 :
    ∃ (s : State) (c : Instr) (kind : NoteKind) (n : Nat) (seq : Nat),
      wellFormed c = true ∧ c.note = some (kind, n, seq) ∧ s.awake = true ∧ s.canReceive = true ∧ n ≠ s.sup.number ∧ findPeer s.ptb.peers n = none ∧ 14 ≤ s.ptb.peers.length ∧ (∀ p ∈ s.ptb.peers, p.state ≠ .lost) ∧ s.sup.phase ≠ .check :=
  ⟨(operatingState.onPli fun p => { p with rx := .ready }).onPtb fun p => { p with peers := [1, 2, 4, 5, 6, 7, 8, 9, 10, 11, 12, 13, 14, 0].map PeerRecord.blank }, .genNote ⟨0, []⟩ 15 7 1 4, .gen, 15, 7, (by decide +kernel), (by decide +kernel), (by decide +kernel), (by decide +kernel), (by decide +kernel), (by decide +kernel), (by decide +kernel), (by decide +kernel), (by decide +kernel)⟩
theorem witness_NotesAreTakenIntoTheirRecords_3 :
    ∃ (s : State) (c : Instr) (kind : NoteKind) (n : Nat) (seq : Nat) (v : PeerRecord),
      wellFormed c = true ∧ c.note = some (kind, n, seq) ∧ s.awake = true ∧ s.canReceive = true ∧ n ≠ s.sup.number ∧ findPeer s.ptb.peers n = none ∧ 14 ≤ s.ptb.peers.length ∧ (s.ptb.peers.map (·.station)).Pairwise (· < ·) ∧ v ∈ s.ptb.peers ∧ v.state = .lost ∧ (∀ p ∈ s.ptb.peers, p.state = .lost → p = v ∨ v.lastHeard < p.lastHeard) :=
  ⟨(operatingState.onPli fun p => { p with rx := .ready }).onPtb fun p => { p with peers := [1, 2, 4, 5, 6, 7, 8, 9, 10, 11, 12, 13, 14, 16].map fun n => { PeerRecord.blank n with state := if n = 5 then .lost else .fresh } }, .genNote ⟨0, []⟩ 15 7 1 4, .gen, 15, 7, { PeerRecord.blank 5 with state := .lost }, (by decide +kernel), (by decide +kernel), (by decide +kernel), (by decide +kernel), (by decide +kernel), (by decide +kernel), (by decide +kernel), (by decide +kernel), (by decide +kernel), (by decide +kernel), (by decide +kernel)⟩
theorem witness_NotesAreTakenIntoTheirRecords_4 :
    ∃ (s : State) (c : Instr) (kind : NoteKind) (n : Nat) (seq : Nat),
      wellFormed c = true ∧ c.note = some (kind, n, seq) ∧ s.Steady ∧ s.awake = true ∧ s.canReceive = true ∧ n = s.sup.number :=
  ⟨operatingState.onPli fun p => { p with rx := .ready }, .genNote ⟨0, []⟩ 3 7 1 4, .gen, 3, 7, (by decide +kernel), (by decide +kernel), (by unfold State.Steady; decide +kernel), (by decide +kernel), (by decide +kernel), (by decide +kernel)⟩
theorem witness_NotesAreTakenIntoTheirRecords_5 :
    ∃ (s : State) (c : Instr) (kind : NoteKind) (n : Nat) (seq : Nat),
      wellFormed c = true ∧ c.note = some (kind, n, seq) ∧ s.asleep = true ∧ s.canReceive = true :=
  ⟨asleepState.onPli fun p => { p with rx := .ready }, .genNote ⟨0, []⟩ 3 7 1 4, .gen, 3, 7, (by decide +kernel), (by decide +kernel), (by decide +kernel), (by decide +kernel)⟩
theorem witness_NotesAreTakenIntoTheirRecords_6 :
    ∃ (s : State) (c : Instr) (kind : NoteKind) (n : Nat) (seq : Nat),
      wellFormed c = true ∧ c.note = some (kind, n, seq) ∧ s.Steady ∧ s.canReceive = false :=
  ⟨operatingState, .genNote ⟨0, []⟩ 2 7 1 4, .gen, 2, 7, (by decide +kernel), (by decide +kernel), (by unfold State.Steady; decide +kernel), (by decide +kernel)⟩
theorem witness_NotesFillTheirRecords_1 :
    ∃ (w : Moment) (s : State) (st : BitVec 4) (payload : List Byte) (x : StatusContent),
      (s.upTo w).HasRoomFor st.toNat ∧ payload.length = 26 ∧ decodeStatus payload = some x :=
  ⟨atOnce, operatingState.onPli fun p => { p with rx := .ready }, 2, goodStatus, (decodeStatus goodStatus).get (by decide), (by unfold State.HasRoomFor; decide +kernel), (by decide +kernel), (by decide +kernel)⟩
theorem witness_NotesFillTheirRecords_2 :
    ∃ (w : Moment) (s : State) (st : BitVec 4) (payload : List Byte),
      (s.upTo w).HasRoomFor st.toNat ∧ payload.length = 26 ∧ decodeStatus payload = none :=
  ⟨atOnce, operatingState.onPli fun p => { p with rx := .ready }, 2, goodStatus.set 3 8, (by unfold State.HasRoomFor; decide +kernel), (by decide +kernel), (by decide +kernel)⟩
theorem witness_NotesFillTheirRecords_3 :
    ∃ (w : Moment) (s : State) (st : BitVec 4),
      (s.upTo w).HasRoomFor st.toNat :=
  ⟨atOnce, operatingState.onPli fun p => { p with rx := .ready }, 2, (by unfold State.HasRoomFor; decide +kernel)⟩
theorem witness_NotesFillTheirRecords_4 :
    ∃ (w : Moment) (s : State) (st : BitVec 4),
      (s.upTo w).HasRoomFor st.toNat :=
  ⟨atOnce, operatingState.onPli fun p => { p with rx := .ready }, 2, (by unfold State.HasRoomFor; decide +kernel)⟩
theorem witness_NotesFillTheirRecords_5 :
    ∃ (w : Moment) (s : State) (st : BitVec 4),
      (s.upTo w).HasRoomFor st.toNat :=
  ⟨atOnce, operatingState.onPli fun p => { p with rx := .ready }, 2, (by unfold State.HasRoomFor; decide +kernel)⟩
theorem witness_NotesFillTheirRecords_6 :
    ∃ (w : Moment) (s : State) (st : BitVec 4) (pairs : List (Byte × Byte)),
      (s.upTo w).HasRoomFor st.toNat ∧ pairs.length ≤ 16 :=
  ⟨atOnce, operatingState.onPli fun p => { p with rx := .ready }, 2, [(3, 1), (3, 0), (70, 1)], (by unfold State.HasRoomFor; decide +kernel), (by decide +kernel)⟩
theorem witness_NotesFillTheirRecords_7 :
    ∃ (w : Moment) (s : State) (st : BitVec 4) (pairs : List (Byte × Byte)),
      (s.upTo w).HasRoomFor st.toNat ∧ pairs.length ≤ 16 ∧ s.alu.running = true ∧ s.alu.subValues.length = s.settings.alu.subs.length :=
  ⟨atOnce, operatingState.onPli fun p => { p with rx := .ready }, 2, [(3, 1)], (by unfold State.HasRoomFor; decide +kernel), (by decide +kernel), (by decide +kernel), (by decide +kernel)⟩
theorem witness_NotesFillTheirRecords_8 :
    ∃ (w : Moment) (s : State) (st : BitVec 4),
      (s.upTo w).HasRoomFor st.toNat :=
  ⟨atOnce, operatingState.onPli fun p => { p with rx := .ready }, 2, (by unfold State.HasRoomFor; decide +kernel)⟩
theorem witness_NotesFillTheirRecords_9 :
    ∃ (w : Moment) (s : State) (st : BitVec 4),
      (s.upTo w).HasRoomFor st.toNat :=
  ⟨atOnce, operatingState.onPli fun p => { p with rx := .ready }, 2, (by unfold State.HasRoomFor; decide +kernel)⟩
theorem witness_ANewerLockoutIsAdopted_1 :
    ∃ (w : Moment) (s : State) (st : BitVec 4) (event : Byte),
      (s.upTo w).HasRoomFor st.toNat ∧ s.sup.phase ≠ .check ∧ s.gco.epoch < 256 ∧ (event = 1 ∨ event = 2) :=
  ⟨atOnce, operatingState.onPli fun p => { p with rx := .ready }, 2, 1, (by unfold State.HasRoomFor; decide +kernel), (by decide +kernel), (by decide +kernel), (by decide +kernel)⟩
theorem witness_ANewerLockoutIsAdopted_2 :
    ∃ (w : Moment) (s : State) (st : BitVec 4) (event : Byte),
      (s.upTo w).HasRoomFor st.toNat ∧ event ≠ 1 ∧ event ≠ 2 :=
  ⟨atOnce, operatingState.onPli fun p => { p with rx := .ready }, 2, 3, (by unfold State.HasRoomFor; decide +kernel), (by decide +kernel), (by decide +kernel)⟩
theorem witness_ANewerLockoutIsAdopted_3 :
    ∃ (w : Moment) (s : State) (st : BitVec 4) (payload : List Byte) (x : StatusContent),
      (s.upTo w).HasRoomFor st.toNat ∧ s.sup.phase ≠ .check ∧ s.gco.epoch < 256 ∧ payload.length = 26 ∧ decodeStatus payload = some x ∧ x.lock ≠ .unsettled :=
  ⟨atOnce, operatingState.onPli fun p => { p with rx := .ready }, 2, goodStatus, (decodeStatus goodStatus).get (by decide), (by unfold State.HasRoomFor; decide +kernel), (by decide +kernel), (by decide +kernel), (by decide +kernel), (by decide +kernel), (by decide +kernel)⟩
theorem witness_ANewerLockoutIsAdopted_4 :
    ∃ (w : Moment) (s : State) (st : BitVec 4) (payload : List Byte) (x : StatusContent),
      (s.upTo w).HasRoomFor st.toNat ∧ payload.length = 26 ∧ decodeStatus payload = some x ∧ x.lock = .unsettled :=
  ⟨atOnce, operatingState.onPli fun p => { p with rx := .ready }, 2, goodStatus.set 5 2, (decodeStatus (goodStatus.set 5 2)).get (by decide), (by unfold State.HasRoomFor; decide +kernel), (by decide +kernel), (by decide +kernel), (by decide +kernel)⟩
theorem witness_StatusAndPointsAreSentOnTime_1 :
    ∃ (w : Moment) (s : State),
      s.Steady ∧ s.pli.granted = true ∧ due s.pli.statusDue (s.upTo w).now = true :=
  ⟨atOnce, operatingState.onPli fun p => { p with statusDue := some 0 }, (by unfold State.Steady; decide +kernel), (by decide +kernel), (by decide +kernel)⟩
theorem witness_StatusAndPointsAreSentOnTime_2 :
    ∃ (w : Moment) (s : State),
      s.Steady ∧ s.pli.granted = true ∧ due s.pli.spacingEnd (s.upTo w).now = true ∧ s.pli.deferred = true :=
  ⟨atOnce, operatingState.onPli fun p => { p with spacingEnd := some 0, deferred := true }, (by unfold State.Steady; decide +kernel), (by decide +kernel), (by decide +kernel), (by decide +kernel)⟩
theorem witness_StatusAndPointsAreSentOnTime_3 :
    ∃ (w : Moment) (s : State),
      s.Steady ∧ due s.pli.spacingEnd (s.upTo w).now = true ∧ s.pli.deferred = false :=
  ⟨atOnce, operatingState.onPli fun p => { p with spacingEnd := some 0 }, (by unfold State.Steady; decide +kernel), (by decide +kernel), (by decide +kernel)⟩
theorem witness_StatusAndPointsAreSentOnTime_4 :
    ∃ (w : Moment) (s : State),
      s.Steady ∧ s.pli.granted = true ∧ due s.alu.pointTimerAt (s.upTo w).now = true :=
  ⟨atOnce, operatingState.onAlu fun a => { a with pointTimerAt := some 0 }, (by unfold State.Steady; decide +kernel), (by decide +kernel), (by decide +kernel)⟩
theorem witness_RecordsAgeAndIntentsExpire_1 :
    ∃ (s : State),
      s.awake = true :=
  ⟨operatingState, (by decide +kernel)⟩
theorem witness_RecordsAgeAndIntentsExpire_2 :
    ∃ (w : Moment) (s : State) (st : BitVec 4) (p : PeerRecord) (i : Intent),
      s.Steady ∧ s.awake = true ∧ findPeer s.ptb.peers st.toNat = some p ∧ p.intent = some i ∧ i.arrival + 8000 ≤ (s.upTo w).now ∧ (s.ptb.peers.map (·.station)).Pairwise (· < ·) :=
  ⟨⟨8000000, []⟩, operatingState.onPtb fun x => { x with peers := [{ PeerRecord.blank 2 with intent := some { kind := .rest, runHours := 3, arrival := 0, detail := 0 } }] }, 2, { PeerRecord.blank 2 with intent := some { kind := .rest, runHours := 3, arrival := 0, detail := 0 } }, { kind := .rest, runHours := 3, arrival := 0, detail := 0 }, (by unfold State.Steady; decide +kernel), (by decide +kernel), (by decide +kernel), (by decide +kernel), (by decide +kernel), (by decide +kernel)⟩
theorem witness_TheRotationTickCountsAndDecides_1 :
    ∃ (s : State),
      s.Steady ∧ s.awake = true ∧ (s.rot.state = .run ∨ s.rot.state = .restPending ∨ s.rot.state = .forcedRun) :=
  ⟨operatingState.onRot fun r => { r with state := .run }, (by unfold State.Steady; decide +kernel), (by decide +kernel), (by decide +kernel)⟩
theorem witness_TheRotationTickCountsAndDecides_2 :
    ∃ (s : State),
      s.Steady ∧ s.awake = true ∧ s.rot.state ≠ .run ∧ s.rot.state ≠ .restPending ∧ s.rot.state ≠ .forcedRun :=
  ⟨operatingState.onRot fun r => { r with state := .failed }, (by unfold State.Steady; decide +kernel), (by decide +kernel), (by decide +kernel), (by decide +kernel), (by decide +kernel)⟩
theorem witness_TheRotationTickCountsAndDecides_3 :
    ∃ (w : Moment) (s : State),
      s.operating = true ∧ s.ptb.view = .mains ∧ s.rot.state = .run ∧ s.rot.entryAt + s.settings.rot.runHold * 60000 ≤ (s.upTo w).now ∧ s.sup.configFault = false ∧ s.pli.tx ≠ .off ∧ ((s.upTo w).onRot rectCount).nreq ≤ ((s.upTo w).onRot rectCount).runningForRest :=
  ⟨⟨600000000, []⟩, restReadyState, (by decide +kernel), (by decide +kernel), (by decide +kernel), (by decide +kernel), (by decide +kernel), (by decide +kernel), (by decide +kernel)⟩
theorem witness_TheRotationTickCountsAndDecides_4 :
    ∃ (w : Moment) (s : State),
      s.operating = true ∧ s.ptb.view = .mains ∧ s.rot.state = .run ∧ ((s.upTo w).now < s.rot.entryAt + s.settings.rot.runHold * 60000 ∨ s.sup.configFault = true ∨ s.pli.tx = .off ∨ ((s.upTo w).onRot rectCount).runningForRest < ((s.upTo w).onRot rectCount).nreq) :=
  ⟨atOnce, operatingState.onRot fun r => { r with state := .run }, (by decide +kernel), (by decide +kernel), (by decide +kernel), (by decide +kernel)⟩
theorem witness_TheRotationTickCountsAndDecides_5 :
    ∃ (w : Moment) (s : State),
      s.operating = true ∧ s.ptb.view = .mains ∧ s.rot.state = .resting ∧ (s.upTo w).runningForWake < (s.upTo w).nreq ∧ (s.upTo w).bestWakeRank = true :=
  ⟨atOnce, operatingState.onRot fun r => { r with state := .resting }, (by decide +kernel), (by decide +kernel), (by decide +kernel), (by decide +kernel), (by decide +kernel)⟩
theorem witness_TheRotationTickCountsAndDecides_6 :
    ∃ (w : Moment) (s : State),
      s.operating = true ∧ s.ptb.view = .mains ∧ s.rot.state = .resting ∧ ((s.upTo w).nreq ≤ (s.upTo w).runningForWake ∨ (s.upTo w).bestWakeRank = false) ∧ (s.rot.swapClock < 3599 ∨ (s.upTo w).now < s.rot.entryAt + s.settings.rot.restHold * 60000 ∨ (s.upTo w).bestWakeRank = false ∨ (∀ x, (s.upTo w).highestRunning = some x → x < s.ownHours + s.settings.rot.swapGapH)) :=
  ⟨atOnce, restReadyState.onRot fun r => { r with state := .resting }, (by decide +kernel), (by decide +kernel), (by decide +kernel), (by decide +kernel), (by decide +kernel)⟩
theorem witness_TheRotationTickCountsAndDecides_7 :
    ∃ (w : Moment) (s : State) (x : Nat),
      s.operating = true ∧ s.ptb.view = .mains ∧ s.rot.state = .resting ∧ (s.upTo w).nreq ≤ (s.upTo w).runningForWake ∧ 3599 ≤ s.rot.swapClock ∧ s.rot.entryAt + s.settings.rot.restHold * 60000 ≤ (s.upTo w).now ∧ (s.upTo w).bestWakeRank = true ∧ (s.upTo w).highestRunning = some x ∧ s.ownHours + s.settings.rot.swapGapH ≤ x :=
  ⟨⟨600000000, []⟩, (restReadyState.onRot fun r => { r with state := .resting, swapClock := 3599 }).onSettings fun c => { c with rot := { c.rot with swapGapH := 0 } }, 0, (by decide +kernel), (by decide +kernel), (by decide +kernel), (by decide +kernel), (by decide +kernel), (by decide +kernel), (by decide +kernel), (by decide +kernel), (by decide +kernel)⟩
theorem witness_TheRotationTickCountsAndDecides_8 :
    ∃ (s : State),
      s.operating = true ∧ s.ptb.view ≠ .mains :=
  ⟨operatingState.onPtb fun p => { p with view := .gen }, (by decide +kernel), (by decide +kernel)⟩
theorem witness_TheRotationTickCountsAndDecides_9 :
    ∃ (w : Moment) (s : State) (n : Nat),
      s.Steady ∧ s.rot.state = .softStart ∧ s.rot.ramp = some n ∧ s.rot.entryAt + 1000 * (n + 1) ≤ (s.upTo w).now ∧ n < 9 :=
  ⟨⟨4000000, []⟩, operatingState.onRot fun r => { r with state := .softStart, ramp := some 3 }, 3, (by unfold State.Steady; decide +kernel), (by decide +kernel), (by decide +kernel), (by decide +kernel), (by decide +kernel)⟩
theorem witness_TheRotationTickCountsAndDecides_10 :
    ∃ (w : Moment) (s : State),
      s.Steady ∧ s.rot.state = .softStart ∧ s.rot.ramp = some 9 ∧ s.rot.entryAt + 10000 ≤ (s.upTo w).now :=
  ⟨⟨10000000, []⟩, operatingState.onRot fun r => { r with state := .softStart, ramp := some 9 }, (by unfold State.Steady; decide +kernel), (by decide +kernel), (by decide +kernel), (by decide +kernel)⟩
theorem witness_TheRotationTickCountsAndDecides_11 :
    ∃ (w : Moment) (s : State) (f : Nat),
      s.Steady ∧ s.rot.state = .failed ∧ s.rot.failSince = some f ∧ f + 30000 ≤ (s.upTo w).now :=
  ⟨⟨30000000, []⟩, operatingState.onRot fun r => { r with state := .failed, failSince := some 0 }, 0, (by unfold State.Steady; decide +kernel), (by decide +kernel), (by decide +kernel), (by decide +kernel)⟩
theorem witness_RestingIsDecidedAtTheSettle_1 :
    ∃ (w : Moment) (s : State),
      s.Steady ∧ s.rot.state = .restPending ∧ due s.rot.settleAt (s.upTo w).now = true ∧ s.ptb.view = .mains ∧ (s.upTo w).nreq ≤ (s.upTo w).runningForRest :=
  ⟨atOnce, restReadyState.onRot fun r => { r with state := .restPending, settleAt := some 0 }, (by unfold State.Steady; decide +kernel), (by decide +kernel), (by decide +kernel), (by decide +kernel), (by decide +kernel)⟩
theorem witness_RestingIsDecidedAtTheSettle_2 :
    ∃ (w : Moment) (s : State),
      s.Steady ∧ s.rot.state = .restPending ∧ due s.rot.settleAt (s.upTo w).now = true ∧ (s.ptb.view ≠ .mains ∨ (s.upTo w).runningForRest < (s.upTo w).nreq) :=
  ⟨atOnce, operatingState.onRot fun r => { r with state := .restPending, settleAt := some 0 }, (by unfold State.Steady; decide +kernel), (by decide +kernel), (by decide +kernel), (by decide +kernel)⟩
theorem witness_RestingIsDecidedAtTheSettle_3 :
    ∃ (c : Instr) (s t : State), exec c s = .next t ∧ s.rot.state ≠ .resting ∧ t.rot.state = .resting :=
  ⟨.settleExpiry atOnce, restReadyState.onRot fun r => { r with state := .restPending, settleAt := some 0 }, result (.settleExpiry atOnce) (restReadyState.onRot fun r => { r with state := .restPending, settleAt := some 0 }), rfl, by decide +kernel⟩
theorem witness_TheGeneratorIsRaisedReleasedAndCutOff_1 :
    ∃ (s : State),
      s.Steady ∧ s.awake = true ∧ s.gco.state ≠ .demandRun :=
  ⟨operatingState, (by unfold State.Steady; decide +kernel), (by decide +kernel), (by decide +kernel)⟩
theorem witness_TheGeneratorIsRaisedReleasedAndCutOff_2 :
    ∃ (s : State) (v : Int),
      (s.gco.state = .idle ∨ s.gco.state = .runRest) ∧ 29 ≤ s.gco.busDwell ∧ s.busV = some v ∧ v ≤ s.settings.gco.startMV ∧ s.gatesHold = true :=
  ⟨lowBusState.onGco fun g => { g with busDwell := 29 }, 42000, (by decide +kernel), (by decide +kernel), (by decide +kernel), (by decide +kernel), (by decide +kernel)⟩
theorem witness_TheGeneratorIsRaisedReleasedAndCutOff_3 :
    ∃ (s : State),
      s.gco.state = .idle ∧ s.gco.busDwell < 29 ∧ 59 ≤ s.gco.ownDwell ∧ s.ptb.view = .noSource ∧ s.sac.soc ≤ s.settings.gco.startSoc ∧ s.gatesHold = true :=
  ⟨((operatingState.onGco fun g => { g with ownDwell := 59 }).onSac fun x => { x with soc := 100 }).onPtb fun p => { p with view := .noSource }, (by decide +kernel), (by decide +kernel), (by decide +kernel), (by decide +kernel), (by decide +kernel), (by decide +kernel)⟩
theorem witness_TheGeneratorIsRaisedReleasedAndCutOff_4 :
    ∃ (s : State),
      s.gco.state = .idle ∧ s.gco.busDwell < 29 ∧ s.gco.ownDwell < 59 ∧ 59 ≤ s.gco.plantDwell ∧ s.ptb.view = .noSource ∧ s.plantSoc ≤ s.settings.gco.plantStartSoc ∧ s.gatesHold = true :=
  ⟨((operatingState.onGco fun g => { g with plantDwell := 59 }).onSac fun x => { x with soc := 100 }).onPtb fun p => { p with view := .noSource }, (by decide +kernel), (by decide +kernel), (by decide +kernel), (by decide +kernel), (by decide +kernel), (by decide +kernel), (by decide +kernel)⟩
theorem witness_TheGeneratorIsRaisedReleasedAndCutOff_5 :
    ∃ (w : Moment) (s : State),
      s.gco.state = .idle ∧ s.gco.busDwell < 29 ∧ s.gco.ownDwell < 59 ∧ s.gco.plantDwell < 59 ∧ s.settings.gco.exerciseIntervalH ≠ 0 ∧ s.settings.gco.exerciseIntervalH * 60 ≤ ((s.upTo w).onGco (gcoCount s.ptb.genRunning)).gco.exMinutes ∧ s.exerciseLeader = true ∧ (s.ptb.view = .mains ∨ s.ptb.view = .noSource) ∧ s.gatesHold = true :=
  ⟨atOnce, (operatingState.onGco fun g => { g with exMinutes := 65000 }).onSettings fun c => { c with gco := { c.gco with exerciseIntervalH := 168 } }, (by decide +kernel), (by decide +kernel), (by decide +kernel), (by decide +kernel), (by decide +kernel), (by decide +kernel), (by decide +kernel), (by decide +kernel), (by decide +kernel)⟩
theorem witness_TheGeneratorIsRaisedReleasedAndCutOff_6 :
    ∃ (s : State) (d : Demand),
      s.Steady ∧ s.awake = true ∧ s.wired = true ∧ s.ptb.view = s.viewNow ∧ s.ptb.genRunning = false ∧ s.contact .genRunFb ≠ .active ∧ s.mch.contacts.genRunFb.candidate = some true ∧ s.mch.contacts.genRunFb.count = 5 ∧ s.gco.state = .demandWait ∧ s.gco.demand = some d :=
  ⟨(operatingState.onGco fun g => { g with state := .demandWait, startAt := some 9000, demand := some { reason := .ownSoc, raisedAt := 0, confirmedAt := none, testEnd := none } }).onMch fun m => { m with contacts := { m.contacts with genRunFb := { state := .inactive, candidate := some true, count := 5 } } }, { reason := .ownSoc, raisedAt := 0, confirmedAt := none, testEnd := none }, (by unfold State.Steady; decide +kernel), (by decide +kernel), (by decide +kernel), (by decide +kernel), (by decide +kernel), (by decide +kernel), (by decide +kernel), (by decide +kernel), (by decide +kernel), (by decide +kernel)⟩
theorem witness_TheGeneratorIsRaisedReleasedAndCutOff_7 :
    ∃ (s : State) (d : Demand),
      s.awake = true ∧ s.sup.phase ≠ .check ∧ s.wired = true ∧ s.mch.ac.valid = true ∧ s.ptb.view ≠ .mains ∧ s.ptb.genRunning = s.runningNow ∧ s.mch.contacts.xferGen.candidate = some false ∧ s.mch.contacts.xferGen.count = 5 ∧ (s.gco.state = .demandWait ∨ s.gco.state = .demandRun) ∧ s.gco.demand = some d :=
  ⟨((operatingState.onGco fun g => { g with state := .demandRun, demand := some { reason := .ownSoc, raisedAt := 0, confirmedAt := some 0, testEnd := none } }).onMch fun m => { m with contacts := { m.contacts with xferGen := { state := .active, candidate := some false, count := 5 } } }).onPtb fun p => { p with view := .gen }, { reason := .ownSoc, raisedAt := 0, confirmedAt := some 0, testEnd := none }, (by decide +kernel), (by decide +kernel), (by decide +kernel), (by decide +kernel), (by decide +kernel), (by decide +kernel), (by decide +kernel), (by decide +kernel), (by decide +kernel), (by decide +kernel)⟩
theorem witness_TheGeneratorIsRaisedReleasedAndCutOff_8 :
    ∃ (s : State) (v : Int),
      s.operating = true ∧ s.gco.state = .idle ∧ s.gco.busDwell < 29 ∧ s.gco.ownDwell < 59 ∧ s.gco.plantDwell < 59 ∧ s.busV = some v ∧ v ≤ s.settings.gco.startMV ∧ s.ptb.view = .gen :=
  ⟨lowBusState, 42000, (by decide +kernel), (by decide +kernel), (by decide +kernel), (by decide +kernel), (by decide +kernel), (by decide +kernel), (by decide +kernel), (by decide +kernel)⟩
theorem witness_TheGeneratorIsRaisedReleasedAndCutOff_9 :
    ∃ (w : Moment) (s : State) (d : Demand) (c : Nat),
      s.operating = true ∧ s.gco.state = .demandRun ∧ s.gco.demand = some d ∧ d.confirmedAt = some c ∧ c + s.settings.gco.maxRun * 60000 ≤ (s.upTo w).now :=
  ⟨⟨28800000000, []⟩, operatingState.onGco fun g => { g with state := .demandRun, demand := some { reason := .ownSoc, raisedAt := 0, confirmedAt := some 0, testEnd := none } }, { reason := .ownSoc, raisedAt := 0, confirmedAt := some 0, testEnd := none }, 0, (by decide +kernel), (by decide +kernel), (by decide +kernel), (by decide +kernel), (by decide +kernel)⟩
theorem witness_TheGeneratorIsRaisedReleasedAndCutOff_10 :
    ∃ (w : Moment) (s : State) (d : Demand) (c : Nat),
      s.operating = true ∧ s.gco.state = .demandRun ∧ s.gco.demand = some d ∧ d.confirmedAt = some c ∧ (s.upTo w).now < c + s.settings.gco.maxRun * 60000 ∧ (((d.reason = .ownSoc ∨ d.reason = .busLow) ∧ (s.csc.stage = .float ∨ s.settings.gco.stopSoc ≤ s.sac.soc) ∧ c + s.settings.gco.minRun * 60000 ≤ (s.upTo w).now) ∨ (d.reason = .plantSoc ∧ s.settings.gco.stopSoc ≤ s.plantSoc ∧ c + s.settings.gco.minRun * 60000 ≤ (s.upTo w).now) ∨ (d.reason = .exercise ∧ c + s.settings.gco.exerciseDuration * 60000 ≤ (s.upTo w).now) ∨ (d.reason = .test ∧ due d.testEnd (s.upTo w).now = true)) :=
  ⟨⟨3600000000, []⟩, (operatingState.onGco fun g => { g with state := .demandRun, demand := some { reason := .ownSoc, raisedAt := 0, confirmedAt := some 0, testEnd := none } }).onCsc fun c => { c with stage := .float }, { reason := .ownSoc, raisedAt := 0, confirmedAt := some 0, testEnd := none }, 0, (by decide +kernel), (by decide +kernel), (by decide +kernel), (by decide +kernel), (by decide +kernel), (by decide +kernel)⟩
theorem witness_TheGeneratorIsRaisedReleasedAndCutOff_11 :
    ∃ (w : Moment) (s : State) (d : Demand) (c : Nat),
      s.operating = true ∧ s.gco.state = .demandRun ∧ s.gco.demand = some d ∧ d.confirmedAt = some c ∧ (s.upTo w).now < c + s.settings.gco.maxRun * 60000 ∧ (s.upTo w).now < c + s.settings.gco.minRun * 60000 ∧ (s.upTo w).now < c + s.settings.gco.exerciseDuration * 60000 ∧ (d.reason ≠ .test ∨ due d.testEnd (s.upTo w).now = false) :=
  ⟨atOnce, operatingState.onGco fun g => { g with state := .demandRun, demand := some { reason := .ownSoc, raisedAt := 0, confirmedAt := some 0, testEnd := none } }, { reason := .ownSoc, raisedAt := 0, confirmedAt := some 0, testEnd := none }, 0, (by decide +kernel), (by decide +kernel), (by decide +kernel), (by decide +kernel), (by decide +kernel), (by decide +kernel), (by decide +kernel), (by decide +kernel)⟩
theorem witness_AFailedStartLocksTheGenerator_1 :
    ∃ (w : Moment) (s : State) (d : Demand),
      s.Steady ∧ s.gco.state = .demandWait ∧ s.gco.demand = some d ∧ due s.gco.startAt (s.upTo w).now = true :=
  ⟨atOnce, operatingState.onGco fun g => { g with state := .demandWait, startAt := some 0, demand := some { reason := .ownSoc, raisedAt := 0, confirmedAt := none, testEnd := none } }, { reason := .ownSoc, raisedAt := 0, confirmedAt := none, testEnd := none }, (by unfold State.Steady; decide +kernel), (by decide +kernel), (by decide +kernel), (by decide +kernel)⟩
theorem witness_AFailedStartLocksTheGenerator_2 :
    ∃ (w : Moment) (s : State),
      s.Steady ∧ s.gco.state = .runRest ∧ due s.gco.restAt (s.upTo w).now = true :=
  ⟨atOnce, operatingState.onGco fun g => { g with state := .runRest, restAt := some 0 }, (by unfold State.Steady; decide +kernel), (by decide +kernel), (by decide +kernel)⟩
theorem witness_AFailedStartLocksTheGenerator_3 :
    ∃ (w : Moment) (s : State),
      s.Steady ∧ s.gco.unsettled = true ∧ due s.gco.settleAt (s.upTo w).now = true :=
  ⟨atOnce, operatingState.onGco fun g => { g with unsettled := true, settleAt := some 0 }, (by unfold State.Steady; decide +kernel), (by decide +kernel), (by decide +kernel)⟩
theorem witness_PointsQualifyAndAreAcknowledged_1 :
    ∃ (w : Moment) (s : State) (id : Nat),
      s.Steady ∧ 1 ≤ id ∧ id ≤ 32 ∧ s.alu.points.length = 32 ∧ due (pointGet s.alu.points id).timerEnd (s.upTo w).now = true :=
  ⟨atOnce, operatingState.onAlu fun a => { a with points := a.points.set 4 { condition := true, state := .qualifying, acked := false, timerEnd := some 0 } }, 5, (by unfold State.Steady; decide +kernel), (by decide +kernel), (by decide +kernel), (by decide +kernel), (by decide +kernel)⟩
theorem witness_PointsQualifyAndAreAcknowledged_2 :
    ∃ (s : State) (args : List Byte),
      s.SitePlain ∧ args = [] ∧ s.alu.points.length = 32 :=
  ⟨operatingState, [], (by unfold State.SitePlain State.SiteReady; decide +kernel), (by decide +kernel), (by decide +kernel)⟩
theorem witness_TheDwellsChangeTheMode_1 :
    ∃ (w : Moment) (s : State),
      s.Steady ∧ s.sup.holdEnd = none ∧ s.operating = true ∧ s.sup.mode = .full ∧ (s.upTo w).leanComplete = true :=
  ⟨⟨300000000, []⟩, operatingState.onSup fun x => { x with leanSince := some 0 }, (by unfold State.Steady; decide +kernel), (by decide +kernel), (by decide +kernel), (by decide +kernel), (by decide +kernel)⟩
theorem witness_TheDwellsChangeTheMode_2 :
    ∃ (w : Moment) (s : State),
      s.Steady ∧ (s.sup.holdEnd.isSome = true ∨ s.sup.mode ≠ .full ∨ (s.upTo w).leanComplete = false) :=
  ⟨atOnce, operatingState, (by unfold State.Steady; decide +kernel), (by decide +kernel)⟩
theorem witness_TheDwellsChangeTheMode_3 :
    ∃ (w : Moment) (s : State),
      s.Steady ∧ s.sup.holdEnd = none ∧ (s.upTo w).dormantComplete = true ∧ s.sup.dormantHeld = false ∧ s.sup.entryWait = none ∧ (s.settings.sup.mask.acSense = true ∨ s.settings.sup.mask.line = true ∨ s.settings.sup.mask.sitePort = true ∨ s.settings.sup.mask.timer = true) :=
  ⟨⟨120000000, []⟩, operatingState.onSup fun x => { x with dormantSince := some 0 }, (by unfold State.Steady; decide +kernel), (by decide +kernel), (by decide +kernel), (by decide +kernel), (by decide +kernel), (by decide +kernel)⟩
theorem witness_TheDwellsChangeTheMode_4 :
    ∃ (w : Moment) (s : State),
      s.Steady ∧ s.sup.holdEnd = none ∧ (s.upTo w).dormantComplete = true ∧ s.sup.dormantHeld = false ∧ s.sup.entryWait = none ∧ s.settings.sup.mask.acSense = false ∧ s.settings.sup.mask.line = false ∧ s.settings.sup.mask.sitePort = false ∧ s.settings.sup.mask.timer = false :=
  ⟨⟨120000000, []⟩, (operatingState.onSup fun x => { x with dormantSince := some 0 }).onSettings fun c => { c with sup := { c.sup with mask := { acSense := false, line := false, sitePort := false, timer := false } } }, (by unfold State.Steady; decide +kernel), (by decide +kernel), (by decide +kernel), (by decide +kernel), (by decide +kernel), (by decide +kernel), (by decide +kernel), (by decide +kernel), (by decide +kernel)⟩
theorem witness_TheDwellsChangeTheMode_5 :
    ∃ (w : Moment) (s : State),
      s.Steady ∧ due s.sup.holdEnd (s.upTo w).now = true ∧ (s.upTo w).dormantComplete = false ∧ (s.upTo w).leanComplete = false :=
  ⟨atOnce, operatingState.onSup fun x => { x with holdEnd := some 0 }, (by unfold State.Steady; decide +kernel), (by decide +kernel), (by decide +kernel), (by decide +kernel)⟩
theorem witness_TheDwellsChangeTheMode_6 :
    ∃ (w : Moment) (s : State),
      s.Steady ∧ due s.sup.holdEnd (s.upTo w).now = true ∧ (s.upTo w).dormantComplete = false ∧ (s.upTo w).leanComplete = true ∧ s.operating = true ∧ s.sup.mode = .full :=
  ⟨⟨300000000, []⟩, operatingState.onSup fun x => { x with holdEnd := some 0, leanSince := some 0 }, (by unfold State.Steady; decide +kernel), (by decide +kernel), (by decide +kernel), (by decide +kernel), (by decide +kernel), (by decide +kernel)⟩
theorem witness_TheDwellsChangeTheMode_7 :
    ∃ (w : Moment) (s : State),
      s.Steady ∧ (s.sup.holdEnd.isSome = true ∨ (s.upTo w).dormantComplete = false ∨ s.sup.dormantHeld = true ∨ s.sup.entryWait.isSome = true) :=
  ⟨atOnce, operatingState.onSup fun x => { x with dormantSince := some 0, holdEnd := some 600000 }, (by unfold State.Steady; decide +kernel), (by decide +kernel)⟩
theorem witness_TheDwellsChangeTheMode_8 :
    ∃ (w : Moment) (s : State),
      s.Steady ∧ due s.sup.holdEnd (s.upTo w).now = true ∧ (s.upTo w).dormantComplete = true ∧ s.sup.dormantHeld = false ∧ s.sup.entryWait = none ∧ (s.settings.sup.mask.acSense = true ∨ s.settings.sup.mask.line = true ∨ s.settings.sup.mask.sitePort = true ∨ s.settings.sup.mask.timer = true) :=
  ⟨⟨120000000, []⟩, operatingState.onSup fun x => { x with holdEnd := some 0, dormantSince := some 0 }, (by unfold State.Steady; decide +kernel), (by decide +kernel), (by decide +kernel), (by decide +kernel), (by decide +kernel), (by decide +kernel)⟩
theorem witness_TheDwellsChangeTheMode_9 :
    ∃ (w : Moment) (s : State),
      s.Steady ∧ due s.sup.holdEnd (s.upTo w).now = true ∧ (s.upTo w).dormantComplete = true ∧ s.sup.dormantHeld = false ∧ s.sup.entryWait = none ∧ s.settings.sup.mask.acSense = false ∧ s.settings.sup.mask.line = false ∧ s.settings.sup.mask.sitePort = false ∧ s.settings.sup.mask.timer = false :=
  ⟨⟨120000000, []⟩, (operatingState.onSup fun x => { x with holdEnd := some 0, dormantSince := some 0 }).onSettings fun c => { c with sup := { c.sup with mask := { acSense := false, line := false, sitePort := false, timer := false } } }, (by unfold State.Steady; decide +kernel), (by decide +kernel), (by decide +kernel), (by decide +kernel), (by decide +kernel), (by decide +kernel), (by decide +kernel), (by decide +kernel), (by decide +kernel)⟩
theorem witness_RetainedWritesReachTheStore_1 :
    ∃ (w : Moment) (s : State),
      s.Steady ∧ due s.sup.periodicAt (s.upTo w).now = true ∧ s.gco.unsettled = false ∧ s.sup.writing = none :=
  ⟨atOnce, operatingState.onSup fun x => { x with periodicAt := some 0 }, (by unfold State.Steady; decide +kernel), (by decide +kernel), (by decide +kernel), (by decide +kernel)⟩
theorem witness_RetainedWritesReachTheStore_2 :
    ∃ (w : Moment) (s : State),
      s.Steady ∧ due s.sup.periodicAt (s.upTo w).now = true ∧ (s.gco.unsettled = true ∨ s.sup.writing.isSome = true) :=
  ⟨atOnce, operatingState.onSup fun x => { x with periodicAt := some 0, writing := some operatingState.retainedNow }, (by unfold State.Steady; decide +kernel), (by decide +kernel), (by decide +kernel)⟩
theorem witness_RetainedWritesReachTheStore_3 :
    ∃ (s : State) (v : Retained),
      s.Steady ∧ s.StoreCanonical ∧ s.sup.writing = some v :=
  ⟨operatingState.onSup fun x => { x with writing := some operatingState.retainedNow }, operatingState.retainedNow, (by unfold State.Steady; decide +kernel), (by unfold State.StoreCanonical; decide +kernel), (by decide +kernel)⟩
theorem witness_RetainedWritesReachTheStore_4 :
    ∃ (s : State) (v : Retained),
      s.Steady ∧ s.StoreCanonical ∧ s.sup.writing = some v :=
  ⟨operatingState.onSup fun x => { x with writing := some operatingState.retainedNow }, operatingState.retainedNow, (by unfold State.Steady; decide +kernel), (by unfold State.StoreCanonical; decide +kernel), (by decide +kernel)⟩
theorem witness_EveryValidRequestIsAnswered_1 :
    ∃ (s : State) (c : Instr) (cmd : SiteCommand) (args : List Byte),
      wellFormed c = true ∧ c.request = some (cmd, args) ∧ s.SiteReady :=
  ⟨operatingState, .ack ⟨0, []⟩ [], .ack, [], (by decide +kernel), (by decide +kernel), (by unfold State.SiteReady; decide +kernel)⟩
theorem witness_EveryValidRequestIsAnswered_2 :
    ∃ (s : State) (c : Instr) (cmd : SiteCommand) (args : List Byte),
      wellFormed c = true ∧ c.request = some (cmd, args) ∧ s.SiteReady ∧ s.sup.phase ≠ .check ∧ s.sup.mode = .full ∧ s.sup.entryWait = none ∧ (args.length ≠ cmd.argLength ∨ s.sup.restartWait.isSome = true) :=
  ⟨operatingState, .ack ⟨0, []⟩ [1], .ack, [1], (by decide +kernel), (by decide +kernel), (by unfold State.SiteReady; decide +kernel), (by decide +kernel), (by decide +kernel), (by decide +kernel), (by decide +kernel)⟩
theorem witness_EveryValidRequestIsAnswered_3 :
    ∃ (s : State) (c : Instr) (cmd : SiteCommand) (args : List Byte),
      wellFormed c = true ∧ c.request = some (cmd, args) ∧ s.asleep = true ∧ s.settings.sup.mask.sitePort = true :=
  ⟨asleepState, .ack ⟨0, []⟩ [], .ack, [], (by decide +kernel), (by decide +kernel), (by decide +kernel), (by decide +kernel)⟩
theorem witness_EveryValidRequestIsAnswered_4 :
    ∃ (s : State) (c : Instr) (cmd : SiteCommand) (args : List Byte),
      wellFormed c = true ∧ c.request = some (cmd, args) ∧ s.Steady ∧ s.asleep = false ∧ (s.awake = false ∨ s.sup.siteDiscard = true) :=
  ⟨operatingState.onSup fun x => { x with siteDiscard := true }, .ack ⟨0, []⟩ [], .ack, [], (by decide +kernel), (by decide +kernel), (by unfold State.Steady; decide +kernel), (by decide +kernel), (by decide +kernel)⟩
theorem witness_TheReadsAnswerAndChangeNothingElse_1 :
    ∃ (s : State),
      s.SitePlain :=
  ⟨operatingState, (by unfold State.SitePlain State.SiteReady; decide +kernel)⟩
theorem witness_TheReadsAnswerAndChangeNothingElse_2 :
    ∃ (s : State),
      s.SitePlain :=
  ⟨operatingState, (by unfold State.SitePlain State.SiteReady; decide +kernel)⟩
theorem witness_TheReadsAnswerAndChangeNothingElse_3 :
    ∃ (s : State),
      s.SitePlain :=
  ⟨operatingState, (by unfold State.SitePlain State.SiteReady; decide +kernel)⟩
theorem witness_TheReadsAnswerAndChangeNothingElse_4 :
    ∃ (s : State) (n : Byte) (p : PeerRecord),
      s.SitePlain ∧ 1 ≤ n.toNat ∧ n.toNat ≤ 15 ∧ findPeer s.ptb.peers n.toNat = some p :=
  ⟨operatingState.onPtb fun x => { x with peers := [PeerRecord.blank 2] }, 2, PeerRecord.blank 2, (by unfold State.SitePlain State.SiteReady; decide +kernel), (by decide +kernel), (by decide +kernel), (by decide +kernel)⟩
theorem witness_TheReadsAnswerAndChangeNothingElse_5 :
    ∃ (s : State) (n : Byte),
      s.SitePlain ∧ findPeer s.ptb.peers n.toNat = none :=
  ⟨operatingState, 16, (by unfold State.SitePlain State.SiteReady; decide +kernel), (by decide +kernel)⟩
theorem witness_TheReadsAnswerAndChangeNothingElse_6 :
    ∃ (s : State) (code : Byte),
      s.SiteReady ∧ s.sup.phase ≠ .check ∧ s.sup.mode = .full ∧ s.sup.entryWait = none ∧ siteCodeDefined code.toNat = false :=
  ⟨operatingState, 0x77, (by unfold State.SiteReady; decide +kernel), (by decide +kernel), (by decide +kernel), (by decide +kernel), (by decide +kernel)⟩
theorem witness_TheReadsAnswerAndChangeNothingElse_7 :
    ∃ (s : State),
      s.Steady ∧ s.SiteReady :=
  ⟨operatingState, (by unfold State.Steady; decide +kernel), (by unfold State.SiteReady; decide +kernel)⟩
theorem witness_TheReadsAnswerAndChangeNothingElse_8 :
    ∃ (s : State),
      s.Steady ∧ s.awake = true :=
  ⟨operatingState.onSup fun x => { x with siteDiscard := true }, (by unfold State.Steady; decide +kernel), (by decide +kernel)⟩
theorem witness_TheReadsAnswerAndChangeNothingElse_9 :
    ∃ (s : State),
      s.Steady ∧ s.awake = true :=
  ⟨operatingState, (by unfold State.Steady; decide +kernel), (by decide +kernel)⟩
theorem witness_SiteForcingMovesTheRectifier_1 :
    ∃ (s : State),
      s.SitePlain ∧ s.operating = true ∧ s.rot.state ≠ .noInput ∧ s.rot.state ≠ .failed ∧ s.rot.state ≠ .forcedRun :=
  ⟨operatingState.onRot fun r => { r with state := .run }, (by unfold State.SitePlain State.SiteReady; decide +kernel), (by decide +kernel), (by decide +kernel), (by decide +kernel), (by decide +kernel)⟩
theorem witness_SiteForcingMovesTheRectifier_2 :
    ∃ (s : State),
      s.SitePlain ∧ s.operating = true ∧ s.rot.state = .forcedRun :=
  ⟨operatingState.onRot fun r => { r with state := .forcedRun }, (by unfold State.SitePlain State.SiteReady; decide +kernel), (by decide +kernel), (by decide +kernel)⟩
theorem witness_SiteForcingMovesTheRectifier_3 :
    ∃ (s : State),
      s.SitePlain ∧ s.operating = true ∧ s.sup.configFault = false ∧ s.ptb.view = .mains ∧ s.rot.state ≠ .noInput ∧ s.rot.state ≠ .failed ∧ s.rot.state ≠ .forcedRest :=
  ⟨operatingState.onRot fun r => { r with state := .run }, (by unfold State.SitePlain State.SiteReady; decide +kernel), (by decide +kernel), (by decide +kernel), (by decide +kernel), (by decide +kernel), (by decide +kernel), (by decide +kernel)⟩
theorem witness_SiteForcingMovesTheRectifier_4 :
    ∃ (s : State),
      s.SitePlain ∧ (s.rot.state = .forcedRun ∨ s.rot.state = .forcedRest) :=
  ⟨operatingState.onRot fun r => { r with state := .forcedRest }, (by unfold State.SitePlain State.SiteReady; decide +kernel), (by decide +kernel)⟩
theorem witness_SiteForcingMovesTheRectifier_5 :
    ∃ (s : State),
      s.SitePlain ∧ s.rot.state ≠ .forcedRun ∧ s.rot.state ≠ .forcedRest :=
  ⟨operatingState, (by unfold State.SitePlain State.SiteReady; decide +kernel), (by decide +kernel), (by decide +kernel)⟩
theorem witness_SiteForcingMovesTheRectifier_6 :
    ∃ (s : State),
      s.SitePlain ∧ s.operating = false :=
  ⟨awakeState, (by unfold State.SitePlain State.SiteReady; decide +kernel), (by decide +kernel)⟩
theorem witness_SiteForcingMovesTheRectifier_7 :
    ∃ (s : State),
      s.SitePlain ∧ s.operating = true ∧ s.rot.state = .noInput :=
  ⟨operatingState, (by unfold State.SitePlain State.SiteReady; decide +kernel), (by decide +kernel), (by decide +kernel)⟩
theorem witness_SiteForcingMovesTheRectifier_8 :
    ∃ (s : State),
      s.SitePlain ∧ s.operating = true ∧ s.rot.state = .failed :=
  ⟨operatingState.onRot fun r => { r with state := .failed }, (by unfold State.SitePlain State.SiteReady; decide +kernel), (by decide +kernel), (by decide +kernel)⟩
theorem witness_SiteForcingMovesTheRectifier_9 :
    ∃ (s : State),
      s.SitePlain ∧ s.operating = true ∧ s.sup.configFault = true :=
  ⟨operatingState.onSup fun x => { x with configFault := true }, (by unfold State.SitePlain State.SiteReady; decide +kernel), (by decide +kernel), (by decide +kernel)⟩
theorem witness_SiteForcingMovesTheRectifier_10 :
    ∃ (s : State),
      s.SitePlain ∧ s.operating = true ∧ s.sup.configFault = false ∧ s.ptb.view ≠ .mains :=
  ⟨operatingState.onPtb fun p => { p with view := .gen }, (by unfold State.SitePlain State.SiteReady; decide +kernel), (by decide +kernel), (by decide +kernel), (by decide +kernel)⟩
theorem witness_SiteForcingMovesTheRectifier_11 :
    ∃ (s : State),
      s.SitePlain ∧ s.operating = true ∧ s.sup.configFault = false ∧ s.ptb.view = .mains ∧ s.rot.state = .forcedRest :=
  ⟨operatingState.onRot fun r => { r with state := .forcedRest }, (by unfold State.SitePlain State.SiteReady; decide +kernel), (by decide +kernel), (by decide +kernel), (by decide +kernel), (by decide +kernel)⟩
theorem witness_SiteForcingMovesTheRectifier_12 :
    ∃ (s : State),
      s.SitePlain ∧ s.operating = false :=
  ⟨awakeState, (by unfold State.SitePlain State.SiteReady; decide +kernel), (by decide +kernel)⟩
theorem witness_SiteForcingMovesTheRectifier_13 :
    ∃ (s : State),
      s.SitePlain ∧ s.operating = true ∧ s.sup.configFault = false ∧ s.ptb.view = .mains ∧ s.rot.state = .noInput :=
  ⟨operatingState, (by unfold State.SitePlain State.SiteReady; decide +kernel), (by decide +kernel), (by decide +kernel), (by decide +kernel), (by decide +kernel)⟩
theorem witness_SiteForcingMovesTheRectifier_14 :
    ∃ (s : State),
      s.SitePlain ∧ s.operating = true ∧ s.sup.configFault = false ∧ s.ptb.view = .mains ∧ s.rot.state = .failed :=
  ⟨operatingState.onRot fun r => { r with state := .failed }, (by unfold State.SitePlain State.SiteReady; decide +kernel), (by decide +kernel), (by decide +kernel), (by decide +kernel), (by decide +kernel)⟩
theorem witness_TheSiteTestsAndClearsTheGenerator_1 :
    ∃ (s : State) (m : BitVec 16),
      s.SitePlain ∧ m.toNat ≠ 0 ∧ s.gatesHold = true ∧ s.gco.state = .idle :=
  ⟨operatingState, 300, (by unfold State.SitePlain State.SiteReady; decide +kernel), (by decide +kernel), (by decide +kernel), (by decide +kernel)⟩
theorem witness_TheSiteTestsAndClearsTheGenerator_2 :
    ∃ (s : State) (d : Demand),
      s.SitePlain ∧ s.gatesHold = true ∧ (s.gco.state = .demandWait ∨ s.gco.state = .demandRun) ∧ s.gco.demand = some d ∧ d.reason = .test :=
  ⟨operatingState.onGco fun g => { g with state := .demandRun, demand := some { reason := .test, raisedAt := 0, confirmedAt := some 0, testEnd := some 0 } }, { reason := .test, raisedAt := 0, confirmedAt := some 0, testEnd := some 0 }, (by unfold State.SitePlain State.SiteReady; decide +kernel), (by decide +kernel), (by decide +kernel), (by decide +kernel), (by decide +kernel)⟩
theorem witness_TheSiteTestsAndClearsTheGenerator_3 :
    ∃ (s : State) (m : BitVec 16),
      s.SitePlain ∧ m.toNat ≠ 0 ∧ s.operating = true ∧ s.sup.configFault = false ∧ (s.gco.lockSet = true ∨ s.gco.unsettled = true) :=
  ⟨operatingState.onGco fun g => { g with state := .locked, lockSet := true }, 3, (by unfold State.SitePlain State.SiteReady; decide +kernel), (by decide +kernel), (by decide +kernel), (by decide +kernel), (by decide +kernel)⟩
theorem witness_TheSiteTestsAndClearsTheGenerator_4 :
    ∃ (s : State) (m : BitVec 16),
      s.SitePlain ∧ m.toNat ≠ 0 ∧ s.gatesHold = true ∧ s.gco.state = .runRest :=
  ⟨operatingState.onGco fun g => { g with state := .runRest }, 3, (by unfold State.SitePlain State.SiteReady; decide +kernel), (by decide +kernel), (by decide +kernel), (by decide +kernel)⟩
theorem witness_TheSiteTestsAndClearsTheGenerator_5 :
    ∃ (s : State) (m : BitVec 16) (d : Demand),
      s.SitePlain ∧ m.toNat ≠ 0 ∧ s.gatesHold = true ∧ (s.gco.state = .demandWait ∨ s.gco.state = .demandRun) ∧ s.gco.demand = some d ∧ d.reason ≠ .test :=
  ⟨operatingState.onGco fun g => { g with state := .demandWait, demand := some { reason := .ownSoc, raisedAt := 0, confirmedAt := none, testEnd := none } }, 3, { reason := .ownSoc, raisedAt := 0, confirmedAt := none, testEnd := none }, (by unfold State.SitePlain State.SiteReady; decide +kernel), (by decide +kernel), (by decide +kernel), (by decide +kernel), (by decide +kernel), (by decide +kernel)⟩
theorem witness_TheSiteTestsAndClearsTheGenerator_6 :
    ∃ (s : State),
      s.SitePlain ∧ (∀ d ∈ s.gco.demand, d.reason ≠ .test) :=
  ⟨operatingState, (by unfold State.SitePlain State.SiteReady; decide +kernel), (by decide +kernel)⟩
theorem witness_TheSiteTestsAndClearsTheGenerator_7 :
    ∃ (s : State),
      s.SitePlain ∧ s.operating = true ∧ s.gco.unsettled = false ∧ s.gco.lockSet = true :=
  ⟨operatingState.onGco fun g => { g with state := .locked, lockSet := true }, (by unfold State.SitePlain State.SiteReady; decide +kernel), (by decide +kernel), (by decide +kernel), (by decide +kernel)⟩
theorem witness_TheSiteTestsAndClearsTheGenerator_8 :
    ∃ (s : State),
      s.SitePlain ∧ s.operating = true ∧ s.gco.unsettled = true :=
  ⟨operatingState.onGco fun g => { g with unsettled := true }, (by unfold State.SitePlain State.SiteReady; decide +kernel), (by decide +kernel), (by decide +kernel)⟩
theorem witness_TheSiteTestsAndClearsTheGenerator_9 :
    ∃ (s : State),
      s.SitePlain ∧ s.operating = true ∧ s.gco.unsettled = false ∧ s.gco.lockSet = false :=
  ⟨operatingState, (by unfold State.SitePlain State.SiteReady; decide +kernel), (by decide +kernel), (by decide +kernel), (by decide +kernel)⟩
theorem witness_EqualizeForgetAndRestartAct_1 :
    ∃ (s : State),
      s.SitePlain :=
  ⟨operatingState, (by unfold State.SitePlain State.SiteReady; decide +kernel)⟩
theorem witness_EqualizeForgetAndRestartAct_2 :
    ∃ (s : State),
      s.SitePlain ∧ s.csc.stage ≠ .equalize :=
  ⟨operatingState, (by unfold State.SitePlain State.SiteReady; decide +kernel), (by decide +kernel)⟩
theorem witness_EqualizeForgetAndRestartAct_3 :
    ∃ (s : State),
      s.SitePlain ∧ s.csc.stage = .equalize :=
  ⟨operatingState.onCsc fun c => { c with stage := .equalize }, (by unfold State.SitePlain State.SiteReady; decide +kernel), (by decide +kernel)⟩
theorem witness_EqualizeForgetAndRestartAct_4 :
    ∃ (s : State) (n : Byte) (p : PeerRecord),
      s.SitePlain ∧ 1 ≤ n.toNat ∧ n.toNat ≤ 15 ∧ n.toNat ≠ s.sup.number ∧ findPeer s.ptb.peers n.toNat = some p :=
  ⟨operatingState.onPtb fun x => { x with peers := [PeerRecord.blank 2] }, 2, PeerRecord.blank 2, (by unfold State.SitePlain State.SiteReady; decide +kernel), (by decide +kernel), (by decide +kernel), (by decide +kernel), (by decide +kernel)⟩
theorem witness_EqualizeForgetAndRestartAct_5 :
    ∃ (s : State) (n : Byte),
      s.SitePlain ∧ findPeer s.ptb.peers n.toNat = none :=
  ⟨operatingState, 2, (by unfold State.SitePlain State.SiteReady; decide +kernel), (by decide +kernel)⟩
theorem witness_EqualizeForgetAndRestartAct_6 :
    ∃ (s : State),
      s.SitePlain :=
  ⟨operatingState, (by unfold State.SitePlain State.SiteReady; decide +kernel)⟩
theorem witness_AFullResyncFillsTheCount_1 :
    ∃ (s : State),
      s.SitePlain ∧ 0 < s.sac.cEff :=
  ⟨operatingState, (by unfold State.SitePlain State.SiteReady; decide +kernel), (by decide +kernel)⟩
theorem witness_RecordsAndFramesReadBack_1 :
    ∃ (m : List Host.Cell) (v : Retained), storeWf m = true ∧ v.q < 4294967296 ∧ v.r < 256 ∧ v.runMinutes < 4294967296 ∧
      v.epoch < 256 ∧ v.eqDays < 65536 ∧ v.exMinutes < 65536 :=
  ⟨[], { q := 4294967295, r := 255, synced := true, runMinutes := 4294967295, lockSet := true, epoch := 255, eqDays := 65535, exMinutes := 65535 }, by decide⟩
theorem witness_RecordsAndFramesReadBack_2 :
    ∃ (m : List Host.Cell) (a : Nat), storeWf m = true ∧ (a < 0x300 ∨ 0x314 ≤ a) :=
  ⟨[], 0x314, by decide⟩
theorem witness_RecordsAndFramesReadBack_3 :
    ∃ c : StatusContent, c.mode ≠ .dormant ∧ c.causeCode < 16 ∧ c.epoch < 256 ∧ c.reasonCode < 256 ∧ c.rectI < 65536 ∧
      -32768 ≤ c.strI ∧ c.strI < 32768 ∧ c.busV < 65536 ∧ c.soc ≤ 1000 ∧ c.deficit < 65536 ∧ 20 ≤ c.capacityAh ∧
      c.capacityAh ≤ 500 ∧ c.runHours < 65536 ∧ c.digest < 65536 ∧ c.urgent < 256 ∧ c.nonUrgent < 256 ∧ c.flags.toNat < 128 :=
  ⟨State.reset.ownStatus, by decide⟩
theorem witness_RecordsAndFramesReadBack_4 :
    ∃ (kind : NoteKind) (n seq : Nat) (payload : List Byte), 1 ≤ n ∧ n ≤ 15 ∧ seq < 16 ∧ lengthAllowed kind payload.length = true :=
  ⟨.gen, 15, 15, [1, 255], by decide⟩

end Sys2Proof.Tests
end

section
/-! SUPPORT. What the shared operations keep of a state, finer than its parts: each aspect below is a relation between
the state before and the state after, reflexive and transitive, and one lemma for each operation names the aspects it
may break. The statements about a command read off what they need. -/

namespace Sys2Proof.Machine

set_option Elab.async false -- one proof after another: side by side each would hold a thread of its own

/-! ## The aspects -/

/-- What can be kept of a state over an operation. -/
inductive Aspect where
  | config | number | order | mch | capture | schedule | entryWait | idle | undriven | contactor | rectOut | receiver
  | sender | running | peers | log | inputs
deriving DecidableEq

/-- The aspects. -/
def Aspect.all : List Aspect :=
  [.config, .number, .order, .mch, .capture, .schedule, .entryWait, .idle, .undriven, .contactor, .rectOut, .receiver,
   .sender, .running, .peers, .log, .inputs]

theorem Aspect.mem_all (a : Aspect) : a ∈ Aspect.all := by cases a <;> decide

/-- The settings, the findings of LOAD and the calibrations (R4, R21, R176). -/
def State.ConfigKept (s t : State) : Prop :=
  t.settings = s.settings ∧ t.sup.configFault = s.sup.configFault ∧ t.sup.digest = s.sup.digest ∧
    t.mch.calDefault = s.mch.calDefault ∧
    (∀ ch, (chGet t.mch.channels ch).calibration = (chGet s.mch.channels ch).calibration) ∧
    (∀ d, (dacGet t.sdo.outputs d).calibration = (dacGet s.sdo.outputs d).calibration)

/-- The time, the phase with its ends, and the periodic write timer, which at most starts anew (R183). -/
def State.ScheduleKept (s t : State) : Prop :=
  t.clock = s.clock ∧ t.sup.phase = s.sup.phase ∧ t.sup.startCause = s.sup.startCause ∧ t.sup.wakeAt = s.sup.wakeAt ∧
    t.sup.listenEnd = s.sup.listenEnd ∧ t.sup.holdEnd = s.sup.holdEnd ∧
    (t.sup.periodicAt = s.sup.periodicAt ∨ t.sup.periodicAt = periodicFrom s.now s.sup)

/-- Out of OPERATING: that it stays so, with the mode and the accountant as they are. -/
def State.IdleKept (s t : State) : Prop :=
  s.operating = false → t.operating = false ∧ t.sup.mode = s.sup.mode ∧ t.sac = s.sac

/-- While SDO drives no owner's demand: that it stays so, with the relays, targets and codes as they are (R23, R24). -/
def State.UndrivenKept (s t : State) : Prop :=
  s.sdo.live = false → t.sdo.live = false ∧ t.sdo.relays = s.sdo.relays ∧
    ∀ d, (dacGet t.sdo.outputs d).target = (dacGet s.sdo.outputs d).target ∧
      (dacGet t.sdo.outputs d).code = (dacGet s.sdo.outputs d).code

/-- The rectifier's relay and its limit output. -/
def State.RectOutKept (s t : State) : Prop :=
  t.sdo.live = s.sdo.live ∧ t.sdo.relays.rectEn = s.sdo.relays.rectEn ∧ t.sdo.outputs.rectIlim = s.sdo.outputs.rectIlim

/-- The receiver's fields and the sequence number. -/
def State.ReceiverKept (s t : State) : Prop :=
  t.pli.window = s.pli.window ∧ t.pli.rateFault = s.pli.rateFault ∧ t.pli.stuck = s.pli.stuck ∧ t.pli.rx = s.pli.rx ∧
    t.pli.sequence = s.pli.sequence

/-- Without a grant: that it stays so, with the transmitter, its queue and the POINT timer as they are (R86). -/
def State.SenderKept (s t : State) : Prop :=
  s.pli.granted = false → t.pli.granted = false ∧ t.pli.tx = s.pli.tx ∧ t.pli.queue = s.pli.queue ∧
    t.alu.pointTimerAt = s.alu.pointTimerAt

/-- The log clock, and the log but for what is appended to it (R172). -/
def State.LogKept (s t : State) : Prop :=
  t.alu.clockS = s.alu.clockS ∧
    (s.alu.log.length ≤ 64 → t.alu.log.length ≤ 64 ∧ ∃ new, s.LogGrewBy t new)

/-- The contacts, and that the point of a general input holds its owner's condition, where it does (R160). -/
def State.InputsKept (s t : State) : Prop :=
  t.mch.contacts = s.mch.contacts ∧
    ∀ k, 25 ≤ k → k ≤ 32 → (pointGet s.alu.points k).condition = s.ownerCondition k →
      (pointGet t.alu.points k).condition = s.ownerCondition k

/-- `t` keeps an aspect of `s`. -/
def Aspect.Kept (s t : State) : Aspect → Prop
  | .config => s.ConfigKept t
  | .number => t.sup.number = s.sup.number
  | .order => s.MeasurementInOrder → t.MeasurementInOrder
  | .mch => t.mch = s.mch
  | .capture => t.mch.ac = s.mch.ac
  | .schedule => s.ScheduleKept t
  | .entryWait => t.sup.entryWait = s.sup.entryWait
  | .idle => s.IdleKept t
  | .undriven => s.UndrivenKept t
  | .contactor => t.sdo.operation = s.sdo.operation ∧ t.sdo.waitingCommand = s.sdo.waitingCommand
  | .rectOut => s.RectOutKept t
  | .receiver => s.ReceiverKept t
  | .sender => s.SenderKept t
  | .running => t.alu.running = s.alu.running
  | .peers => t.ptb.peers = s.ptb.peers
  | .log => s.LogKept t
  | .inputs => s.InputsKept t

/-- The parts of the state that an aspect speaks of. -/
def Aspect.parts : Aspect → List Part
  | .config => [.settings, .sup, .mch, .sdo]
  | .number => [.sup]
  | .order => [.mch]
  | .mch => [.mch]
  | .capture => [.mch]
  | .schedule => [.clock, .sup]
  | .entryWait => [.sup]
  | .idle => [.sup, .sac]
  | .undriven => [.sdo]
  | .contactor => [.sdo]
  | .rectOut => [.sdo]
  | .receiver => [.pli]
  | .sender => [.pli, .alu]
  | .running => [.alu]
  | .peers => [.ptb]
  | .log => [.alu]
  | .inputs => [.mch, .alu]

/-- `t` keeps every aspect of `s` but those listed. -/
def State.KeepsBut (s : State) (l : List Aspect) (t : State) : Prop := ∀ a, a ∉ l → a.Kept s t

variable {s t u : State} {l m : List Aspect} {parts : List Part}

/-! ## Each aspect is kept by doing nothing and by one operation after another -/

/-- Of what is appended to the last `n` things of a list, the last `n` are those of the whole. -/
theorem drop_append_drop {α : Type} (n : Nat) (xs ys : List α) :
    (xs.drop (xs.length - n) ++ ys).drop ((xs.drop (xs.length - n) ++ ys).length - n) =
      (xs ++ ys).drop ((xs ++ ys).length - n) := by
  rw [← List.drop_append_of_le_length (Nat.sub_le _ _), List.drop_drop]
  congr 1
  simp only [List.length_drop, List.length_append]
  omega

theorem State.LogGrewBy.trans {new new' : List LogEntry} (h : s.LogGrewBy t new) (g : t.LogGrewBy u new') :
    s.LogGrewBy u (new ++ new') := by
  unfold State.LogGrewBy at *
  rw [g, h, drop_append_drop, List.append_assoc]

theorem State.LogKept.trans (h : s.LogKept t) (g : t.LogKept u) : s.LogKept u := by
  obtain ⟨hclock, hlog⟩ := h
  obtain ⟨gclock, glog⟩ := g
  refine ⟨gclock.trans hclock, fun hs => ?_⟩
  obtain ⟨ht, new, hnew⟩ := hlog hs
  obtain ⟨hu, new', gnew⟩ := glog ht
  exact ⟨hu, new ++ new', hnew.trans gnew⟩

theorem State.ScheduleKept.trans (h : s.ScheduleKept t) (g : t.ScheduleKept u) : s.ScheduleKept u := by
  obtain ⟨hclock, hphase, hcause, hwake, hlisten, hhold, hper⟩ := h
  obtain ⟨gclock, gphase, gcause, gwake, glisten, ghold, gper⟩ := g
  refine ⟨gclock.trans hclock, gphase.trans hphase, gcause.trans hcause, gwake.trans hwake, glisten.trans hlisten,
    ghold.trans hhold, ?_⟩
  have hfrom : periodicFrom t.now t.sup = t.sup.periodicAt ∨ periodicFrom t.now t.sup = periodicFrom s.now s.sup := by
    unfold periodicFrom State.now
    rw [hclock, hphase]
    cases s.sup.phase <;> simp
  rcases gper with gper | gper <;> rw [gper]
  · exact hper
  · rcases hfrom with hfrom | hfrom <;> rw [hfrom]
    · exact hper
    · exact .inr rfl

/-- The points of the general inputs are MCH's: their conditions are read from the contacts. -/
theorem ownerCondition_input {k : Nat} (h25 : 25 ≤ k) (h32 : k ≤ 32) (h : t.mch.contacts = s.mch.contacts) :
    t.ownerCondition k = s.ownerCondition k := by
  have hcontact : ∀ c, t.contact c = s.contact c := fun c => by rw [State.contact, h, State.contact]
  interval_cases k <;> simp only [State.ownerCondition, hcontact]

theorem State.InputsKept.trans (h : s.InputsKept t) (g : t.InputsKept u) : s.InputsKept u := by
  refine ⟨g.1.trans h.1, fun k h25 h32 hs => ?_⟩
  have howner := ownerCondition_input h25 h32 h.1
  rw [← howner]
  exact g.2 k h25 h32 ((h.2 k h25 h32 hs).trans howner.symm)

theorem State.UndrivenKept.trans (h : s.UndrivenKept t) (g : t.UndrivenKept u) : s.UndrivenKept u := fun hs => by
  obtain ⟨ht, hrelays, hout⟩ := h hs
  obtain ⟨hu, grelays, gout⟩ := g ht
  exact ⟨hu, grelays.trans hrelays, fun d => ⟨(gout d).1.trans (hout d).1, (gout d).2.trans (hout d).2⟩⟩

theorem State.SenderKept.trans (h : s.SenderKept t) (g : t.SenderKept u) : s.SenderKept u := fun hs => by
  obtain ⟨ht, htx, hqueue, htimer⟩ := h hs
  obtain ⟨hu, gtx, gqueue, gtimer⟩ := g ht
  exact ⟨hu, gtx.trans htx, gqueue.trans hqueue, gtimer.trans htimer⟩

theorem State.IdleKept.trans (h : s.IdleKept t) (g : t.IdleKept u) : s.IdleKept u := fun hs => by
  obtain ⟨ht, hmode, hsac⟩ := h hs
  obtain ⟨hu, gmode, gsac⟩ := g ht
  exact ⟨hu, gmode.trans hmode, gsac.trans hsac⟩

theorem State.ConfigKept.trans (h : s.ConfigKept t) (g : t.ConfigKept u) : s.ConfigKept u := by
  obtain ⟨hset, hfault, hdigest, hcal, hch, hout⟩ := h
  obtain ⟨gset, gfault, gdigest, gcal, gch, gout⟩ := g
  exact ⟨gset.trans hset, gfault.trans hfault, gdigest.trans hdigest, gcal.trans hcal,
    fun c => (gch c).trans (hch c), fun d => (gout d).trans (hout d)⟩

theorem State.ReceiverKept.trans (h : s.ReceiverKept t) (g : t.ReceiverKept u) : s.ReceiverKept u := by
  obtain ⟨hwindow, hrate, hstuck, hrx, hseq⟩ := h
  obtain ⟨gwindow, grate, gstuck, grx, gseq⟩ := g
  exact ⟨gwindow.trans hwindow, grate.trans hrate, gstuck.trans hstuck, grx.trans hrx, gseq.trans hseq⟩

theorem State.RectOutKept.trans (h : s.RectOutKept t) (g : t.RectOutKept u) : s.RectOutKept u := by
  obtain ⟨hlive, hrelay, hout⟩ := h
  obtain ⟨glive, grelay, gout⟩ := g
  exact ⟨glive.trans hlive, grelay.trans hrelay, gout.trans hout⟩

theorem Aspect.Kept.trans {a : Aspect} (h : a.Kept s t) (g : a.Kept t u) : a.Kept s u := by
  cases a with
  | config => exact State.ConfigKept.trans h g
  | schedule => exact State.ScheduleKept.trans h g
  | idle => exact State.IdleKept.trans h g
  | undriven => exact State.UndrivenKept.trans h g
  | contactor => exact ⟨g.1.trans h.1, g.2.trans h.2⟩
  | rectOut => exact State.RectOutKept.trans h g
  | receiver => exact State.ReceiverKept.trans h g
  | sender => exact State.SenderKept.trans h g
  | log => exact State.LogKept.trans h g
  | inputs => exact State.InputsKept.trans h g
  | order => exact fun hs => g (h hs)
  | number | mch | capture | entryWait | running | peers => exact Eq.trans g h

theorem State.LogKept.of_alu (h : t.alu = s.alu) : s.LogKept t :=
  ⟨by rw [h], fun hs => ⟨by rwa [h], [], by rw [State.LogGrewBy, h, List.append_nil, Nat.sub_eq_zero_of_le hs]; rfl⟩⟩

/-- An aspect is kept where the parts that it speaks of stay. -/
theorem Aspect.Kept.of_parts {a : Aspect} (h : ∀ p ∈ a.parts, s.AgreeOn t p) : a.Kept s t := by
  cases a <;> simp only [Aspect.parts, List.forall_mem_cons, State.AgreeOn] at h
  case config =>
    obtain ⟨hset, hsup, hmch, hsdo, -⟩ := h
    simp [Aspect.Kept, State.ConfigKept, hset, hsup, hmch, hsdo]
  case schedule =>
    obtain ⟨hclock, hsup, -⟩ := h
    simp [Aspect.Kept, State.ScheduleKept, hclock, hsup]
  case idle =>
    obtain ⟨hsup, hsac, -⟩ := h
    simp [Aspect.Kept, State.IdleKept, State.operating, hsup, hsac]
  case sender =>
    obtain ⟨hpli, halu, -⟩ := h
    simp [Aspect.Kept, State.SenderKept, hpli, halu]
  case inputs =>
    obtain ⟨hmch, halu, -⟩ := h
    simp [Aspect.Kept, State.InputsKept, hmch, halu]
  case log => exact .of_alu h.1.symm
  case order => exact fun hs => by unfold State.MeasurementInOrder at *; rwa [← h.1]
  case undriven => simp [Aspect.Kept, State.UndrivenKept, h.1]
  case rectOut => simp [Aspect.Kept, State.RectOutKept, h.1]
  case receiver => simp [Aspect.Kept, State.ReceiverKept, h.1]
  all_goals simp [Aspect.Kept, h.1]

theorem Aspect.Kept.refl (a : Aspect) (s : State) : a.Kept s s := .of_parts fun p _ => .rfl p

/-! ## The relation -/

theorem State.KeepsBut.refl (s : State) (l : List Aspect) : s.KeepsBut l s := fun a _ => .refl a s

theorem State.KeepsBut.trans (h : s.KeepsBut l t) (g : t.KeepsBut l u) : s.KeepsBut l u :=
  fun a ha => (h a ha).trans (g a ha)

/-- A longer list allows more. -/
theorem State.KeepsBut.mono (h : s.KeepsBut l t) (hl : l.all (fun a => decide (a ∈ m)) = true) : s.KeepsBut m t :=
  fun a ha => h a fun hm => ha (by simpa using List.all_eq_true.mp hl a hm)

theorem State.KeepsBut.ite {c : Prop} [Decidable c] (h : s.KeepsBut l t) (g : s.KeepsBut l u) :
    s.KeepsBut l (if c then t else u) := by split <;> assumption

/-- An operation that keeps everything but an aspect, and then that aspect too. -/
theorem State.KeepsBut.and {a : Aspect} (h : s.KeepsBut (a :: l) t) (ha : a.Kept s t) : s.KeepsBut l t := fun b hb => by
  by_cases hab : b = a
  · exact hab ▸ ha
  · exact h b (by simp [hab, hb])

/-- What stays of the parts keeps every aspect that speaks of those parts alone. -/
theorem State.ChangedOnly.keepsBut (h : s.ChangedOnly parts t)
    (hl : Aspect.all.all (fun a => decide (a ∈ l) || a.parts.all fun p => decide (p ∉ parts)) = true := by decide) :
    s.KeepsBut l t := fun a ha => .of_parts fun p hp => h p (by
  have hparts := List.all_eq_true.mp hl a a.mem_all
  simp only [ha, decide_false, Bool.false_or, List.all_eq_true, decide_eq_true_eq] at hparts
  exact hparts p hp)

/-- A hand-off keeps what each of its takers keeps. -/
theorem fan_keepsBut (order : List Taker) {takers : List Taker} {f : Taker → State → State}
    (h : ∀ x ∈ takers, ∀ s : State, s.KeepsBut l (f x s)) (s : State) : s.KeepsBut l (fan order takers f s) :=
  fan_induction order (P := State.KeepsBut s l) (fun x hx t ht => ht.trans (h x hx t)) s (.refl s l)

/-- Steps one after another keep what each keeps. -/
theorem foldl_keepsBut {α : Type} {f : State → α → State} (h : ∀ (s : State) (x : α), s.KeepsBut l (f s x))
    (xs : List α) (s : State) : s.KeepsBut l (xs.foldl f s) := by
  induction xs generalizing s with
  | nil => exact .refl s l
  | cons x xs ih => exact (h s x).trans (ih (f s x))

end Sys2Proof.Machine
end


section
/-! SUPPORT. One part changed, and the operations that every block shares: outputs, relays, the log (R20, R23, R24, R172). -/
namespace Sys2Proof.Machine

set_option Elab.async false

variable {s t u : State} {l m : List Aspect}

/-! ## One part changed -/

theorem onSac_keepsBut (f : Sac → Sac) (s : State) : s.KeepsBut [.idle] (s.onSac f) := (onSac_changedOnly f s).keepsBut
theorem onCsc_keepsBut (f : Csc → Csc) (s : State) : s.KeepsBut [] (s.onCsc f) := (onCsc_changedOnly f s).keepsBut
theorem onCbu_keepsBut (f : Cbu → Cbu) (s : State) : s.KeepsBut [] (s.onCbu f) := (onCbu_changedOnly f s).keepsBut
theorem onRot_keepsBut (f : Rot → Rot) (s : State) : s.KeepsBut [] (s.onRot f) := (onRot_changedOnly f s).keepsBut
theorem onGco_keepsBut (f : Gco → Gco) (s : State) : s.KeepsBut [] (s.onGco f) := (onGco_changedOnly f s).keepsBut
theorem onPtb_keepsBut (f : Ptb → Ptb) (s : State) : s.KeepsBut [.peers] (s.onPtb f) := (onPtb_changedOnly f s).keepsBut
theorem onStore_keepsBut (f : List Host.Cell → List Host.Cell) (s : State) : s.KeepsBut [] (s.onStore f) :=
  (onStore_changedOnly f s).keepsBut
theorem onSpoiled_keepsBut (f : Nat → Nat) (s : State) : s.KeepsBut [] (s.onSpoiled f) :=
  (onSpoiled_changedOnly f s).keepsBut
theorem onPli_keepsBut (f : Pli → Pli) (s : State) : s.KeepsBut [.receiver, .sender] (s.onPli f) :=
  (onPli_changedOnly f s).keepsBut

/-- A change of ALU's that leaves its log, its points and whether it runs. -/
theorem onAlu_keepsBut (f : Alu → Alu) (s : State) (hlog : (f s.alu).log = s.alu.log)
    (hclock : (f s.alu).clockS = s.alu.clockS) (hpoints : (f s.alu).points = s.alu.points)
    (hrun : (f s.alu).running = s.alu.running) : s.KeepsBut [.sender] (s.onAlu f) := by
  have hbut : s.KeepsBut [.log, .inputs, .running, .sender] (s.onAlu f) := (onAlu_changedOnly f s).keepsBut
  refine ((hbut.and ?_).and ?_).and hrun
  · exact ⟨hclock, fun hs => ⟨by simpa [hlog] using hs, [], by
      simp [State.LogGrewBy, hlog, Nat.sub_eq_zero_of_le hs]⟩⟩
  · exact ⟨rfl, fun k _ _ hk => by simpa [hpoints] using hk⟩

/-- The same, and the POINT timer stays too. -/
theorem onAlu_keeps (f : Alu → Alu) (s : State) (hlog : (f s.alu).log = s.alu.log)
    (hclock : (f s.alu).clockS = s.alu.clockS) (hpoints : (f s.alu).points = s.alu.points)
    (hrun : (f s.alu).running = s.alu.running) (htimer : (f s.alu).pointTimerAt = s.alu.pointTimerAt) :
    s.KeepsBut [] (s.onAlu f) :=
  (onAlu_keepsBut f s hlog hclock hpoints hrun).and fun hs => ⟨hs, rfl, rfl, htimer⟩

/-- A change of SUP's that leaves what LOAD and STRAPS gave it. -/
theorem onSup_keepsBut (f : Sup → Sup) (s : State) (hfault : (f s.sup).configFault = s.sup.configFault)
    (hdigest : (f s.sup).digest = s.sup.digest) (hnumber : (f s.sup).number = s.sup.number) :
    s.KeepsBut [.schedule, .entryWait, .idle] (s.onSup f) := by
  have hbut : s.KeepsBut [.config, .number, .schedule, .entryWait, .idle] (s.onSup f) :=
    (onSup_changedOnly f s).keepsBut
  exact (hbut.and ⟨rfl, hfault, hdigest, rfl, fun _ => rfl, fun _ => rfl⟩).and hnumber

/-! ## Outputs and relays (R20, R23, R24) -/

theorem dacGet_dacSet {α : Type} (p : PerDac α) (d d' : Dac) (x : α) :
    dacGet (dacSet p d x) d' = if d' = d then x else dacGet p d' := by
  cases d <;> cases d' <;> rfl

theorem relayGet_relaySet (p : Relays) (r r' : Relay) (x : Bool) :
    relayGet (relaySet p r x) r' = if r' = r then x else relayGet p r' := by
  cases r <;> cases r' <;> rfl

/-- What an owner's target write makes of an output. -/
def Output.written (live : Bool) (d : Dac) (v : Nat) (o : Output) : Output :=
  if live then (if o.target = v then o else driveTarget d v o) else { o with waiting := some v }

theorem Output.written_calibration (live : Bool) (d : Dac) (v : Nat) (o : Output) :
    (o.written live d v).calibration = o.calibration := by
  unfold Output.written; split
  · split <;> rfl
  · rfl

theorem Output.written_target {d : Dac} {v : Nat} {o : Output} : (o.written true d v).target = v := by
  unfold Output.written
  simp only [if_true]
  split
  · assumption
  · rfl

/-- A target write reaches its own output alone. -/
theorem dacGet_writeTarget (d d' : Dac) (v : Nat) (s : State) :
    dacGet (writeTarget d v s).sdo.outputs d' =
      if d' = d then (dacGet s.sdo.outputs d).written s.sdo.live d v else dacGet s.sdo.outputs d' := by
  unfold writeTarget Output.written
  cases hlive : s.sdo.live <;> simp only [State.onSdo_sdo, hlive, if_true, Bool.false_eq_true, if_false]
  · exact dacGet_dacSet ..
  · split
    · split <;> simp_all
    · exact dacGet_dacSet ..

theorem writeTarget_sdo (d : Dac) (v : Nat) (s : State) :
    (writeTarget d v s).sdo = { s.sdo with outputs := (writeTarget d v s).sdo.outputs } := by
  unfold writeTarget
  simp only [State.onSdo_sdo]
  split
  · split <;> rfl
  · rfl

/-- A relay demand reaches its own relay alone, and only while the demands are driven. -/
theorem relayGet_writeRelay (r r' : Relay) (v : Bool) (s : State) :
    relayGet (writeRelay r v s).sdo.relays r' =
      if r' = r ∧ s.sdo.live = true then v else relayGet s.sdo.relays r' := by
  unfold writeRelay
  cases hlive : s.sdo.live <;> simp [hlive, relayGet_relaySet]

theorem writeRelay_sdo (r : Relay) (v : Bool) (s : State) :
    (writeRelay r v s).sdo = { s.sdo with relays := (writeRelay r v s).sdo.relays } := by
  unfold writeRelay
  simp only [State.onSdo_sdo]
  split <;> rfl

theorem writeRelay_of_not_live (r : Relay) (v : Bool) (h : s.sdo.live = false) : writeRelay r v s = s := by
  simp [writeRelay, State.onSdo, h]

theorem writeTarget_keepsBut (d : Dac) (v : Nat) (s : State) : s.KeepsBut [.rectOut] (writeTarget d v s) := by
  have hbut : s.KeepsBut [.contactor, .undriven, .config, .rectOut] (writeTarget d v s) :=
    (writeTarget_changedOnly d v s).keepsBut
  refine ((hbut.and ?_).and ?_).and ?_
  · rw [Aspect.Kept, writeTarget_sdo]; exact ⟨rfl, rfl⟩
  · refine fun hs => ⟨by rwa [writeTarget_sdo], by rw [writeTarget_sdo], fun d' => ?_⟩
    rw [dacGet_writeTarget, hs]
    split
    · subst_vars; exact ⟨rfl, rfl⟩
    · exact ⟨rfl, rfl⟩
  · refine ⟨rfl, rfl, rfl, rfl, fun _ => rfl, fun d' => ?_⟩
    rw [dacGet_writeTarget]
    split
    · subst_vars; exact Output.written_calibration ..
    · rfl

theorem writeTarget_keeps {d : Dac} (hd : d ≠ .rectIlim) (v : Nat) (s : State) :
    s.KeepsBut [] (writeTarget d v s) := by
  refine (writeTarget_keepsBut d v s).and ⟨?_, ?_, ?_⟩
  · rw [writeTarget_sdo]
  · rw [writeTarget_sdo]
  · exact (dacGet_writeTarget d .rectIlim v s).trans (if_neg hd.symm)

theorem writeRelay_keepsBut (r : Relay) (v : Bool) (s : State) : s.KeepsBut [.rectOut] (writeRelay r v s) := by
  have hbut : s.KeepsBut [.contactor, .undriven, .config, .rectOut] (writeRelay r v s) :=
    (writeRelay_changedOnly r v s).keepsBut
  refine ((hbut.and ?_).and ?_).and ?_
  · rw [Aspect.Kept, writeRelay_sdo]; exact ⟨rfl, rfl⟩
  · exact fun hs => by rw [writeRelay_of_not_live r v hs]; exact ⟨hs, rfl, fun _ => ⟨rfl, rfl⟩⟩
  · exact ⟨rfl, rfl, rfl, rfl, fun _ => rfl, fun _ => by rw [writeRelay_sdo]⟩

theorem writeRelay_keeps {r : Relay} (hr : r ≠ .rectEn) (v : Bool) (s : State) : s.KeepsBut [] (writeRelay r v s) := by
  refine (writeRelay_keepsBut r v s).and ⟨?_, ?_, ?_⟩
  · rw [writeRelay_sdo]
  · exact (relayGet_writeRelay r .rectEn v s).trans (if_neg fun h => hr h.1.symm)
  · rw [writeRelay_sdo]

/-! ## The shared operations -/

theorem logEntry_clockS (k : LogKind) (o v : Nat) (s : State) : (logEntry k o v s).alu.clockS = s.alu.clockS := by
  unfold logEntry; simp only [State.onAlu_alu]; split <;> rfl

/-- An entry is appended at the present log clock; of a full log the oldest goes (R172). -/
theorem logEntry_grew (k : LogKind) (o v : Nat) (s : State) (h : s.alu.log.length ≤ 64) :
    (logEntry k o v s).alu.log.length ≤ 64 ∧
      s.LogGrewBy (logEntry k o v s) [{ time := s.alu.clockS, kind := k, origin := o, value := v }] := by
  unfold logEntry State.LogGrewBy
  simp only [State.onAlu_alu, List.length_append, List.length_cons, List.length_nil]
  by_cases hlen : s.alu.log.length < 64
  · rw [if_pos hlen, show s.alu.log.length + (0 + 1) - 64 = 0 by omega]
    refine ⟨?_, rfl⟩
    simp only [List.length_append, List.length_cons, List.length_nil]
    omega
  · rw [if_neg hlen, show s.alu.log.length + (0 + 1) - 64 = 1 by omega, List.drop_append_of_le_length (by omega)]
    refine ⟨?_, rfl⟩
    simp only [List.length_append, List.length_cons, List.length_nil, List.length_drop]
    omega

theorem logEntry_alu (k : LogKind) (o v : Nat) (s : State) :
    (logEntry k o v s).alu = { s.alu with log := (logEntry k o v s).alu.log
                                          overflow := (logEntry k o v s).alu.overflow } := by
  unfold logEntry; simp only [State.onAlu_alu]; split <;> rfl

theorem logEntry_keeps (k : LogKind) (o v : Nat) (s : State) : s.KeepsBut [] (logEntry k o v s) := by
  have hbut : s.KeepsBut [.log, .inputs, .running, .sender] (logEntry k o v s) :=
    (logEntry_changedOnly k o v s).keepsBut
  refine (((hbut.and ?_).and ?_).and ?_).and ?_
  · exact ⟨logEntry_clockS k o v s, fun hs => ⟨(logEntry_grew k o v s hs).1, _, (logEntry_grew k o v s hs).2⟩⟩
  · exact ⟨rfl, fun _ _ _ hk => by rwa [logEntry_alu]⟩
  · rw [Aspect.Kept, logEntry_alu]
  · exact fun hs => ⟨hs, rfl, rfl, by rw [logEntry_alu]⟩

end Sys2Proof.Machine
end


section
/-! SUPPORT. The queue, the points, the retained-record writer, the modes, the budget, the accountant and the string's
contactor: which aspects each operation may break. -/
namespace Sys2Proof.Machine

set_option Elab.async false

variable {s t u : State} {l m : List Aspect}

/-! ## Queue, relays, points and the retained-record writer -/

/-- A change of PLI's queue side that waits for a grant. -/
theorem onPli_keeps_of_granted {f : Pli → Pli} (hg : s.pli.granted = true)
    (hr : s.ReceiverKept (s.onPli f)) : s.KeepsBut [] (s.onPli f) :=
  ((onPli_keepsBut f s).and hr).and fun hs => absurd (hg.symm.trans hs) (by decide)

theorem enqueue_keeps (k : NoteKind) (p : List Byte) (s : State) : s.KeepsBut [] (enqueue k p s) := by
  unfold enqueue; split
  · exact onPli_keeps_of_granted ‹_› ⟨rfl, rfl, rfl, rfl, rfl⟩
  · exact .refl s _

@[simp] theorem enqueue_granted (k : NoteKind) (p : List Byte) (s : State) :
    (enqueue k p s).pli.granted = s.pli.granted := by
  unfold enqueue; split <;> rfl

theorem enqueueStatus_keeps (s : State) : s.KeepsBut [] (enqueueStatus s) := by
  unfold enqueueStatus; split
  · next hg =>
    exact (enqueue_keeps _ _ s).trans
      (onPli_keeps_of_granted ((enqueue_granted _ _ s).trans hg) ⟨rfl, rfl, rfl, rfl, rfl⟩)
  · exact .refl s _

theorem requestStatus_keeps (s : State) : s.KeepsBut [] (requestStatus s) := by
  unfold requestStatus; split
  · split
    · split
      · exact onPli_keeps_of_granted ‹_› ⟨rfl, rfl, rfl, rfl, rfl⟩
      · exact enqueueStatus_keeps s
    · exact enqueueStatus_keeps s
  · exact .refl s _

theorem enqueuePoint_keeps (s : State) : s.KeepsBut [] (enqueuePoint s) := by
  unfold enqueuePoint; split
  · next hg =>
    exact (enqueue_keeps _ _ s).trans ((onAlu_keepsBut _ _ rfl rfl rfl rfl).and fun hs =>
      absurd (((enqueue_granted _ _ s).trans hg).symm.trans hs) (by decide))
  · exact .refl s _

theorem recomputeRelays_keeps (s : State) : s.KeepsBut [] (recomputeRelays s) := by
  have step : ∀ (c : Prop) [Decidable c] {r : Relay} (v : Bool) (x : State), r ≠ .rectEn → s.KeepsBut [] x →
      s.KeepsBut [] (if c then x else writeRelay r v x) := fun c _ r v x hr h =>
    h.ite (h.trans (writeRelay_keeps hr v x))
  exact step _ _ _ (by decide) (step _ _ _ (by decide) (step _ _ _ (by decide) (step _ _ _ (by decide)
    (onAlu_keeps _ s rfl rfl rfl rfl rfl))))

theorem logSubChanges_keeps (l : List (Subscription × Bool × Bool)) (s : State) :
    s.KeepsBut [] (logSubChanges l s) := by
  induction l generalizing s with
  | nil => exact .refl s _
  | cons x l ih =>
    obtain ⟨sub, old, new⟩ := x
    unfold logSubChanges
    exact (State.KeepsBut.ite (logEntry_keeps _ _ _ s) (.refl s _)).trans (ih _)

theorem recomputeSubs_keeps (b : Bool) (s : State) : s.KeepsBut [] (recomputeSubs b s) :=
  ((onAlu_keeps _ s rfl rfl rfl rfl rfl).trans (logSubChanges_keeps _ _)).trans (recomputeRelays_keeps _)

/-- A changed point put in its place: ALU's other fields, and what the takers of the change keep. -/
theorem handPoint_keepsBut (order : List Taker) (id : Nat) (p : Point) (s : State) :
    s.KeepsBut [.inputs] (handPoint order id p s) := by
  have hput : s.KeepsBut [.inputs] (s.onAlu fun a => { a with points := pointSet a.points id p }) := by
    have hbut : s.KeepsBut [.log, .running, .sender, .inputs]
        (s.onAlu fun a => { a with points := pointSet a.points id p }) := (onAlu_changedOnly _ s).keepsBut
    refine ((hbut.and ⟨rfl, fun hs => ⟨hs, [], ?_⟩⟩).and rfl).and fun hs => ⟨hs, rfl, rfl, rfl⟩
    simp [State.LogGrewBy, Nat.sub_eq_zero_of_le hs]
  refine hput.trans (fan_keepsBut order ?_ _)
  simp only [List.forall_mem_cons]
  exact ⟨fun s => .ite ((recomputeRelays_keeps s).mono rfl) (.refl s _),
    fun s => .ite (((recomputeSubs_keeps _ s).trans (enqueuePoint_keeps _)).mono rfl) (.refl s _),
    fun s => .ite ((logEntry_keeps _ _ _ s).mono rfl) (.refl s _), List.forall_mem_nil _⟩

/-! ### The points (R163, R164) -/

@[simp] theorem logEntry_points (k : LogKind) (o v : Nat) (s : State) :
    (logEntry k o v s).alu.points = s.alu.points := by rw [logEntry_alu]

@[simp] theorem writeRelay_alu (r : Relay) (v : Bool) (s : State) : (writeRelay r v s).alu = s.alu := rfl

@[simp] theorem enqueue_alu (k : NoteKind) (p : List Byte) (s : State) : (enqueue k p s).alu = s.alu :=
  (enqueue_changedOnly k p s).alu

@[simp] theorem enqueuePoint_points (s : State) : (enqueuePoint s).alu.points = s.alu.points := by
  unfold enqueuePoint; split
  · simp
  · rfl

@[simp] theorem recomputeRelays_points (s : State) : (recomputeRelays s).alu.points = s.alu.points := by
  unfold recomputeRelays
  simp only [apply_ite State.alu, writeRelay_alu, ite_self, State.onAlu_alu]

@[simp] theorem logSubChanges_points (l : List (Subscription × Bool × Bool)) (s : State) :
    (logSubChanges l s).alu.points = s.alu.points := by
  induction l generalizing s with
  | nil => rfl
  | cons x l ih =>
    obtain ⟨sub, old, new⟩ := x
    rw [logSubChanges, ih]
    split
    · exact logEntry_points ..
    · rfl

@[simp] theorem recomputeSubs_points (b : Bool) (s : State) : (recomputeSubs b s).alu.points = s.alu.points := by
  simp [recomputeSubs]

/-- The hand-off of a changed point leaves the point table as the change made it. -/
@[simp] theorem handPoint_points (order : List Taker) (id : Nat) (p : Point) (s : State) :
    (handPoint order id p s).alu.points = pointSet s.alu.points id p := by
  refine fan_induction order (P := fun t => t.alu.points = pointSet s.alu.points id p) ?_ _ rfl
  simp only [List.forall_mem_cons]
  refine ⟨fun t ht => ?_, fun t ht => ?_, fun t ht => ?_, List.forall_mem_nil _⟩
  · split
    · exact (recomputeRelays_points t).trans ht
    · exact ht
  · split
    · exact (enqueuePoint_points _).trans ((recomputeSubs_points _ t).trans ht)
    · exact ht
  · split
    · exact (logEntry_points _ _ _ t).trans ht
    · exact ht

theorem pointGet_pointSet_other {ps : List Point} {id k : Nat} (p : Point) (h : id - 1 ≠ k - 1) :
    pointGet (pointSet ps id p) k = pointGet ps k := by
  simp [pointGet, pointSet, List.getElem?_set_ne h]

theorem pointGet_pointSet_same {ps : List Point} {id : Nat} (p : Point) (h : id - 1 < ps.length) :
    pointGet (pointSet ps id p) id = p := by
  simp [pointGet, pointSet, List.getElem?_set_self h]

@[simp] theorem pointOnCondition_condition (c : PointConfig) (now : Nat) (v : Bool) (p : Point) :
    (pointOnCondition c now v p).condition = v := by
  unfold pointOnCondition
  cases p.state <;> cases v <;> dsimp only <;> try split
  all_goals rfl

/-- A point that ALU has taken holds its owner's condition; another point is left alone. -/
theorem pointGet_takeCondition_other (order : List Taker) {id k : Nat} (s : State) (h : id - 1 ≠ k - 1) :
    pointGet (takeCondition order id s).alu.points k = pointGet s.alu.points k := by
  unfold takeCondition; dsimp only; split
  · rw [handPoint_points, pointGet_pointSet_other _ h]
  · rfl

/-- Once taken, and where it was its owner's before. -/
theorem condition_takeCondition_owner (order : List Taker) {k : Nat} (s : State)
    (h : (pointGet s.alu.points k).condition = s.ownerCondition k) :
    (pointGet (takeCondition order k s).alu.points k).condition = s.ownerCondition k := by
  unfold takeCondition; dsimp only; rw [if_neg (by simp [h])]; exact h

theorem condition_takeCondition_same (order : List Taker) {id : Nat} (s : State) (hrun : s.alu.running = true)
    (hid : id - 1 < s.alu.points.length) :
    (pointGet (takeCondition order id s).alu.points id).condition = s.ownerCondition id := by
  unfold takeCondition; dsimp only; split
  · rw [handPoint_points, pointGet_pointSet_same _ hid, pointOnCondition_condition]
  · next h => simpa [hrun] using h

theorem takeCondition_keeps (order : List Taker) (id : Nat) (s : State) : s.KeepsBut [] (takeCondition order id s) := by
  have hbut : s.KeepsBut [.inputs] (takeCondition order id s) :=
    State.KeepsBut.ite (handPoint_keepsBut order id _ s) (.refl s _)
  refine hbut.and ⟨congrArg Mch.contacts (takeCondition_changedOnly order id s).mch, fun k h25 h32 hk => ?_⟩
  by_cases hid : id - 1 = k - 1
  · obtain rfl : id = k := by omega
    exact condition_takeCondition_owner order s hk
  · rwa [pointGet_takeCondition_other order s hid]

theorem takeConditions_keeps (order : List Taker) (ids : List Nat) (s : State) :
    s.KeepsBut [] (takeConditions order ids s) :=
  foldl_keepsBut (fun s id => takeCondition_keeps order id s) ids s

/-- A change of SUP's fields that no aspect speaks of. -/
theorem onSup_keeps (f : Sup → Sup) (s : State) (hfault : (f s.sup).configFault = s.sup.configFault)
    (hdigest : (f s.sup).digest = s.sup.digest) (hnumber : (f s.sup).number = s.sup.number)
    (hsched : s.ScheduleKept (s.onSup f)) (hwait : (f s.sup).entryWait = s.sup.entryWait)
    (hmode : (f s.sup).mode = s.sup.mode) : s.KeepsBut [] (s.onSup f) :=
  (((onSup_keepsBut f s hfault hdigest hnumber).and hsched).and hwait).and fun hs =>
    ⟨by unfold State.operating at *; rwa [hsched.2.1], hmode, rfl⟩

/-- A write begun or pending changes SUP's write fields, and the periodic timer by its rule (R183). -/
theorem beginWrite_keeps (s : State) : s.KeepsBut [] (beginWrite s) :=
  onSup_keeps _ s rfl rfl rfl ⟨rfl, rfl, rfl, rfl, rfl, rfl, .inr rfl⟩ rfl rfl

theorem triggerWrite_keeps (s : State) : s.KeepsBut [] (triggerWrite s) :=
  .ite (onSup_keeps _ s rfl rfl rfl ⟨rfl, rfl, rfl, rfl, rfl, rfl, .inl rfl⟩ rfl rfl) (beginWrite_keeps s)

theorem beginPendingWrite_keeps (s : State) : s.KeepsBut [] (beginPendingWrite s) :=
  .ite ((beginWrite_keeps s).trans (onSup_keeps _ _ rfl rfl rfl ⟨rfl, rfl, rfl, rfl, rfl, rfl, .inl rfl⟩ rfl rfl))
    (.refl s _)

/-! ## Dwells, modes, budget and accountant -/

theorem updateLeanDwell_keeps (s : State) : s.KeepsBut [] (updateLeanDwell s) :=
  onSup_keeps _ s rfl rfl rfl ⟨rfl, rfl, rfl, rfl, rfl, rfl, .inl rfl⟩ rfl rfl

theorem updateDormantDwell_keeps (s : State) : s.KeepsBut [] (updateDormantDwell s) := by
  unfold updateDormantDwell
  by_cases h : s.dormantDwellRuns = true <;> simp only [h, if_true, if_false, Bool.false_eq_true] <;>
    exact onSup_keeps _ s rfl rfl rfl ⟨rfl, rfl, rfl, rfl, rfl, rfl, .inl rfl⟩ rfl rfl

/-- A change of SUP's fields among which is the entry wait. -/
theorem onSup_keeps_wait (f : Sup → Sup) (s : State) (hfault : (f s.sup).configFault = s.sup.configFault)
    (hdigest : (f s.sup).digest = s.sup.digest) (hnumber : (f s.sup).number = s.sup.number)
    (hsched : s.ScheduleKept (s.onSup f)) (hmode : (f s.sup).mode = s.sup.mode) :
    s.KeepsBut [.entryWait] (s.onSup f) := by
  have hbut : s.KeepsBut [.schedule, .idle, .entryWait] (s.onSup f) :=
    (onSup_keepsBut f s hfault hdigest hnumber).mono rfl
  exact (hbut.and hsched).and fun hs => ⟨by unfold State.operating at *; rwa [hsched.2.1], hmode, rfl⟩

theorem abandonEntryWait_keepsBut (s : State) : s.KeepsBut [.entryWait] (abandonEntryWait s) :=
  .ite ((onSup_keeps_wait _ s rfl rfl rfl ⟨rfl, rfl, rfl, rfl, rfl, rfl, .inl rfl⟩ rfl).trans
    ((updateDormantDwell_keeps _).mono rfl)) (.refl s _)

theorem changeMode_keepsBut (order : List Taker) (m : Mode) (s : State) :
    s.KeepsBut [.idle] (changeMode order m s) := by
  have hmode : s.KeepsBut [.idle] (s.onSup fun x => { x with mode := m }) :=
    (((onSup_keepsBut _ s rfl rfl rfl).mono (m := [.schedule, .entryWait, .idle]) rfl).and
      ⟨rfl, rfl, rfl, rfl, rfl, rfl, .inl rfl⟩).and rfl
  refine .ite (.refl s _) (hmode.trans (fan_keepsBut order ?_ _))
  simp only [List.forall_mem_cons]
  exact ⟨fun s => (logEntry_keeps _ _ _ s).mono rfl, fun s => (requestStatus_keeps s).mono rfl,
    fun s => (recomputeRelays_keeps s).mono rfl, List.forall_mem_nil _⟩

theorem leaveLean_keeps (order : List Taker) (s : State) : s.KeepsBut [] (leaveLean order s) := by
  have hbut : s.KeepsBut [.idle] (leaveLean order s) := .ite (changeMode_keepsBut order _ s) (.refl s _)
  refine hbut.and fun hs => ?_
  rw [leaveLean, if_neg (by simp [hs])]
  exact ⟨hs, rfl, rfl⟩

theorem supOnView_keepsBut (order : List Taker) (s : State) : s.KeepsBut [.entryWait] (supOnView order s) := by
  have hfound : s.KeepsBut [] (s.onSup fun x => { x with found := true }) :=
    onSup_keeps _ s rfl rfl rfl ⟨rfl, rfl, rfl, rfl, rfl, rfl, .inl rfl⟩ rfl rfl
  have hdwells : ∀ t : State, t.KeepsBut [.entryWait] (updateDormantDwell (updateLeanDwell t)) := fun t =>
    ((updateLeanDwell_keeps t).trans (updateDormantDwell_keeps _)).mono rfl
  exact State.KeepsBut.trans (State.KeepsBut.ite (.refl s _)
    (((hfound.mono rfl).trans (abandonEntryWait_keepsBut _)).trans
    ((leaveLean_keeps order _).mono rfl))) (hdwells _)

theorem supOnStage_keepsBut (s : State) : s.KeepsBut [.entryWait] (supOnStage s) := by
  have hfound : s.KeepsBut [] (s.onSup fun x => { x with found := true }) :=
    onSup_keeps _ s rfl rfl rfl ⟨rfl, rfl, rfl, rfl, rfl, rfl, .inl rfl⟩ rfl rfl
  exact State.KeepsBut.trans (State.KeepsBut.ite (.refl s _) ((hfound.mono rfl).trans (abandonEntryWait_keepsBut _)))
    ((updateDormantDwell_keeps _).mono rfl)

theorem applyLimit_keeps (a : Nat) (s : State) : s.KeepsBut [] (applyLimit a s) :=
  .ite (onCbu_keepsBut _ s) ((onCbu_keepsBut _ s).trans (writeTarget_keeps (by decide) _ _))

theorem cbuOnEvent_keeps (s : State) : s.KeepsBut [] (cbuOnEvent s) :=
  .ite ((onCbu_keepsBut _ s).trans (applyLimit_keeps _ _)) (.refl s _)

theorem cbuOnSet_keeps (p n : Nat) (s : State) : s.KeepsBut [] (cbuOnSet p n s) :=
  .ite (.ite (onCbu_keepsBut _ s) ((onCbu_keepsBut _ s).trans (applyLimit_keeps _ _))) (.refl s _)

theorem cbuOnOperating_keeps (s : State) : s.KeepsBut [] (cbuOnOperating s) :=
  .ite ((onCbu_keepsBut _ s).trans (writeTarget_keeps (by decide) _ _))
    ((onCbu_keepsBut _ s).trans (writeTarget_keeps (by decide) _ _))

theorem sacOnSet_keepsBut (order : List Taker) (p : Nat) (s : State) : s.KeepsBut [.idle] (sacOnSet order p s) :=
  (onSac_keepsBut _ s).trans ((takeCondition_keeps _ _ _).mono rfl)

theorem sacFullResync_keepsBut (order : List Taker) (s : State) : s.KeepsBut [.idle] (sacFullResync order s) :=
  (onSac_keepsBut _ s).trans ((takeCondition_keeps _ _ _).mono rfl)

theorem sacOnAbsorbEnd_keepsBut (order : List Taker) (s : State) : s.KeepsBut [.idle] (sacOnAbsorbEnd order s) := by
  unfold sacOnAbsorbEnd; split
  · exact .ite (sacFullResync_keepsBut order s) (.refl s _)
  · exact .refl s _

/-! ## The contactor and the charge stages -/

/-- A change of the contactor's own fields in SDO. -/
theorem onSdo_keepsBut (f : Sdo → Sdo) (s : State) (hout : (f s.sdo).outputs = s.sdo.outputs)
    (hrelays : (f s.sdo).relays = s.sdo.relays) (hlive : (f s.sdo).live = s.sdo.live) :
    s.KeepsBut [.contactor] (s.onSdo f) := by
  have hbut : s.KeepsBut [.config, .undriven, .rectOut, .contactor] (s.onSdo f) := (onSdo_changedOnly f s).keepsBut
  refine ((hbut.and ?_).and ?_).and ?_
  · exact ⟨rfl, rfl, rfl, rfl, fun _ => rfl, fun _ => by rw [State.onSdo_sdo, hout]⟩
  · exact fun hs => ⟨hlive.trans hs, hrelays, fun d => by rw [State.onSdo_sdo, hout]; exact ⟨rfl, rfl⟩⟩
  · exact ⟨hlive, congrArg Relays.rectEn hrelays, congrArg PerDac.rectIlim hout⟩

theorem beginAttempt_keepsBut (d : Direction) (n : Nat) (s : State) : s.KeepsBut [.contactor] (beginAttempt d n s) :=
  onSdo_keepsBut _ s rfl rfl rfl

theorem contactorCommand_keepsBut (d : Direction) (s : State) : s.KeepsBut [.contactor] (contactorCommand d s) := by
  unfold contactorCommand; split
  · exact onSdo_keepsBut _ s rfl rfl rfl
  · split
    · exact onSdo_keepsBut _ s rfl rfl rfl
    · exact .ite (.refl s _) (beginAttempt_keepsBut _ _ s)

theorem takeWaitingCommand_keepsBut (s : State) : s.KeepsBut [.contactor] (takeWaitingCommand s) := by
  unfold takeWaitingCommand; split
  · exact (onSdo_keepsBut _ s rfl rfl rfl).trans (contactorCommand_keepsBut _ _)
  · exact .refl s _

theorem cscOnReport_keeps (d : Direction) (b : Bool) (s : State) : s.KeepsBut [] (cscOnReport d b s) :=
  .ite (onCsc_keepsBut _ s) (.refl s _)

theorem endOperation_keepsBut (order : List Taker) (op : ContactorOp) (b : Bool) (s : State) :
    s.KeepsBut [.contactor] (endOperation order op b s) := by
  refine ((onSdo_keepsBut _ s rfl rfl rfl).trans (fan_keepsBut order ?_ _)).trans (takeWaitingCommand_keepsBut _)
  simp only [List.forall_mem_cons]
  exact ⟨fun s => (cscOnReport_keeps _ _ s).mono rfl, fun s => (logEntry_keeps _ _ _ s).mono rfl,
    fun s => (takeCondition_keeps _ _ s).mono rfl, List.forall_mem_nil _⟩

theorem sdoOnCtrFb_keepsBut (order : List Taker) (s : State) : s.KeepsBut [.contactor] (sdoOnCtrFb order s) := by
  unfold sdoOnCtrFb; split
  · exact .ite (endOperation_keepsBut _ _ _ s) (.refl s _)
  · exact State.KeepsBut.trans (State.KeepsBut.ite ((onSdo_keepsBut _ s rfl rfl rfl).trans
      ((takeCondition_keeps _ _ _).mono rfl)) (.refl s _)) (takeWaitingCommand_keepsBut _)

theorem sdoOnWindow_keepsBut (order : List Taker) (op : ContactorOp) (s : State) :
    s.KeepsBut [.contactor] (sdoOnWindow order op s) :=
  .ite (beginAttempt_keepsBut _ _ s) (endOperation_keepsBut _ _ _ s)

theorem cscHand_keepsBut (order : List Taker) (old : Csc) (d : Option Direction) (s : State) :
    s.KeepsBut [.contactor, .idle, .entryWait] (cscHand order old d s) := by
  refine fan_keepsBut order ?_ s
  simp only [List.forall_mem_cons]
  refine ⟨fun s => ?_, fun s => (takeConditions_keeps _ _ s).mono rfl, fun s => ?_,
    fun s => .ite ((sacOnAbsorbEnd_keepsBut _ s).mono rfl) (.refl s _),
    fun s => .ite ((cbuOnEvent_keeps s).mono rfl) (.refl s _),
    fun s => .ite ((requestStatus_keeps s).mono rfl) (.refl s _),
    fun s => .ite ((supOnStage_keepsBut s).mono rfl) (.refl s _), List.forall_mem_nil _⟩
  · split
    · exact ((contactorCommand_keepsBut _ s).mono rfl).trans ((writeTarget_keeps (by decide) _ _).mono rfl)
    · exact (writeTarget_keeps (by decide) _ s).mono rfl
  · split
    · exact (State.KeepsBut.ite ((logEntry_keeps _ _ _ s).mono rfl) (.refl s _)).trans
        ((logEntry_keeps _ _ _ _).mono rfl)
    · exact .ite ((logEntry_keeps _ _ _ s).mono rfl) (.refl s _)

theorem cscOnSet_keepsBut (order : List Taker) (p : Nat) (s : State) :
    s.KeepsBut [.contactor, .idle, .entryWait] (cscOnSet order p s) :=
  ((onCsc_keepsBut _ s).mono rfl).trans (cscHand_keepsBut _ _ _ _)

theorem stageEvent_keepsBut (order : List Taker) (new : Csc) (d : Option Direction) (s : State) :
    s.KeepsBut [.contactor, .idle, .entryWait] (stageEvent order new d s) :=
  .ite ((onCsc_keepsBut _ s).mono rfl) (((onCsc_keepsBut _ s).mono rfl).trans (cscHand_keepsBut _ _ _ _))

theorem cscOnView_keepsBut (order : List Taker) (old : SourceView) (s : State) :
    s.KeepsBut [.contactor, .entryWait] (cscOnView order old s) := by
  have hbut : s.KeepsBut [.contactor, .idle, .entryWait] (cscOnView order old s) :=
    .ite (stageEvent_keepsBut order _ _ s) (.refl s _)
  refine State.KeepsBut.and (a := .idle) (hbut.mono rfl) fun hs => ?_
  rw [cscOnView, if_neg (by simp [hs])]
  exact ⟨hs, rfl, rfl⟩

theorem cscOnCtrFb_keepsBut (order : List Taker) (p : Direction) (s : State) :
    s.KeepsBut [.contactor, .idle, .entryWait] (cscOnCtrFb order p s) := by
  unfold cscOnCtrFb; dsimp only
  split
  · exact .ite (stageEvent_keepsBut _ _ _ s) (stageEvent_keepsBut _ _ _ s)
  · exact .ite (stageEvent_keepsBut _ _ _ s) (stageEvent_keepsBut _ _ _ s)
  · exact (onCsc_keepsBut _ s).mono rfl
  · exact stageEvent_keepsBut _ _ _ s
  · exact stageEvent_keepsBut _ _ _ s
  · exact (onCsc_keepsBut _ s).mono rfl

theorem cscOnOperating_keepsBut (order : List Taker) (s : State) :
    s.KeepsBut [.contactor, .idle, .entryWait] (cscOnOperating order s) := by
  have hdue : s.KeepsBut [.contactor, .idle, .entryWait] (s.onCsc fun c =>
      { c with eqDue := c.eqDue || decide (s.settings.csc.eqIntervalDays ≤ c.eqDays) }) := (onCsc_keepsBut _ s).mono rfl
  exact .ite (hdue.trans (((onCsc_keepsBut _ _).mono rfl).trans (cscHand_keepsBut _ _ _ _))) hdue

theorem cscEqualizeStop_keepsBut (order : List Taker) (s : State) :
    s.KeepsBut [.contactor, .idle, .entryWait] (cscEqualizeStop order s) := stageEvent_keepsBut _ _ _ s

end Sys2Proof.Machine
end


section
/-! SUPPORT. The rectifier, the generator, the alarm unit, the peer table and the grant of transmission: which aspects each
operation may break. -/
namespace Sys2Proof.Machine

set_option Elab.async false

variable {s t u : State} {l m : List Aspect}

/-! ## The rectifier -/

theorem rectDrive_keepsBut (s : State) : s.KeepsBut [.rectOut] (rectDrive s) :=
  (writeRelay_keepsBut _ _ s).trans (writeTarget_keepsBut _ _ _)

theorem enterRect_keepsBut (order : List Taker) (x : RectState) (s : State) :
    s.KeepsBut [.rectOut] (enterRect order x s) := by
  refine ((onRot_keepsBut _ s).mono rfl).trans (fan_keepsBut order ?_ _)
  simp only [List.forall_mem_cons]
  exact ⟨rectDrive_keepsBut, fun s => (requestStatus_keeps s).mono rfl, fun s => (logEntry_keeps _ _ _ s).mono rfl,
    fun s => (takeCondition_keeps _ _ s).mono rfl, List.forall_mem_nil _⟩

theorem beginRest_keepsBut (order : List Taker) (s : State) : s.KeepsBut [.rectOut] (beginRest order s) :=
  ((enterRect_keepsBut _ _ s).trans ((enqueue_keeps _ _ _).mono rfl)).trans ((onRot_keepsBut _ _).mono rfl)

theorem beginWake_keepsBut (order : List Taker) (r : WakeReason) (s : State) :
    s.KeepsBut [.rectOut] (beginWake order r s) :=
  (((enqueue_keeps _ _ s).mono rfl).trans (enterRect_keepsBut _ _ _)).trans ((onRot_keepsBut _ _).mono rfl)

theorem rotCheck_keepsBut (order : List Taker) (s : State) : s.KeepsBut [.rectOut] (rotCheck order s) := by
  have hrot : ∀ f g : Rot → Rot, s.KeepsBut [.rectOut] ((s.onRot f).onRot g) := fun f g =>
    ((onRot_keepsBut f s).trans (onRot_keepsBut g _)).mono rfl
  unfold rotCheck; dsimp only
  split
  · split
    · exact .ite ((hrot _ _).trans (beginRest_keepsBut _ _)) (hrot _ _)
    · exact .ite ((hrot _ _).trans (beginWake_keepsBut _ _ _))
        (.ite ((hrot _ _).trans (beginWake_keepsBut _ _ _)) (hrot _ _))
    · exact hrot _ _
  · exact hrot _ _

theorem rotTick_keepsBut (order : List Taker) (s : State) : s.KeepsBut [.rectOut] (rotTick order s) :=
  State.KeepsBut.trans (t := s.onRot rectCount) ((onRot_keepsBut _ s).mono rfl)
    (.ite (rotCheck_keepsBut _ _) (.refl _ _))

theorem rotSettle_keepsBut (order : List Taker) (s : State) : s.KeepsBut [.rectOut] (rotSettle order s) :=
  enterRect_keepsBut _ _ s

theorem rotRamp_keepsBut (order : List Taker) (n : Nat) (s : State) : s.KeepsBut [.rectOut] (rotRamp order n s) :=
  .ite (((onRot_keepsBut _ s).mono rfl).trans (writeTarget_keepsBut _ _ _))
    ((writeTarget_keepsBut _ _ s).trans (enterRect_keepsBut _ _ _))

theorem rotFailClear_keepsBut (order : List Taker) (s : State) : s.KeepsBut [.rectOut] (rotFailClear order s) :=
  enterRect_keepsBut _ _ s

theorem rotOnView_keepsBut (order : List Taker) (s : State) : s.KeepsBut [.rectOut] (rotOnView order s) := by
  unfold rotOnView; split
  · exact .refl s _
  · split
    · exact enterRect_keepsBut _ _ s
    · exact enterRect_keepsBut _ _ s
    · exact enterRect_keepsBut _ _ s
    · exact .refl s _

theorem rotOnAcok_keepsBut (order : List Taker) (s : State) : s.KeepsBut [.rectOut] (rotOnAcok order s) := by
  unfold rotOnAcok; split
  · exact .ite (enterRect_keepsBut _ _ s) (.refl s _)
  · split
    · exact .refl s _
    · exact .refl s _
    · exact enterRect_keepsBut _ _ s

theorem rotOnFail_keepsBut (order : List Taker) (s : State) : s.KeepsBut [.rectOut] (rotOnFail order s) := by
  unfold rotOnFail; split
  · exact .ite ((onRot_keepsBut _ s).mono rfl) (enterRect_keepsBut _ _ s)
  · exact .ite ((onRot_keepsBut _ s).mono rfl) (.refl s _)

theorem rotOnRest_keepsBut (order : List Taker) (n h : Nat) (s : State) :
    s.KeepsBut [.rectOut] (rotOnRest order n h s) := .ite (enterRect_keepsBut _ _ s) (.refl s _)

theorem rotOnDormant_keepsBut (order : List Taker) (s : State) : s.KeepsBut [.rectOut] (rotOnDormant order s) :=
  (State.KeepsBut.ite (((onRot_keepsBut _ s).mono rfl).trans (rectDrive_keepsBut _)) (enterRect_keepsBut _ _ s)).trans
    ((onRot_keepsBut _ _).mono rfl)

/-! ## The generator -/

theorem gcoHand_keeps (order : List Taker) (old : Gco) (a : Bool) (g : Option (List Byte))
    (logs : List (LogKind × Nat × Nat)) (s : State) : s.KeepsBut [] (gcoHand order old a g logs s) := by
  refine fan_keepsBut order ?_ s
  have hreq : ∀ (c : Prop) [Decidable c] (x : State), x.KeepsBut [] (if c then x else requestStatus x) :=
    fun c _ x => .ite (.refl x _) (requestStatus_keeps x)
  have hreq' : ∀ (c : Prop) [Decidable c] (x : State), x.KeepsBut [] (if c then requestStatus x else x) :=
    fun c _ x => .ite (requestStatus_keeps x) (.refl x _)
  simp only [List.forall_mem_cons]
  refine ⟨fun s => .ite (.refl s _) (writeRelay_keeps (by decide) _ s), fun s => ?_,
    fun s => foldl_keepsBut (fun s e => logEntry_keeps _ _ _ s) logs s, takeConditions_keeps order _, fun s => ?_,
    List.forall_mem_nil _⟩
  · cases g with
    | none => exact (hreq _ s).trans (hreq' _ _)
    | some p => exact ((enqueue_keeps _ _ s).trans (hreq _ _)).trans (hreq' _ _)
  · exact State.KeepsBut.trans (State.KeepsBut.ite (beginPendingWrite_keeps s) (.refl s _))
      (.ite (triggerWrite_keeps _) (.refl _ _))

theorem gcoMove_keeps (order : List Taker) (f : Gco → Gco) (logs : List (LogKind × Nat × Nat)) (s : State) :
    s.KeepsBut [] (gcoMove order f logs s) := (onGco_keepsBut _ s).trans (gcoHand_keeps _ _ _ _ _ _)

theorem gcoRelease_keeps (order : List Taker) (s : State) : s.KeepsBut [] (gcoRelease order s) := gcoMove_keeps _ _ _ s

theorem gcoRaiseNow_keeps (order : List Taker) (r : DemandReason) (e : Option Nat) (s : State) :
    s.KeepsBut [] (gcoRaiseNow order r e s) := gcoMove_keeps _ _ _ s

theorem gcoRunCheck_keeps (order : List Taker) (d : Demand) (s : State) : s.KeepsBut [] (gcoRunCheck order d s) :=
  .ite (gcoMove_keeps _ _ _ s) (State.KeepsBut.trans (t := s.onGco fun g => { g with acceptDwell := s.acceptNext })
    (onGco_keepsBut _ s) (.ite (gcoRelease_keeps _ _) (.refl _ _)))

theorem gcoCheck_keeps (order : List Taker) (s : State) : s.KeepsBut [] (gcoCheck order s) := by
  unfold gcoCheck; dsimp only
  refine (onGco_keepsBut (gcoDwells s) s).trans ?_
  split
  · split
    · exact .ite (gcoRaiseNow_keeps _ _ _ _) (.refl _ _)
    · exact .refl _ _
  · exact .ite (gcoRaiseNow_keeps _ _ _ _) (.refl _ _)
  · split
    · exact gcoRunCheck_keeps _ _ _
    · exact .refl _ _
  · exact .refl _ _

theorem gcoTick_keeps (order : List Taker) (s : State) : s.KeepsBut [] (gcoTick order s) :=
  State.KeepsBut.trans (t := s.onGco (gcoCount s.ptb.genRunning)) (onGco_keepsBut _ s)
    (.ite (gcoCheck_keeps _ _) (.refl _ _))

theorem gcoStartFailure_keeps (order : List Taker) (s : State) : s.KeepsBut [] (gcoStartFailure order s) :=
  (onGco_keepsBut _ s).trans (gcoHand_keeps _ _ _ _ _ _)

theorem gcoRestEnd_keeps (order : List Taker) (s : State) : s.KeepsBut [] (gcoRestEnd order s) := gcoMove_keeps _ _ _ s

theorem gcoSettle_keeps (order : List Taker) (s : State) : s.KeepsBut [] (gcoSettle order s) := gcoMove_keeps _ _ _ s

theorem gcoOnKnowledge_keeps (order : List Taker) (s : State) : s.KeepsBut [] (gcoOnKnowledge order s) :=
  gcoMove_keeps _ _ _ s

theorem gcoOnView_keeps (order : List Taker) (s : State) : s.KeepsBut [] (gcoOnView order s) := by
  unfold gcoOnView; split
  · exact .ite (gcoRelease_keeps _ s) (.refl s _)
  · exact .refl s _

theorem gcoOnFuel_keeps (order : List Taker) (s : State) : s.KeepsBut [] (gcoOnFuel order s) :=
  State.KeepsBut.trans (t := s.onGco fun g => { g with fuelLow := s.alu.effFuel }) (onGco_keepsBut _ s)
    (.ite (gcoRelease_keeps _ _) (.refl _ _))

theorem gcoOnInhibit_keeps (order : List Taker) (s : State) : s.KeepsBut [] (gcoOnInhibit order s) :=
  State.KeepsBut.trans (t := s.onGco fun g => { g with inhibit := s.alu.effInhibit }) (onGco_keepsBut _ s)
    (.ite (gcoRelease_keeps _ _) (.refl _ _))

theorem gcoHear_keeps (order : List Taker) (n : Nat) (b : Bool) (e : Nat) (s : State) :
    s.KeepsBut [] (gcoHear order n b e s) :=
  .ite ((onGco_keepsBut _ s).trans (gcoHand_keeps _ _ _ _ _ _)) (.refl s _)

theorem gcoOnDormant_keeps (order : List Taker) (s : State) : s.KeepsBut [] (gcoOnDormant order s) := by
  unfold gcoOnDormant; split
  · exact gcoRelease_keeps _ s
  · exact gcoRelease_keeps _ s
  · exact gcoMove_keeps _ _ _ s
  · exact onGco_keepsBut _ s

/-! ## The alarm unit -/

theorem recomputeFuel_keeps (order : List Taker) (s : State) : s.KeepsBut [] (recomputeFuel order s) := by
  have hfn : ∀ a b : Bool, s.KeepsBut [] (s.onAlu fun x => { x with fuelFn := a, effFuel := b }) := fun a b =>
    onAlu_keeps _ s rfl rfl rfl rfl rfl
  refine .ite ((hfn _ _).trans (fan_keepsBut order ?_ _)) (hfn _ _)
  simp only [List.forall_mem_cons]
  exact ⟨takeCondition_keeps _ _, gcoOnFuel_keeps _, logEntry_keeps _ _ _, List.forall_mem_nil _⟩

theorem recomputeInhibit_keeps (order : List Taker) (s : State) : s.KeepsBut [] (recomputeInhibit order s) := by
  have hfn : ∀ b : Bool, s.KeepsBut [] (s.onAlu fun x => { x with effInhibit := b }) := fun b =>
    onAlu_keeps _ s rfl rfl rfl rfl rfl
  refine .ite ((hfn _).trans (fan_keepsBut order ?_ _)) (hfn _)
  simp only [List.forall_mem_cons]
  exact ⟨gcoOnInhibit_keeps _, logEntry_keeps _ _ _, List.forall_mem_nil _⟩

theorem aluRecompute_keeps (order : List Taker) (s : State) : s.KeepsBut [] (aluRecompute order s) :=
  .ite (((recomputeSubs_keeps _ s).trans (recomputeFuel_keeps _ _)).trans (recomputeInhibit_keeps _ _)) (.refl s _)

theorem aluOnSet_keeps (order : List Taker) (s : State) : s.KeepsBut [] (aluOnSet order s) :=
  .ite (((onAlu_keeps _ s rfl rfl rfl rfl rfl).trans (takeConditions_keeps _ _ _)).trans (recomputeFuel_keeps _ _))
    (.refl s _)

theorem aluAck_keepsBut (order : List Taker) (s : State) : s.KeepsBut [.inputs] (aluAck order s) :=
  foldl_keepsBut (fun s _ => handPoint_keepsBut _ _ _ s) _ s

theorem aluConsumeLog_keepsBut (s : State) : s.KeepsBut [.log] (aluConsumeLog s) := by
  have hbut : s.KeepsBut [.inputs, .running, .sender, .log] (aluConsumeLog s) := (onAlu_changedOnly _ s).keepsBut
  exact ((hbut.and ⟨rfl, fun _ _ _ hk => hk⟩).and rfl).and fun hs => ⟨hs, rfl, rfl, rfl⟩

theorem aluOnListen_keepsBut (order : List Taker) (s : State) : s.KeepsBut [.running] (aluOnListen order s) := by
  have hrun : s.KeepsBut [.running] (s.onAlu fun a => { a with running := true }) := by
    have hbut : s.KeepsBut [.inputs, .sender, .log, .running] (s.onAlu fun a => { a with running := true }) :=
      (onAlu_changedOnly _ s).keepsBut
    exact ((hbut.and ⟨rfl, fun _ _ _ hk => hk⟩).and fun hs => ⟨hs, rfl, rfl, rfl⟩).and
      ⟨rfl, fun hs => ⟨hs, [], by simp [State.LogGrewBy, Nat.sub_eq_zero_of_le hs]⟩⟩
  exact (hrun.trans ((takeConditions_keeps _ _ _).mono rfl)).trans ((aluRecompute_keeps _ _).mono rfl)

/-! ## The peer table -/

theorem recomputeViews_keepsBut (order : List Taker) (s : State) :
    s.KeepsBut [.contactor, .entryWait, .rectOut] (recomputeViews order s) := by
  have hview : ∀ (v : SourceView) (b c : Bool), s.KeepsBut [.contactor, .entryWait, .rectOut]
      (s.onPtb fun p => { p with view := v, genRunning := b, acFail := c }) := fun v b c =>
    State.KeepsBut.mono (l := []) (State.KeepsBut.and (a := .peers) (onPtb_keepsBut _ s) rfl) rfl
  refine .ite ((hview _ _ _).trans (fan_keepsBut order ?_ _)) (.refl s _)
  simp only [List.forall_mem_cons]
  exact ⟨fun s => .ite ((cscOnView_keepsBut _ _ s).mono rfl) (.refl s _),
    fun s => .ite ((cbuOnEvent_keeps s).mono rfl) (.refl s _),
    fun s => .ite ((rotOnView_keepsBut _ s).mono rfl) (.refl s _),
    fun s => .ite ((gcoOnView_keeps _ s).mono rfl) (.refl s _),
    fun s => .ite ((requestStatus_keeps s).mono rfl) (.refl s _),
    fun s => .ite ((supOnView_keepsBut _ s).mono rfl) (.refl s _),
    fun s => (takeCondition_keeps _ _ s).mono rfl,
    fun s => .ite ((gcoOnKnowledge_keeps _ s).mono rfl) (.refl s _), List.forall_mem_nil _⟩

/-- What a change of the peer table brings about, with what a note's content hands to PLI, GCO and ROT. -/
theorem peerHand_keepsBut (order : List Taker) (logs : List (Nat × Nat)) (subs views : Bool)
    {also : Taker → State → State}
    (h : ∀ (x : Taker) (s : State), s.KeepsBut [.contactor, .entryWait, .rectOut] (also x s)) (s : State) :
    s.KeepsBut [.contactor, .entryWait, .rectOut] (peerHand order logs subs views also s) := by
  refine fan_keepsBut order ?_ s
  simp only [List.forall_mem_cons]
  exact ⟨fun s => (foldl_keepsBut (fun s e => logEntry_keeps _ _ _ s) logs s).mono rfl,
    fun s => ((takeConditions_keeps _ _ s).mono rfl).trans (.ite ((aluRecompute_keeps _ _).mono rfl) (.refl _ _)),
    fun s => .ite (recomputeViews_keepsBut _ s) (.refl s _), h .pli, h .gco, h .rot, List.forall_mem_nil _⟩

theorem takeNote_keepsBut (order : List Taker) (station seq : Nat) (n : NoteContent)
    (hg : ∀ s : State, s.KeepsBut [] (n.gco s)) (hr : ∀ s : State, s.KeepsBut [.rectOut] (n.rot s)) (s : State) :
    s.KeepsBut [.contactor, .entryWait, .rectOut, .peers] (takeNote order station seq n s) := by
  refine .ite (.refl s _)
    (((onPtb_keepsBut _ s).mono rfl).trans ((peerHand_keepsBut order _ _ _ (fun x s => ?_) _).mono rfl))
  split
  · exact .ite (((requestStatus_keeps s).mono rfl).trans ((enqueuePoint_keeps _).mono rfl)) (.refl s _)
  · exact (hg s).mono rfl
  · exact (hr s).mono rfl
  · exact .refl s _

theorem ageRecords_keepsBut (order : List Taker) (s : State) :
    s.KeepsBut [.contactor, .entryWait, .rectOut, .peers] (ageRecords order s) :=
  ((onPtb_keepsBut _ s).mono rfl).trans ((peerHand_keepsBut order _ _ _ (fun _ s => .refl s _) _).mono rfl)

theorem expireIntent_keepsBut (n : Nat) (s : State) : s.KeepsBut [.peers] (expireIntent n s) := by
  unfold expireIntent; split
  · split
    · exact .ite (onPtb_keepsBut _ s) (.refl s _)
    · exact .refl s _
  · exact .refl s _

theorem forgetRecord_keepsBut (order : List Taker) (p : PeerRecord) (s : State) :
    s.KeepsBut [.contactor, .entryWait, .rectOut, .peers] (forgetRecord order p s) :=
  ((onPtb_keepsBut _ s).mono rfl).trans ((peerHand_keepsBut order _ _ _ (fun _ s => .refl s _) _).mono rfl)

/-- After the table is cleared no hand-off puts a record back. -/
theorem clearPeers_keepsBut (order : List Taker) (s : State) :
    s.KeepsBut [.contactor, .entryWait, .rectOut, .peers] (clearPeers order s) :=
  ((onPtb_keepsBut _ s).mono rfl).trans ((peerHand_keepsBut order _ _ _ (fun _ s => .refl s _) _).mono rfl)

theorem clearPeers_peers (order : List Taker) (s : State) : (clearPeers order s).ptb.peers = [] :=
  peerHand_keepsBut order _ _ _ (fun _ s => .refl s _) (s.onPtb fun t => { t with peers := [] }) .peers (by decide)

/-! ## The line -/

theorem grantTransmission_keepsBut (s : State) : s.KeepsBut [.sender] (grantTransmission s) :=
  (State.KeepsBut.and (a := .receiver) (onPli_keepsBut _ s) ⟨rfl, rfl, rfl, rfl, rfl⟩).trans
    (onAlu_keepsBut _ _ rfl rfl rfl rfl)

theorem withdrawTransmission_keepsBut (s : State) : s.KeepsBut [.sender] (withdrawTransmission s) := by
  refine State.KeepsBut.trans (State.KeepsBut.and (a := .receiver) (onPli_keepsBut _ s) ?_)
    (onAlu_keepsBut _ _ rfl rfl rfl rfl)
  by_cases htx : s.pli.tx = .send <;> simp [Aspect.Kept, State.ReceiverKept, htx, pliOff]

theorem frameSeen_keepsBut (s : State) : s.KeepsBut [.receiver] (frameSeen s) :=
  State.KeepsBut.and (a := .sender) ((onPli_keepsBut _ s).mono rfl) fun hs => ⟨hs, rfl, rfl, rfl⟩

end Sys2Proof.Machine
end


section
/-! SUPPORT. LISTEN, OPERATING and DORMANT entry, the stop and the wake: which aspects each may break (R8, R17, R18, R23 to
R25, R178 to R182). -/
namespace Sys2Proof.Machine

set_option Elab.async false

variable {s t u : State} {l m : List Aspect}

/-! ## The measurement chain's own fields -/

theorem chGet_chMap {α β : Type} (f : Ch → α → β) (p : PerChannel α) (ch : Ch) :
    chGet (chMap f p) ch = f ch (chGet p ch) := by cases ch <;> rfl

theorem contactGet_contactMap {α β : Type} (f : Contact → α → β) (p : PerContact α) (c : Contact) :
    contactGet (contactMap f p) c = f c (contactGet p c) := by cases c <;> rfl

theorem contactGet_contactSet {α : Type} (p : PerContact α) (c d : Contact) (x : α) :
    contactGet (contactSet p c x) d = if d = c then x else contactGet p d := by
  cases c <;> cases d <;> rfl

theorem dacGet_dacMap {α β : Type} (f : Dac → α → β) (p : PerDac α) (d : Dac) :
    dacGet (dacMap f p) d = f d (dacGet p d) := by cases d <;> rfl

/-- The AC state VALID exactly at a count of 8, and the frequency that goes with it (R14 to R16). -/
def AcCapture.InOrder (a : AcCapture) : Prop :=
  a.count ≤ 8 ∧ (a.valid = true ↔ a.count = 8) ∧ (a.valid = false → a.frequency = 0) ∧
    (a.valid = true → 4500 ≤ a.frequency ∧ a.frequency ≤ 6500)

theorem measurementInOrder_iff (s : State) :
    s.MeasurementInOrder ↔ (∀ ch, (chGet s.mch.channels ch).InOrder) ∧ s.mch.ac.InOrder := by
  have hall : ∀ ch : Ch, ch ∈ [Ch.busV, .strV, .midV, .strI, .rectI, .strT, .ambT, .fuel] := fun ch => by
    cases ch <;> decide
  exact and_congr_left' ⟨fun h ch => h ch (hall ch), fun h ch _ => h ch⟩

/-- A change of MCH's that keeps the calibrations, the order of each channel and that of the capture. -/
theorem onMch_keepsBut (f : Mch → Mch) (s : State) (hdefault : (f s.mch).calDefault = s.mch.calDefault)
    (hcal : ∀ ch, (chGet (f s.mch).channels ch).calibration = (chGet s.mch.channels ch).calibration)
    (hch : ∀ ch, (chGet s.mch.channels ch).InOrder → (chGet (f s.mch).channels ch).InOrder)
    (hac : s.mch.ac.InOrder → (f s.mch).ac.InOrder) : s.KeepsBut [.mch, .capture, .inputs] (s.onMch f) := by
  have hbut : s.KeepsBut [.config, .order, .mch, .capture, .inputs] (s.onMch f) := (onMch_changedOnly f s).keepsBut
  refine (hbut.and ⟨rfl, rfl, rfl, hdefault, hcal, fun _ => rfl⟩).and fun hs => ?_
  rw [measurementInOrder_iff] at hs ⊢
  exact ⟨fun ch => hch ch (hs.1 ch), hac hs.2⟩

/-! ## The phases -/

/-- A change of PLI's that leaves the grant, the transmitter and its queue. -/
theorem onPli_keeps_sender (f : Pli → Pli) (s : State) (hg : (f s.pli).granted = s.pli.granted)
    (htx : (f s.pli).tx = s.pli.tx) (hq : (f s.pli).queue = s.pli.queue) : s.KeepsBut [.receiver] (s.onPli f) :=
  State.KeepsBut.and (a := .sender) ((onPli_keepsBut f s).mono rfl) fun hs => ⟨hg.trans hs, htx, hq, rfl⟩

theorem mchOnListen_keepsBut (wired : Bool) (s : State) :
    s.KeepsBut [.mch, .inputs] (s.onMch (mchOnListen wired)) :=
  State.KeepsBut.and (a := .capture)
    ((onMch_keepsBut _ s rfl (fun _ => rfl) (fun _ h => h) fun h => h).mono rfl) rfl

/-- LISTEN entered: SUP's own part of it, and then what the blocks change on taking it. -/
theorem listenEntry_keepsBut (order : List Taker) (wake : Bool) (s : State) :
    (s.onSup fun x => { x with phase := .listen, mode := .full, listenEnd := s.now + 3000, found := false }).KeepsBut
      [.mch, .inputs, .contactor, .entryWait, .rectOut, .receiver, .peers, .running] (listenEntry order wake s) := by
  refine fan_keepsBut order ?_ _
  simp only [List.forall_mem_cons]
  exact ⟨fun s => (mchOnListen_keepsBut _ s).mono rfl,
    fun s => (onPli_keeps_sender _ s rfl rfl rfl).mono rfl,
    fun s => .ite ((clearPeers_keepsBut _ s).mono rfl) (.refl s _),
    fun s => .ite (.refl s _) ((rectDrive_keepsBut s).mono rfl), fun s => (aluOnListen_keepsBut _ s).mono rfl,
    List.forall_mem_nil _⟩

theorem logWake_keeps (s : State) : s.KeepsBut [] (logWake s) := (logEntry_keeps _ _ _ s).trans (logEntry_keeps _ _ _ _)

theorem sdoOnOperating_keepsBut (s : State) : s.KeepsBut [.undriven, .rectOut] (sdoOnOperating s) := by
  have hbut : s.KeepsBut [.config, .contactor, .undriven, .rectOut] (sdoOnOperating s) :=
    (onSdo_changedOnly _ s).keepsBut
  refine (hbut.and ⟨rfl, rfl, rfl, rfl, fun _ => rfl, fun d => ?_⟩).and ⟨rfl, rfl⟩
  have hwait : ∀ (d : Dac) (o : Output), (takeWaiting d o).calibration = o.calibration := fun d o => by
    unfold takeWaiting; split <;> rfl
  cases d <;> exact hwait _ _

theorem enterOperating_keepsBut (order : List Taker) (s : State) :
    s.KeepsBut [.schedule, .idle, .sender, .undriven, .contactor, .entryWait, .rectOut] (enterOperating order s) := by
  have hwake : s.KeepsBut [] (if s.sup.startCause = .wakeTimer then logWake s else s) :=
    .ite (logWake_keeps s) (.refl s _)
  have hphase : ∀ t : State, t.KeepsBut [.schedule, .idle] (t.onSup fun x => { x with phase := .operating }) := fun t =>
    State.KeepsBut.and (a := .entryWait) ((onSup_keepsBut _ t rfl rfl rfl).mono rfl) rfl
  have hnotes : ∀ t : State, t.KeepsBut [] (enqueuePoint (enqueueStatus (enqueueHello t))) := fun t =>
    ((enqueue_keeps _ _ t).trans (enqueueStatus_keeps _)).trans (enqueuePoint_keeps _)
  refine State.KeepsBut.trans (((hwake.mono rfl).trans ((hphase _).mono rfl)).trans
    (((grantTransmission_keepsBut _).mono rfl).trans ((hnotes _).mono rfl))) (fan_keepsBut order ?_ _)
  simp only [List.forall_mem_cons]
  exact ⟨fun s => (sdoOnOperating_keepsBut s).mono rfl, fun s => (cscOnOperating_keepsBut _ s).mono rfl,
    fun s => (cbuOnOperating_keeps s).mono rfl, fun s => (onGco_keepsBut _ s).mono rfl,
    fun s => (recomputeRelays_keeps s).mono rfl,
    fun s => ((updateLeanDwell_keeps s).trans (updateDormantDwell_keeps _)).mono rfl, List.forall_mem_nil _⟩

theorem leaveCheck_keepsBut (order : List Taker) (s : State) :
    s.KeepsBut [.schedule, .idle, .sender, .undriven, .contactor, .entryWait, .rectOut] (leaveCheck order s) :=
  .ite (enterOperating_keepsBut order s) (.refl s _)

theorem AcCapture.inOrder_reset : AcCapture.reset.InOrder :=
  ⟨by decide, by decide, fun _ => rfl, fun h => absurd h (by decide)⟩

theorem sleepChannel_inOrder {c : Channel} : (sleepChannel c).InOrder := by
  unfold sleepChannel Channel.InOrder
  by_cases h : c.status = .unused <;> simp [h]

theorem mchOnDormant_keepsBut (s : State) : s.KeepsBut [.mch, .capture, .inputs] (s.onMch mchOnDormant) :=
  onMch_keepsBut _ s rfl (fun ch => by rw [mchOnDormant, chGet_chMap]; rfl)
    (fun ch _ => by rw [mchOnDormant, chGet_chMap]; exact sleepChannel_inOrder) fun _ => AcCapture.inOrder_reset

theorem sdoOnDormant_keepsBut (s : State) : s.KeepsBut [.undriven, .contactor, .rectOut] (s.onSdo sdoOnDormant) := by
  have hbut : s.KeepsBut [.config, .undriven, .contactor, .rectOut] (s.onSdo sdoOnDormant) :=
    (onSdo_changedOnly _ s).keepsBut
  exact hbut.and ⟨rfl, rfl, rfl, rfl, fun _ => rfl, fun d => by
    rw [State.onSdo_sdo, sdoOnDormant, dacGet_dacMap]; rfl⟩

theorem aluOnDormant_keepsBut (s : State) : s.KeepsBut [.running, .inputs] (s.onAlu aluOnDormant) := by
  have hbut : s.KeepsBut [.log, .sender, .running, .inputs] (s.onAlu aluOnDormant) := (onAlu_changedOnly _ s).keepsBut
  exact (hbut.and ⟨rfl, fun hs => ⟨hs, [], by simp [State.LogGrewBy, aluOnDormant, Nat.sub_eq_zero_of_le hs]⟩⟩).and
    fun hs => ⟨hs, rfl, rfl, rfl⟩

theorem pliOnDormant_keepsBut (order : List Taker) (s : State) : s.KeepsBut [.receiver] (pliOnDormant order s) :=
  (onPli_keeps_sender _ s rfl rfl rfl).trans ((takeCondition_keeps _ _ _).mono rfl)

/-- DORMANT entry: SDO's own part of it, and then what the blocks change on taking it. -/
theorem dormantEntry_keepsBut (order : List Taker) (s : State) :
    (s.onSdo sdoOnDormant).KeepsBut [.mch, .capture, .inputs, .idle, .receiver, .rectOut, .running]
      (dormantEntry order s) := by
  refine fan_keepsBut order ?_ _
  simp only [List.forall_mem_cons]
  exact ⟨fun s => ((mchOnDormant_keepsBut s).mono rfl).trans ((takeConditions_keeps _ _ _).mono rfl),
    fun s => (onSac_keepsBut _ s).mono rfl, fun s => (onCsc_keepsBut _ s).mono rfl,
    fun s => (pliOnDormant_keepsBut _ s).mono rfl, fun s => (onCbu_keepsBut _ s).mono rfl,
    fun s => (rotOnDormant_keepsBut _ s).mono rfl, fun s => (gcoOnDormant_keeps _ s).mono rfl,
    fun s => (aluOnDormant_keepsBut s).mono rfl, List.forall_mem_nil _⟩

/-- The aspects that some command other than a reset or the end of LOAD breaks: all but the configuration, the station
number and the order of the measurement chain. -/
def Aspect.moving : List Aspect :=
  [.mch, .capture, .schedule, .entryWait, .idle, .undriven, .contactor, .rectOut, .receiver, .sender, .running, .peers,
   .log, .inputs]

theorem fallAsleep_keepsBut (order : List Taker) (s : State) : s.KeepsBut Aspect.moving (fallAsleep order s) := by
  have hsleep : ∀ t : State, t.KeepsBut Aspect.moving (dormantEntry order t) := fun t =>
    ((sdoOnDormant_keepsBut t).mono rfl).trans ((dormantEntry_keepsBut order t).mono rfl)
  exact (((onSup_keepsBut _ s rfl rfl rfl).mono rfl).trans ((recomputeRelays_keeps _).mono rfl)).trans
    ((hsleep _).trans ((triggerWrite_keeps _).mono rfl))

theorem stopStation_keepsBut (order : List Taker) (s : State) : s.KeepsBut Aspect.moving (stopStation order s) :=
  (((withdrawTransmission_keepsBut s).mono rfl).trans ((logEntry_keeps _ _ _ _).mono rfl)).trans
    (fallAsleep_keepsBut _ _)

theorem wakeUp_keepsBut (order : List Taker) (cause : StartCause) (s : State) :
    s.KeepsBut Aspect.moving (wakeUp order cause s) := by
  have hsup : ∀ (f : Sup → Sup) (t : State), (f t.sup).configFault = t.sup.configFault →
      (f t.sup).digest = t.sup.digest → (f t.sup).number = t.sup.number → t.KeepsBut Aspect.moving (t.onSup f) :=
    fun f t h1 h2 h3 => (onSup_keepsBut f t h1 h2 h3).mono rfl
  refine .ite (State.KeepsBut.trans (hsup _ s rfl rfl rfl) (State.KeepsBut.trans (State.KeepsBut.ite (.refl _ _)
    ((logWake_keeps _).mono rfl)) ((hsup _ _ rfl rfl rfl).trans ((listenEntry_keepsBut order true _).mono rfl))))
    (.refl s _)

end Sys2Proof.Machine
end


section
/-! SUPPORT. The events of the measurement chain, of the plant line, of the supervisor and of the site port: which aspects each
may break. -/
namespace Sys2Proof.Machine

set_option Elab.async false

variable {s t u : State} {l m : List Aspect}

/-! ## The events of the measurement chain -/

theorem channelTakes_calibration (rail : Bool) (e : Int) (c : Channel) :
    (channelTakes rail e c).calibration = c.calibration := by
  unfold channelTakes
  split
  · rfl
  · rfl
  · split <;> rfl
  · split <;> rfl
  · rfl
  · rfl

theorem fresh_inOrder (e : Int) (c : Channel) : (c.fresh e).InOrder := ⟨rfl, rfl⟩

/-- A sample keeps the counts in the ranges of the channel's status (R8 to R10). -/
theorem channelTakes_inOrder (rail : Bool) (e : Int) {c : Channel} (h : c.InOrder) :
    (channelTakes rail e c).InOrder := by
  unfold channelTakes
  split
  · exact h
  · next hs => simp [Channel.InOrder, hs]
  · next hs =>
    split
    · simp only [Channel.InOrder, hs]; omega
    · exact fresh_inOrder e c
  · next hs =>
    simp only [Channel.InOrder, hs] at h
    split
    · simp only [Channel.InOrder, hs]; omega
    · exact Nat.zero_le 7
  · exact ⟨le_refl 1, show 1 ≤ 7 by decide⟩
  · exact fresh_inOrder e c

theorem mchEndPeriod_keepsBut (p : Nat) (mode : Mode) (sums : PerChannel Nat) (s : State) :
    s.KeepsBut [.mch, .inputs] (s.onMch (mchEndPeriod p mode sums)) := by
  refine State.KeepsBut.and (a := .capture)
    ((onMch_keepsBut _ s rfl (fun ch => ?_) (fun ch h => ?_) fun h => h).mono rfl) rfl
  · rw [mchEndPeriod, chGet_chMap]; exact channelTakes_calibration _ _ _
  · rw [mchEndPeriod, chGet_chMap]; exact channelTakes_inOrder _ _ h

theorem deliverSet_keepsBut (order : List Taker) (p number : Nat) (s : State) :
    s.KeepsBut [.contactor, .idle, .entryWait] (deliverSet order p number s) := by
  refine fan_keepsBut order ?_ s
  simp only [List.forall_mem_cons]
  exact ⟨fun s => (takeCondition_keeps _ _ s).mono rfl, fun s => (sacOnSet_keepsBut _ _ s).mono rfl,
    fun s => cscOnSet_keepsBut _ _ s, fun s => (cbuOnSet_keeps _ _ s).mono rfl,
    fun s => (aluOnSet_keeps _ s).mono rfl, List.forall_mem_nil _⟩

theorem endPeriod_keepsBut (order : List Taker) (sums : PerChannel Nat) (s : State) :
    s.KeepsBut Aspect.moving (endPeriod order sums s) := by
  unfold endPeriod; split
  · exact .ite (((mchEndPeriod_keepsBut _ _ sums s).mono rfl).trans ((deliverSet_keepsBut order _ _ _).mono rfl))
      (.refl s _)
  · exact .refl s _

/-- A period in window, of 15,385 to 22,222 us, gives a frequency of 45.00 Hz to 65.00 Hz (R14, R16). -/
theorem acFrequency_range {p : Nat} (h : acInWindow p = true) : 4500 ≤ acFrequency p ∧ acFrequency p ≤ 6500 := by
  simp only [acInWindow, Bool.and_eq_true, decide_eq_true_eq] at h
  obtain ⟨hlow, hhigh⟩ := h
  have hpos : 0 < p := by omega
  refine ⟨(Nat.le_div_iff_mul_le hpos).mpr (by omega), Nat.lt_succ_iff.mp ((Nat.div_lt_iff_lt_mul hpos).mpr ?_)⟩
  omega

theorem acOnEdge_inOrder (now : Nat) {a : AcCapture} (h : a.InOrder) : (acOnEdge now a).InOrder := by
  obtain ⟨hcount, hvalid, -, -⟩ := id h
  unfold acOnEdge
  split
  · exact h
  · next r _ =>
    dsimp only
    split
    · next hw =>
      have hfreq := acFrequency_range hw
      have hiff : (a.valid || satInc 8 a.count == 8) = true ↔ satInc 8 a.count = 8 := by
        simp only [Bool.or_eq_true, beq_iff_eq, satInc]
        constructor
        · rintro (hv | hc)
          · simp [hvalid.mp hv]
          · exact hc
        · exact .inr
      refine ⟨?_, hiff, fun hv => if_neg (Bool.eq_false_iff.mp hv), fun hv => ?_⟩
      · simp only [satInc]; split <;> omega
      · dsimp only; rw [if_pos hv]; exact hfreq
    · exact ⟨Nat.zero_le 8, by simp, fun _ => rfl, by simp⟩

theorem acOnTimeout_inOrder (a : AcCapture) : (acOnTimeout a).InOrder :=
  ⟨Nat.zero_le 8, by simp [acOnTimeout], fun _ => rfl, by simp [acOnTimeout]⟩

theorem acMove_keepsBut (order : List Taker) {f : AcCapture → AcCapture} (hf : ∀ a, a.InOrder → (f a).InOrder)
    (s : State) : s.KeepsBut Aspect.moving (acMove order f s) := by
  have hmove : s.KeepsBut Aspect.moving (s.onMch fun m => { m with ac := f m.ac }) :=
    (onMch_keepsBut _ s rfl (fun _ => rfl) (fun _ h => h) (hf _)).mono rfl
  refine .ite hmove (hmove.trans (fan_keepsBut order ?_ _))
  simp only [List.forall_mem_cons]
  exact ⟨fun s => (recomputeViews_keepsBut _ s).mono rfl, fun s => .ite (wakeUp_keepsBut _ _ s) (.refl s _),
    List.forall_mem_nil _⟩

/-- A change of MCH's contacts alone. -/
theorem onMch_contacts_keepsBut (f : Mch → Mch) (s : State) (hdefault : (f s.mch).calDefault = s.mch.calDefault)
    (hch : (f s.mch).channels = s.mch.channels) (hac : (f s.mch).ac = s.mch.ac) :
    s.KeepsBut [.mch, .inputs] (s.onMch f) := by
  have hbut : s.KeepsBut [.mch, .capture, .inputs] (s.onMch f) :=
    onMch_keepsBut f s hdefault (fun _ => by rw [hch]) (fun _ h => by rwa [hch]) fun h => by rwa [hac]
  exact State.KeepsBut.and (a := .capture) (hbut.mono rfl) hac

theorem handCtrFb_keepsBut (order : List Taker) (s : State) :
    s.KeepsBut [.contactor, .idle, .entryWait] (handCtrFb order s) := by
  refine fan_keepsBut order ?_ s
  simp only [List.forall_mem_cons]
  refine ⟨fun s => (sdoOnCtrFb_keepsBut _ s).mono rfl, fun s => ?_, fun s => (requestStatus_keeps s).mono rfl,
    List.forall_mem_nil _⟩
  split
  · exact cscOnCtrFb_keepsBut _ _ s
  · exact .refl s _

theorem handContact_keepsBut (order : List Taker) (i : Contact) (s : State) :
    s.KeepsBut [.contactor, .idle, .entryWait, .rectOut] (handContact order i s) := by
  have hviews : ∀ t : State, t.KeepsBut [.contactor, .idle, .entryWait, .rectOut] (recomputeViews order t) := fun t =>
    (recomputeViews_keepsBut order t).mono rfl
  cases i with
  | xferGen | genRunFb => exact hviews s
  | rectAcok =>
    refine fan_keepsBut order ?_ s
    simp only [List.forall_mem_cons]
    exact ⟨hviews, fun s => (rotOnAcok_keepsBut _ s).mono rfl, List.forall_mem_nil _⟩
  | rectFail => exact (rotOnFail_keepsBut _ s).mono rfl
  | ctrFb => exact (handCtrFb_keepsBut _ s).mono rfl
  | in1 | in2 | in3 | in4 | in5 | in6 | in7 | in8 => exact (takeCondition_keeps _ _ s).mono rfl

theorem qualifyContact_keepsBut (order : List Taker) (i : Contact) (s : State) :
    s.KeepsBut Aspect.moving (qualifyContact order i s) := by
  unfold qualifyContact; dsimp only; split
  · exact .ite (((onMch_contacts_keepsBut _ s rfl rfl rfl).mono rfl).trans ((handContact_keepsBut order i _).mono rfl))
      (.refl s _)
  · exact .refl s _

/-! ## The events of the plant line -/

theorem onPli_then_takeCondition (order : List Taker) (id : Nat) (f : Pli → Pli) (s : State) :
    s.KeepsBut [.receiver, .sender] (takeCondition order id (s.onPli f)) :=
  (onPli_keepsBut f s).trans ((takeCondition_keeps _ _ _).mono rfl)

theorem lineFaultNow_keepsBut (order : List Taker) (f : Pli → Pli) (s : State) :
    s.KeepsBut [.receiver, .sender] (lineFaultNow order f s) := onPli_then_takeCondition _ _ _ s

theorem discardFrame_keepsBut (order : List Taker) (s : State) :
    s.KeepsBut [.receiver, .sender] (discardFrame order s) :=
  .ite (.ite (((frameSeen_keepsBut s).mono rfl).trans (lineFaultNow_keepsBut _ _ _)) ((frameSeen_keepsBut s).mono rfl))
    (.refl s _)

theorem faultTimeOut_keepsBut (s : State) : s.KeepsBut [.receiver] (faultTimeOut s) := by
  unfold faultTimeOut; split
  · exact .ite (onPli_keeps_sender _ s rfl rfl rfl) (.refl s _)
  · exact .refl s _

theorem rateFaultEnd_keepsBut (order : List Taker) (s : State) :
    s.KeepsBut [.receiver, .sender] (rateFaultEnd order s) := by
  unfold rateFaultEnd; split
  · exact .ite (onPli_then_takeCondition _ _ _ s) (.refl s _)
  · exact .refl s _

theorem beginFrame_keepsBut (s : State) : s.KeepsBut [.receiver, .sender] (beginFrame s) := by
  unfold beginFrame; split
  · exact .ite (onPli_keepsBut _ s) (.refl s _)
  · exact .refl s _

theorem quietCompleted_keepsBut (order : List Taker) (r : Nat) (s : State) :
    s.KeepsBut Aspect.moving (quietCompleted order r s) :=
  .ite (stopStation_keepsBut order s) (.ite ((onSup_keepsBut _ s rfl rfl rfl).mono rfl) (.refl s _))

theorem completeFrame_keepsBut (order : List Taker) (s : State) : s.KeepsBut Aspect.moving (completeFrame order s) := by
  have hslot : s.KeepsBut Aspect.moving (s.onPli completeSlot) := (onPli_keepsBut _ s).mono rfl
  unfold completeFrame; split
  · refine hslot.trans ?_
    unfold handCompletion; split
    · exact (onRot_keepsBut _ _).mono rfl
    · exact (onRot_keepsBut _ _).mono rfl
    · exact quietCompleted_keepsBut _ _ _
    · exact .refl _ _
  · exact .refl s _

theorem hearAsleep_keepsBut (order : List Taker) (frame : List Byte) (s : State) :
    s.KeepsBut Aspect.moving (hearAsleep order frame s) := by
  have hseen : s.KeepsBut Aspect.moving (frameSeen s) := (frameSeen_keepsBut s).mono rfl
  exact .ite (.ite (hseen.trans (wakeUp_keepsBut _ _ _)) hseen) (.refl s _)

/-! ## The received notes -/

/-- What a note's content hands on to GCO and ROT breaks no aspect but the rectifier's output. -/
def NoteContent.Gentle (n : NoteContent) : Prop :=
  (∀ s : State, s.KeepsBut [] (n.gco s)) ∧ ∀ s : State, s.KeepsBut [.rectOut] (n.rot s)

theorem livenessOnly_gentle (kind : NoteKind) : (livenessOnly kind).Gentle := ⟨fun s => .refl s _, fun s => .refl s _⟩

theorem statusContent_gentle (order : List Taker) (station : Nat) (payload : List Byte) (s : State) :
    (statusContent order station payload s).Gentle := by
  unfold statusContent; split
  · exact livenessOnly_gentle _
  · refine ⟨fun s => ?_, fun s => .refl s _⟩
    dsimp only
    split
    · exact gcoHear_keeps _ _ _ _ s
    · exact gcoHear_keeps _ _ _ _ s
    · exact .refl s _

theorem genContent_gentle (order : List Taker) (station event epoch : Nat) :
    (genContent order station event epoch).Gentle :=
  ⟨fun s => .ite (gcoHear_keeps _ _ _ _ s) (.ite (gcoHear_keeps _ _ _ _ s) (.refl s _)), fun s => .refl s _⟩

theorem restContent_gentle (order : List Taker) (station hours : Nat) (flags : Byte) (s : State) :
    (restContent order station hours flags s).Gentle := ⟨fun s => .refl s _, rotOnRest_keepsBut order station hours⟩

theorem wakeContent_gentle (hours : Nat) (reason : Byte) (s : State) : (wakeContent hours reason s).Gentle := by
  unfold wakeContent; split
  · exact ⟨fun s => .refl s _, fun s => .refl s _⟩
  · exact livenessOnly_gentle _

theorem hearNote_keepsBut (order : List Taker) (station seq length : Nat) {n : State → NoteContent}
    (hn : ∀ s, (n s).Gentle) (s : State) : s.KeepsBut Aspect.moving (hearNote order station seq length n s) := by
  have hseen : s.KeepsBut Aspect.moving (frameSeen s) := (frameSeen_keepsBut s).mono rfl
  unfold hearNote; dsimp only
  refine .ite ((discardFrame_keepsBut order s).mono rfl) (.ite (.refl s _) (.ite (hseen.trans (wakeUp_keepsBut _ _ _))
    (.ite (hseen.trans ((onPli_then_takeCondition _ _ _ _).mono rfl)) ?_)))
  exact (hseen.trans ((onSup_keepsBut _ _ rfl rfl rfl).mono rfl)).trans
    ((takeNote_keepsBut order station seq _ (hn _).1 (hn _).2 _).mono rfl)

/-! ## The supervisor's events -/

theorem onSup_moves (f : Sup → Sup) (s : State) (hfault : (f s.sup).configFault = s.sup.configFault)
    (hdigest : (f s.sup).digest = s.sup.digest) (hnumber : (f s.sup).number = s.sup.number) :
    s.KeepsBut Aspect.moving (s.onSup f) := (onSup_keepsBut f s hfault hdigest hnumber).mono rfl

theorem checkSupply_keepsBut (zone : SupplyZone) (s : State) : s.KeepsBut Aspect.moving (checkSupply zone s) := by
  have hlow : s.KeepsBut Aspect.moving (s.onSup fun x => { x with lowCount := lowCountNext zone x.lowCount }) :=
    onSup_moves _ s rfl rfl rfl
  have hwarn : ∀ t : State, t.KeepsBut Aspect.moving (t.onSup fun x => { x with rearmCount := 0, armed := false }) :=
    fun t => onSup_moves _ t rfl rfl rfl
  unfold checkSupply; dsimp only
  split
  · exact hlow.trans (onSup_moves _ _ rfl rfl rfl)
  · exact .ite ((hlow.trans (hwarn _)).trans ((triggerWrite_keeps _).mono rfl)) (hlow.trans (hwarn _))

theorem tryLean_keepsBut (order : List Taker) (s : State) : s.KeepsBut [.idle] (tryLean order s) :=
  .ite (changeMode_keepsBut _ _ s) (.refl s _)

theorem tryDormant_keepsBut (order : List Taker) (s : State) : s.KeepsBut Aspect.moving (tryDormant order s) :=
  .ite (.ite (((enqueue_keeps _ _ s).mono rfl).trans (onSup_moves _ _ rfl rfl rfl))
    ((onSup_moves _ s rfl rfl rfl).trans ((takeCondition_keeps _ _ _).mono rfl))) (.refl s _)

theorem siteWake_keepsBut (order : List Taker) (s : State) : s.KeepsBut Aspect.moving (siteWake order s) :=
  .ite (wakeUp_keepsBut _ _ s) (.refl s _)

theorem storeWritten_keeps (v : Retained) (b : Bool) (s : State) : s.KeepsBut [] (storeWritten v b s) :=
  .ite (onStore_keepsBut _ s) ((onStore_keepsBut _ s).trans (onSpoiled_keepsBut _ _))

theorem endWrite_keepsBut (order : List Taker) (v : Retained) (b : Bool) (s : State) :
    s.KeepsBut Aspect.moving (endWrite order v b s) := by
  refine State.KeepsBut.trans ((((storeWritten_keeps v b s).mono rfl).trans (onSup_moves _ _ rfl rfl rfl)).trans
    (fan_keepsBut order ?_ _)) ((beginPendingWrite_keeps _).mono rfl)
  simp only [List.forall_mem_cons]
  exact ⟨fun s => .ite (.refl s _) ((logEntry_keeps _ _ _ s).mono rfl), fun s => (takeCondition_keeps _ _ s).mono rfl,
    List.forall_mem_nil _⟩

/-! ## The site port -/

theorem validFrame_keepsBut (order : List Taker) (s : State) : s.KeepsBut Aspect.moving (validFrame order s) :=
  (((onSup_moves _ s rfl rfl rfl).trans ((abandonEntryWait_keepsBut _).mono rfl)).trans
    ((leaveCheck_keepsBut order _).mono rfl)).trans ((leaveLean_keeps order _).mono rfl)

theorem respond_keepsBut (c : SiteCommand) (a : Answer) : a.after.KeepsBut Aspect.moving (respond c a) := by
  have hresp : ∀ r : Response, a.after.KeepsBut Aspect.moving (a.after.onSup fun x => { x with response := some r }) :=
    fun r => onSup_moves _ _ rfl rfl rfl
  exact .ite (hresp _) ((hresp _).trans ((logEntry_keeps _ _ _ _).mono rfl))

theorem answerOf_keepsBut {r : RefuseReason ⊕ State} (h : ∀ t, r = .inr t → s.KeepsBut l t) :
    s.KeepsBut l (answerOf s r).after := by
  cases r with
  | inl reason => exact .refl s l
  | inr t => exact h t rfl

theorem siteRequest_keepsBut (order : List Taker) (c : SiteCommand) (args : List Byte) {owner : State → Answer}
    (h : ∀ s : State, s.KeepsBut Aspect.moving (owner s).after) (s : State) :
    s.KeepsBut Aspect.moving (siteRequest order c args owner s) := by
  refine .ite (siteWake_keepsBut order s) (.ite (.refl s _) (State.KeepsBut.trans (validFrame_keepsBut order s)
    (State.KeepsBut.trans (t := (answerRequest c args owner (validFrame order s)).after) ?_ (respond_keepsBut c _))))
  unfold answerRequest; split
  · exact .refl _ _
  · split
    · split <;> exact .refl _ _
    · exact h _

theorem rotForceRun_keepsBut (order : List Taker) (h : rotForceRun order s = .inr t) :
    s.KeepsBut Aspect.moving t := by
  unfold rotForceRun at h
  split at h
  · cases h
  · split at h <;> cases h
    · exact .refl s _
    · exact (enterRect_keepsBut _ _ s).mono rfl

theorem rotForceRest_keepsBut (order : List Taker) (h : rotForceRest order s = .inr t) :
    s.KeepsBut Aspect.moving t := by
  unfold rotForceRest at h
  split at h
  · cases h
  · split at h
    · cases h
    · split at h
      · cases h
      · split at h <;> cases h
        · exact .refl s _
        · exact (enterRect_keepsBut _ _ s).mono rfl

theorem rotRelease_keepsBut (order : List Taker) (h : rotRelease order s = .inr t) : s.KeepsBut Aspect.moving t := by
  unfold rotRelease at h
  split at h <;> cases h
  · exact (enterRect_keepsBut _ _ s).mono rfl
  · exact (enterRect_keepsBut _ _ s).mono rfl

theorem rectForce_keepsBut (order : List Taker) (arg : Nat) (s : State) :
    s.KeepsBut Aspect.moving (rectForce order arg s).after := by
  unfold rectForce; split
  · exact answerOf_keepsBut fun _ h => rotForceRun_keepsBut order h
  · exact answerOf_keepsBut fun _ h => rotForceRest_keepsBut order h
  · exact answerOf_keepsBut fun _ h => rotRelease_keepsBut order h
  · exact .refl s _

theorem gcoTest_keepsBut (order : List Taker) (n : Nat) (h : gcoTest order n s = .inr t) :
    s.KeepsBut Aspect.moving t := by
  unfold gcoTest at h; dsimp only at h
  by_cases hn : n = 0
  · rw [if_pos hn] at h
    cases h
    exact .ite ((gcoRelease_keeps _ s).mono rfl) (.refl s _)
  · rw [if_neg hn] at h
    iterate 6 (split at h; · cases h)
    split_ifs at h
    · cases h
      exact (onGco_keepsBut _ s).mono rfl
    · cases h
      exact (gcoRaiseNow_keeps _ _ _ s).mono rfl

theorem gcoClear_keepsBut (order : List Taker) (h : gcoClear order s = .inr t) : s.KeepsBut Aspect.moving t := by
  unfold gcoClear at h; dsimp only at h
  iterate 3 (split at h; · cases h)
  cases h
  exact ((onGco_keepsBut _ s).trans (gcoHand_keeps _ _ _ _ _ _)).mono rfl

theorem equalize_keepsBut (order : List Taker) (arg : Nat) (s : State) :
    s.KeepsBut Aspect.moving (equalize order arg s).after := by
  unfold equalize; split
  · exact (onCsc_keepsBut _ s).mono rfl
  · exact (cscEqualizeStop_keepsBut order s).mono rfl
  · exact .refl s _

theorem forgetPeer_keepsBut (order : List Taker) (n : Nat) (s : State) :
    s.KeepsBut Aspect.moving (forgetPeer order n s).after := by
  unfold forgetPeer; split
  · exact .refl s _
  · split
    · exact (forgetRecord_keepsBut order _ s).mono rfl
    · exact .refl s _

theorem peerRead_keepsBut (n : Nat) (s : State) : s.KeepsBut Aspect.moving (peerRead n s).after := by
  unfold peerRead; split
  · exact .refl s _
  · split <;> exact .refl s _

theorem beginRestart_keepsBut (s : State) : s.KeepsBut Aspect.moving (beginRestart s) :=
  (((enqueue_keeps _ _ s).trans (triggerWrite_keeps _)).mono rfl).trans (onSup_moves _ _ rfl rfl rfl)

theorem siteUnknown_keepsBut (order : List Taker) (code : Byte) (s : State) :
    s.KeepsBut Aspect.moving (siteUnknown order code s) :=
  .ite (siteWake_keepsBut order s)
    (.ite (.refl s _) ((validFrame_keepsBut order s).trans (onSup_moves _ _ rfl rfl rfl)))

theorem siteBadFrame_keepsBut (order : List Taker) (why : SiteFrameFault) (s : State) :
    s.KeepsBut Aspect.moving (siteBadFrame order why s) :=
  .ite (siteWake_keepsBut order s) (.ite (.refl s _) (onSup_moves _ _ rfl rfl rfl))

end Sys2Proof.Machine
end


section
/-! SUPPORT. The commands: every one but a reset, STRAPS and the end of LOAD keeps the configuration, the station number and
the order of the measurement chain. -/
namespace Sys2Proof.Machine

set_option Elab.async false

variable {s t u : State} {l m : List Aspect}

/-! ## Every command -/

theorem advance_keepsBut (e : Nat) (s : State) :
    s.KeepsBut [.schedule, .sender, .running, .log, .inputs] (advance e s) :=
  (advance_changedOnly e s).keepsBut

/-- A command keeps what its body keeps: the time before it and a change found in CHECK, which may follow it, break none
but the moving aspects. -/
theorem command_keepsBut {w : Moment} {body : State → State} (h : command w body s = .next t)
    (hb : ∀ s : State, s.KeepsBut Aspect.moving (body s)) : s.KeepsBut Aspect.moving t := by
  cases h
  exact (((advance_keepsBut _ s).mono rfl).trans (hb _)).trans ((leaveCheck_keepsBut _ _).mono rfl)

/-- Every command but STRAPS, the end of LOAD and the resets keeps the configuration, the station number and the order
of the measurement chain. -/
theorem exec_keepsBut {c : Instr} (h : exec c s = .next t) (hload : c.isLoadEnd = false) (hreset : c.canReset = false)
    (hheld : c.isHeldEnd = false) : s.KeepsBut Aspect.moving t := by
  unfold exec at h
  cases c <;> dsimp only at h
  case powerOn _ | pin _ | brownOut _ | restartReset _ => cases hreset
  case loadEnd _ _ _ => cases hload
  case heldEnd _ _ => cases hheld
  case supplyCheck _ zone => exact command_keepsBut h (checkSupply_keepsBut zone)
  case listenEnd _ =>
    exact command_keepsBut h fun s => .ite (.ite (onSup_moves _ s rfl rfl rfl) ((enterOperating_keepsBut _ s).mono rfl))
      (.refl s _)
  case checkEnd _ => exact command_keepsBut h fun s => .ite (fallAsleep_keepsBut _ s) (.refl s _)
  case measurementSet w sums =>
    rw [execMeasurementSet] at h
    split at h
    · exact command_keepsBut h (endPeriod_keepsBut w.order sums)
    · cases h
  case acEdge _ =>
    exact command_keepsBut h fun s => .ite (acMove_keepsBut _ (fun _ => acOnEdge_inOrder _) s) (.refl s _)
  case edgeTimeout _ =>
    exact command_keepsBut h fun s => .ite (acMove_keepsBut _ (fun a _ => acOnTimeout_inOrder a) s) (.refl s _)
  case contactQualified _ i => exact command_keepsBut h (qualifyContact_keepsBut _ i)
  case contactSample _ _ =>
    exact command_keepsBut h fun s => .ite ((onMch_contacts_keepsBut _ s rfl rfl rfl).mono rfl) (.refl s _)
  case pulseEnd _ =>
    refine command_keepsBut h fun s => ?_
    split
    · exact .ite ((onSdo_keepsBut _ s rfl rfl rfl).mono rfl) (.refl s _)
    · exact .refl s _
  case confirmationWindowExpiry _ =>
    refine command_keepsBut h fun s => ?_
    split
    · exact .ite ((sdoOnWindow_keepsBut _ _ s).mono rfl) (.refl s _)
    · exact .refl s _
  case frameBegin _ => exact command_keepsBut h fun s => (beginFrame_keepsBut s).mono rfl
  case frameComplete _ => exact command_keepsBut h (completeFrame_keepsBut _)
  case contentionLoss _ => exact command_keepsBut h fun s => .ite ((onPli_keepsBut _ s).mono rfl) (.refl s _)
  case driveFault _ =>
    exact command_keepsBut h fun s =>
      .ite (((onPli_keepsBut _ s).trans (lineFaultNow_keepsBut _ _ _)).mono rfl) (.refl s _)
  case lineStuck _ | lineStuckClear _ =>
    exact command_keepsBut h fun s => .ite ((onPli_then_takeCondition _ _ _ s).mono rfl) (.refl s _)
  case lineError _ _ => exact command_keepsBut h fun s => (discardFrame_keepsBut _ s).mono rfl
  case faultTimeExpiry _ => exact command_keepsBut h fun s => (faultTimeOut_keepsBut s).mono rfl
  case rateFaultClear _ => exact command_keepsBut h fun s => (rateFaultEnd_keepsBut _ s).mono rfl
  case statusNote _ _ _ _ => exact command_keepsBut h (hearNote_keepsBut _ _ _ _ (statusContent_gentle _ _ _))
  case genNote _ _ _ _ _ => exact command_keepsBut h (hearNote_keepsBut _ _ _ _ fun _ => genContent_gentle _ _ _ _)
  case restNote _ _ _ _ _ => exact command_keepsBut h (hearNote_keepsBut _ _ _ _ (restContent_gentle _ _ _ _))
  case wakeNote _ _ _ _ _ => exact command_keepsBut h (hearNote_keepsBut _ _ _ _ (wakeContent_gentle _ _))
  case pointNote _ _ _ _ | helloNote _ _ _ _ _ | quietNote _ _ _ _ =>
    exact command_keepsBut h (hearNote_keepsBut _ _ _ _ fun _ => ⟨fun s => .refl s _, fun s => .refl s _⟩)
  case dormantLineFrame _ frame => exact command_keepsBut h (hearAsleep_keepsBut _ frame)
  case statusPeriodicTimer _ => exact command_keepsBut h fun s => .ite ((enqueueStatus_keeps s).mono rfl) (.refl s _)
  case statusSpacingEnd _ =>
    exact command_keepsBut h fun s =>
      .ite (.ite ((enqueueStatus_keeps s).mono rfl) ((onPli_keepsBut _ s).mono rfl)) (.refl s _)
  case agingCheck _ => exact command_keepsBut h fun s => .ite ((ageRecords_keepsBut _ s).mono rfl) (.refl s _)
  case intentExpiry _ _ => exact command_keepsBut h fun s => .ite ((expireIntent_keepsBut _ s).mono rfl) (.refl s _)
  case rotationTick _ => exact command_keepsBut h fun s => .ite ((rotTick_keepsBut _ s).mono rfl) (.refl s _)
  case settleExpiry _ => exact command_keepsBut h fun s => .ite ((rotSettle_keepsBut _ s).mono rfl) (.refl s _)
  case rampStep _ =>
    refine command_keepsBut h fun s => ?_
    split
    · exact .ite ((rotRamp_keepsBut _ _ s).mono rfl) (.refl s _)
    · exact .refl s _
  case failClearExpiry _ => exact command_keepsBut h fun s => .ite ((rotFailClear_keepsBut _ s).mono rfl) (.refl s _)
  case genCheck _ => exact command_keepsBut h fun s => .ite ((gcoTick_keeps _ s).mono rfl) (.refl s _)
  case startTimeout _ => exact command_keepsBut h fun s => .ite ((gcoStartFailure_keeps _ s).mono rfl) (.refl s _)
  case restTimerExpiry _ => exact command_keepsBut h fun s => .ite ((gcoRestEnd_keeps _ s).mono rfl) (.refl s _)
  case epochSettle _ => exact command_keepsBut h fun s => .ite ((gcoSettle_keeps _ s).mono rfl) (.refl s _)
  case qualifyExpiry _ _ => exact command_keepsBut h fun s => .ite ((handPoint_keepsBut _ _ _ s).mono rfl) (.refl s _)
  case pointTimer _ => exact command_keepsBut h fun s => .ite ((enqueuePoint_keeps s).mono rfl) (.refl s _)
  case leanDwell _ => exact command_keepsBut h fun s => .ite ((tryLean_keepsBut _ s).mono rfl) (.refl s _)
  case siteHoldEnd _ =>
    exact command_keepsBut h fun s =>
      .ite (((onSup_moves _ s rfl rfl rfl).trans ((tryLean_keepsBut _ _).mono rfl)).trans
      (tryDormant_keepsBut _ _)) (.refl s _)
  case dormantDwell _ => exact command_keepsBut h fun s => .ite (tryDormant_keepsBut _ s) (.refl s _)
  case entryWaitTimeout _ => exact command_keepsBut h fun s => .ite (stopStation_keepsBut _ s) (.refl s _)
  case wakeTimer _ => exact command_keepsBut h fun s => .ite (wakeUp_keepsBut _ _ s) (.refl s _)
  case sitePortWake _ => exact command_keepsBut h (siteWake_keepsBut _)
  case periodicWriteTimer _ =>
    exact command_keepsBut h fun s =>
      .ite ((onSup_moves _ s rfl rfl rfl).trans ((triggerWrite_keeps _).mono rfl)) (.refl s _)
  case retainedWriteEnd _ _ =>
    refine command_keepsBut h fun s => ?_
    split
    · exact endWrite_keepsBut _ _ _ s
    · exact .refl s _
  case siteBadFrame _ why => exact command_keepsBut h (siteBadFrame_keepsBut _ why)
  case unknown _ code _ => exact command_keepsBut h (siteUnknown_keepsBut _ code)
  case statusRead _ args | pointsRead _ args =>
    exact command_keepsBut h (siteRequest_keepsBut _ _ args fun s => .refl s _)
  case peerRead _ args => exact command_keepsBut h (siteRequest_keepsBut _ _ args (peerRead_keepsBut _))
  case logRead _ args =>
    exact command_keepsBut h (siteRequest_keepsBut _ _ args fun s => (aluConsumeLog_keepsBut s).mono rfl)
  case ack _ args => exact command_keepsBut h (siteRequest_keepsBut _ _ args fun s => (aluAck_keepsBut _ s).mono rfl)
  case rectForceRun _ args | rectForceRest _ args | release _ args =>
    exact command_keepsBut h (siteRequest_keepsBut _ _ args (rectForce_keepsBut _ _))
  case genTest _ args =>
    exact command_keepsBut h (siteRequest_keepsBut _ _ args fun s => answerOf_keepsBut fun _ => gcoTest_keepsBut _ _)
  case lockoutClear _ args =>
    exact command_keepsBut h (siteRequest_keepsBut _ _ args fun s => answerOf_keepsBut fun _ => gcoClear_keepsBut _)
  case equalizeStart _ args | equalizeStop _ args =>
    exact command_keepsBut h (siteRequest_keepsBut _ _ args (equalize_keepsBut _ _))
  case resyncFull _ args =>
    exact command_keepsBut h (siteRequest_keepsBut _ _ args fun s => (sacFullResync_keepsBut _ s).mono rfl)
  case forgetPeer _ args => exact command_keepsBut h (siteRequest_keepsBut _ _ args (forgetPeer_keepsBut _ _))
  case restart _ args => exact command_keepsBut h (siteRequest_keepsBut _ _ args beginRestart_keepsBut)
  case lineIdle _ | courtesySatisfied _ =>
    exact command_keepsBut h fun s => .ite ((onPli_keepsBut _ s).mono rfl) (.refl s _)
  case overrun _ | sitePortGap _ => exact command_keepsBut h fun s => .ite (onSup_moves _ s rfl rfl rfl) (.refl s _)

end Sys2Proof.Machine
end


section
/-! SUPPORT. The measurement chain in order, the configuration, and that every command answers. -/
namespace Sys2Proof.Machine

set_option Elab.async false

variable {s t u : State}

/-! ## STRAPS, the end of LOAD and the resets -/

theorem execHeldEnd_keepsBut {w : Moment} {straps : BitVec 4} (h : exec (.heldEnd w straps) s = .next t) :
    s.KeepsBut (.number :: Aspect.moving) t := by
  cases h
  have hput : ∀ u : State, u.KeepsBut (.number :: Aspect.moving)
      (u.onSup fun x => { x with phase := .load, number := straps.toNat }) := fun u =>
    State.KeepsBut.and (a := .config) ((onSup_changedOnly _ u).keepsBut)
      ⟨rfl, rfl, rfl, rfl, fun _ => rfl, fun _ => rfl⟩
  exact (((advance_keepsBut _ s).mono rfl).trans (.ite (hput _) (.refl _ _))).trans ((leaveCheck_keepsBut _ _).mono rfl)

/-- What no command but the end of LOAD and the resets changes of the configuration. -/
theorem exec_configKept {c : Instr} (h : exec c s = .next t) (hload : c.isLoadEnd = false)
    (hreset : c.canReset = false) : s.ConfigKept t ∧ (c.isHeldEnd = false → t.sup.number = s.sup.number) := by
  cases hheld : c.isHeldEnd with
  | false =>
    have hkeep := exec_keepsBut h hload hreset hheld
    exact ⟨hkeep .config (by decide), fun _ => hkeep .number (by decide)⟩
  | true =>
    cases c <;> simp only [Instr.isHeldEnd, Bool.false_eq_true] at hheld
    exact ⟨execHeldEnd_keepsBut h .config (by decide), fun h => absurd h (by decide)⟩

theorem mchAtLoad_inOrder {c : Settings} {found : Nat → Found} {x : Mch}
    (h : ∀ ch, (chGet x.channels ch).InOrder) (ch : Ch) : (chGet (mchAtLoad c found x).channels ch).InOrder := by
  rw [mchAtLoad, chGet_chMap]
  have hch := h ch
  unfold Channel.InOrder at hch ⊢
  by_cases hc : c.unused ch = true
  · simp [hc]
  · simpa [hc] using hch

theorem takeRetained_mch (a : SacSettings) (v : Option Retained) (s : State) : (takeRetained a v s).mch = s.mch := by
  unfold takeRetained; split <;> rfl

theorem loadBlocks_mch (found : Nat → Found) (s : State) :
    ∃ c, (loadBlocks found s).mch = mchAtLoad c found s.mch := by
  unfold loadBlocks; dsimp only
  simp only [State.onSup_mch, State.onAlu_mch, State.onSac_mch, State.onSdo_mch, State.onMch_mch, takeRetained_mch,
    State.onSettings_mch]
  exact ⟨_, rfl⟩

theorem endLoad_inOrder (order : List Taker) (programmed : List (Nat × Byte)) (silent : List Nat)
    (h : s.MeasurementInOrder) : (endLoad order programmed silent s).MeasurementInOrder := by
  have hload : ∀ (found : Nat → Found) (u : State), u.MeasurementInOrder → (loadBlocks found u).MeasurementInOrder :=
    fun found u hu => by
      obtain ⟨c, hmch⟩ := loadBlocks_mch found u
      rw [measurementInOrder_iff] at hu ⊢
      rw [hmch]
      exact ⟨mchAtLoad_inOrder hu.1, hu.2⟩
  have hafter : ∀ u : State, u.KeepsBut Aspect.moving (listenEntry order false (beginPendingWrite u)) := fun u =>
    (((beginPendingWrite_keeps u).mono rfl).trans (onSup_moves _ _ rfl rfl rfl)).trans
      ((listenEntry_keepsBut order false _).mono rfl)
  have hlogs : ∀ (u : State) (vs : List Nat),
      u.KeepsBut Aspect.moving (vs.foldl (fun s v => logEntry .store 0 v s) u) :=
    fun u vs => (foldl_keepsBut (fun s _ => logEntry_keeps _ _ _ s) vs u).mono rfl
  unfold endLoad
  exact (((logEntry_keeps _ _ _ _).mono rfl).trans ((hlogs _ _).trans (hafter _))) .order (by decide)
    (hload _ (s.onStore _) h)

theorem Mch.reset_inOrder {s : State} (h : s.mch = .reset) : s.MeasurementInOrder := by
  rw [measurementInOrder_iff, h]
  exact ⟨fun ch => by cases ch <;> exact ⟨rfl, rfl⟩, AcCapture.inOrder_reset⟩

theorem resetNow_mch (kind : ResetKind) (s : State) : (resetNow kind s).mch = .reset := by
  unfold resetNow; split <;> rfl

theorem resetCause_inOrder (kind : ResetKind) (h : s.MeasurementInOrder) : (resetCause kind s).MeasurementInOrder := by
  unfold resetCause; split
  · exact h
  · exact Mch.reset_inOrder (resetNow_mch kind s)

theorem command_inOrder {w : Moment} {body : State → State} (h : command w body s = .next t)
    (hb : ∀ s : State, s.MeasurementInOrder → (body s).MeasurementInOrder) (hs : s.MeasurementInOrder) :
    t.MeasurementInOrder := by
  cases h
  exact leaveCheck_keepsBut _ _ .order (by decide) (hb _ (advance_keepsBut _ s .order (by decide) hs))

/-- Every command keeps the channels and the capture in order. -/
theorem exec_inOrder {c : Instr} (h : exec c s = .next t) (hs : s.MeasurementInOrder) : t.MeasurementInOrder := by
  by_cases hkeep : c.isLoadEnd = false ∧ c.canReset = false ∧ c.isHeldEnd = false
  · exact exec_keepsBut h hkeep.1 hkeep.2.1 hkeep.2.2 .order (by decide) hs
  · cases c <;> simp only [Instr.isLoadEnd, Instr.canReset, Instr.isHeldEnd, and_self, not_true_eq_false] at hkeep
    case heldEnd w straps => exact execHeldEnd_keepsBut h .order (by decide) hs
    all_goals unfold exec at h; dsimp only at h
    case powerOn w => exact command_inOrder h (fun s _ => Mch.reset_inOrder (resetNow_mch _ s)) hs
    case pin w => exact command_inOrder h (fun s => resetCause_inOrder _) hs
    case brownOut w =>
      refine command_inOrder h (fun s hs => ?_) hs
      split
      · exact resetCause_inOrder _ hs
      · exact hs
    case restartReset w =>
      refine command_inOrder h (fun s hs => ?_) hs
      split
      · exact Mch.reset_inOrder (resetNow_mch _ s)
      · exact hs
    case loadEnd w programmed silent =>
      refine command_inOrder h (fun s hs => ?_) hs
      split
      · exact endLoad_inOrder _ _ _ hs
      · exact hs

/-- One step keeps what every command keeps. -/
theorem step_inOrder (h : step s = .next t) (hs : s.MeasurementInOrder) : t.MeasurementInOrder := by
  unfold step at h
  split at h
  · cases h; exact hs
  · exact exec_inOrder h hs

/-- A command answers a next state, or it is a set whose sums no conversions can give. -/
theorem exec_answers (c : Instr) (s : State) :
    (∃ t, exec c s = .next t) ∨
      ∃ w sums, c = .measurementSet w sums ∧ s.sumsFit sums = false ∧ exec c s = .fault .impossibleSum := by
  cases c with
  | measurementSet w sums =>
    cases hfit : s.sumsFit sums with
    | true => exact .inl ⟨_, by simp only [exec, execMeasurementSet, hfit]; rfl⟩
    | false => exact .inr ⟨w, sums, rfl, hfit, by simp [exec, execMeasurementSet, hfit]⟩
  | _ => exact .inl ⟨_, rfl⟩

/-- Settles O2. -/
theorem everyCommandAnswers : Obligations.EveryCommandAnswers := exec_answers

/-- Settles O17: what each command does to MCH keeps every channel and the capture in order. -/
theorem channelsAndTheAcStateStayInOrder : Obligations.ChannelsAndTheAcStateStayInOrder :=
  fun _ _ hs h => step_inOrder h hs

/-- Settles O23. -/
theorem theConfigurationIsFixedBetweenStarts : Obligations.TheConfigurationIsFixedBetweenStarts :=
  fun _ _ _ h hload hreset => by
    obtain ⟨⟨hset, hfault, hdigest, hcal, hch, hout⟩, hnumber⟩ := exec_configKept h hload hreset
    exact ⟨hset, hfault, hdigest, hcal, hch, hout, hnumber⟩

end Sys2Proof.Machine
end


section
/-! SUPPORT. A completed measurement set (R1 to R12). -/
namespace Sys2Proof.Machine

set_option Elab.async false

variable {s t u : State}

/-! ## The state that a command finds -/

@[simp] theorem upTo_settings (s : State) (w : Moment) : (s.upTo w).settings = s.settings :=
  (advance_changedOnly w.elapsed s).settings
@[simp] theorem upTo_mch (s : State) (w : Moment) : (s.upTo w).mch = s.mch := (advance_changedOnly w.elapsed s).mch
@[simp] theorem upTo_sdo (s : State) (w : Moment) : (s.upTo w).sdo = s.sdo := (advance_changedOnly w.elapsed s).sdo
@[simp] theorem upTo_sac (s : State) (w : Moment) : (s.upTo w).sac = s.sac := (advance_changedOnly w.elapsed s).sac
@[simp] theorem upTo_csc (s : State) (w : Moment) : (s.upTo w).csc = s.csc := (advance_changedOnly w.elapsed s).csc
@[simp] theorem upTo_pli (s : State) (w : Moment) : (s.upTo w).pli = s.pli := (advance_changedOnly w.elapsed s).pli
@[simp] theorem upTo_ptb (s : State) (w : Moment) : (s.upTo w).ptb = s.ptb := (advance_changedOnly w.elapsed s).ptb
@[simp] theorem upTo_rot (s : State) (w : Moment) : (s.upTo w).rot = s.rot := (advance_changedOnly w.elapsed s).rot
@[simp] theorem upTo_gco (s : State) (w : Moment) : (s.upTo w).gco = s.gco := (advance_changedOnly w.elapsed s).gco
@[simp] theorem upTo_sup (s : State) (w : Moment) : (s.upTo w).sup = s.sup := (advance_changedOnly w.elapsed s).sup
@[simp] theorem upTo_store (s : State) (w : Moment) : (s.upTo w).store = s.store :=
  (advance_changedOnly w.elapsed s).store
@[simp] theorem upTo_spoiled (s : State) (w : Moment) : (s.upTo w).spoiled = s.spoiled :=
  (advance_changedOnly w.elapsed s).spoiled
@[simp] theorem upTo_pending (s : State) (w : Moment) : (s.upTo w).pending = s.pending :=
  (advance_changedOnly w.elapsed s).pending
@[simp] theorem upTo_awake (s : State) (w : Moment) : (s.upTo w).awake = s.awake := by simp [State.awake]
@[simp] theorem upTo_asleep (s : State) (w : Moment) : (s.upTo w).asleep = s.asleep := by simp [State.asleep]

/-- Of ALU the passing of time moves the log clock alone (R172). -/
theorem upTo_alu (s : State) (w : Moment) :
    (s.upTo w).alu = { s.alu with clockS := (s.upTo w).alu.clockS, clockFrac := (s.upTo w).alu.clockFrac } := by
  unfold State.upTo advance; dsimp only; split <;> rfl

@[simp] theorem upTo_running (s : State) (w : Moment) : (s.upTo w).alu.running = s.alu.running := by rw [upTo_alu]
@[simp] theorem upTo_points (s : State) (w : Moment) : (s.upTo w).alu.points = s.alu.points := by rw [upTo_alu]
@[simp] theorem upTo_log (s : State) (w : Moment) : (s.upTo w).alu.log = s.alu.log := by rw [upTo_alu]

/-- Nothing found waits in the state that a command finds, where none did before. -/
theorem upTo_steady (w : Moment) (h : s.Steady) : (s.upTo w).Steady := by
  unfold State.Steady at *; simpa using h

theorem command_eq (w : Moment) (body : State → State) (s : State) :
    command w body s = .next (leaveCheck w.order (body (s.upTo w))) := rfl

/-! ## A completed period -/

/-- A sample takes a channel by the tables of R8, R9 and R10. -/
theorem channelTakes_takesSample (rail : Bool) (e : Int) (c : Channel) :
    Channel.TakesSample rail e c (channelTakes rail e c) := by
  refine ⟨channelTakes_calibration rail e c, ?_⟩
  unfold channelTakes
  cases hstatus : c.status <;> cases rail <;> dsimp only [Channel.fresh]
  case held.true => split <;> simp
  case failed.false => split <;> simp
  all_goals simp

theorem deliverSet_changedOnly (order : List Taker) (p number : Nat) (s : State) :
    s.ChangedOnly [.sac, .csc, .cbu, .alu, .sdo, .pli, .sup, .gco] (deliverSet order p number s) := by
  refine fan_induction order (P := State.ChangedOnly s _) ?_ s (.refl s _)
  simp only [List.forall_mem_cons]
  exact ⟨fun t h => h.trans ((takeCondition_changedOnly _ _ t).mono rfl),
    fun t h => h.trans ((sacOnSet_changedOnly _ _ t).mono rfl),
    fun t h => h.trans ((cscOnSet_changedOnly _ _ t).mono rfl),
    fun t h => h.trans ((cbuOnSet_changedOnly _ _ t).mono rfl),
    fun t h => h.trans ((aluOnSet_changedOnly _ t).mono rfl),
    List.forall_mem_nil _⟩

/-- What a set is of MCH: the end of its period; and what its delivery can change. -/
theorem exec_measurementSet (w : Moment) (sums : PerChannel Nat) {p : Nat} (hawake : s.awake = true)
    (hperiod : s.mch.period = some p) (hfit : s.sumsFit sums = true) :
    ∃ t, exec (.measurementSet w sums) s = .next t ∧ t.mch = mchEndPeriod p s.sup.mode sums s.mch ∧
      (s.upTo w).ChangedOnly [.mch, .sac, .csc, .cbu, .alu, .sdo, .pli, .sup, .gco] t := by
  have hend : endPeriod w.order sums (s.upTo w) =
      deliverSet w.order p s.mch.nextNumber ((s.upTo w).onMch (mchEndPeriod p s.sup.mode sums)) := by
    simp [endPeriod, hperiod, hawake]
  refine ⟨_, by rw [exec, execMeasurementSet, if_pos hfit, command_eq], ?_, ?_⟩
  all_goals rw [hend]
  · rw [(leaveCheck_changedOnly _ _).mch, (deliverSet_changedOnly _ _ _ _).mch, State.onMch_mch, upTo_mch]
  · exact (((onMch_changedOnly _ _).mono rfl).trans ((deliverSet_changedOnly _ _ _ _).mono rfl)).trans
      ((leaveCheck_changedOnly _ _).mono rfl)

/-- Settles O34: the channels by the tables of their status, and MCH's other fields at the end of a period. -/
theorem aSetTakesEveryChannel : Obligations.ASetTakesEveryChannel := by
  intro w s sums p hawake hperiod hfit
  obtain ⟨t, hexec, hmch, hchanged⟩ := exec_measurementSet w sums hawake hperiod hfit
  refine ⟨t, hexec, fun ch => ?_, ?_, ?_, ?_, ⟨?_, ?_⟩, hchanged⟩
  all_goals rw [hmch, mchEndPeriod]
  rw [chGet_chMap]
  exact channelTakes_takesSample _ _ _

end Sys2Proof.Machine
end


section
/-! SUPPORT. What the resets leave (R174, R175, R183, R191). -/
namespace Sys2Proof.Machine

set_option Elab.async false

/-! ## The record of a write cut short (R183, R191) -/

/-- A record of which the two length bytes are erased is absent (R176). -/
theorem readRecord_of_erased {m : List Host.Cell} (record : Nat)
    (h : storeReadN m (recordAddress record) 2 = [erased, erased]) : readRecord m [] record = .inl .absent := by
  unfold readRecord
  simp only [h]
  exact if_pos (.inr rfl)

/-- The record of a write cut short fails its check or is absent. -/
theorem readRecord_storeAfterCutWrite (n : Nat) {m : List Host.Cell} (h : storeWf m = true) :
    (readRecord (storeAfterCutWrite n m) [] 13).isLeft = true := by
  unfold storeAfterCutWrite
  dsimp only
  split
  next e hread => rw [hread]; rfl
  next b hread =>
    rw [readRecord_of_erased 13 (storeReadN_storeWriteAll _ [erased, erased] (storeAfterFailedWrite_wf n h))]; rfl

theorem cutWrite_of_idle {s : State} (h : s.sup.writing = none) : cutWrite s = (s.store, s.spoiled) := by
  simp [cutWrite, h]

theorem cutWrite_of_writing {s : State} (h : s.sup.writing.isSome = true) :
    cutWrite s = (storeAfterCutWrite s.spoiled s.store, s.spoiled + 1) := by
  simp [cutWrite, h]

@[simp] theorem cutWrite_upTo (s : State) (w : Moment) : cutWrite (s.upTo w) = cutWrite s := by simp [cutWrite]

/-! ## The points over a PIN or RESTART reset (R174) -/

theorem keepPoint_keptAs (latch : Bool) (p : Point) : Point.KeptAs latch p (keepPoint latch p) := by
  unfold Point.KeptAs keepPoint
  cases p.state <;> cases latch <;> cases p.acked <;> simp

/-- Each of the 32 points is kept by the latch it was configured with. -/
theorem keptPoints_keptAs {s : State} (hp : s.alu.points.length = 32) (hc : s.settings.alu.points.length = 32) :
    s.keptPoints.length = 32 ∧
      ∀ id ∈ pointIds, Point.KeptAs (pointConfig s id).latch (pointGet s.alu.points id) (pointGet s.keptPoints id) := by
  refine ⟨by simp [State.keptPoints, State.configuredPoints, hp, hc], fun id hid => ?_⟩
  have hlt : id - 1 < 32 := by simp only [pointIds, List.mem_map, List.mem_range] at hid; omega
  have hpoint : pointGet s.keptPoints id = keepPoint (pointConfig s id).latch (pointGet s.alu.points id) := by
    simp [pointGet, pointConfig, State.keptPoints, State.configuredPoints, hp, hc, hlt]
  rw [hpoint]
  exact keepPoint_keptAs _ _

/-! ## The state after a reset -/

/-- After a reset no point has a condition, an acknowledgement or a timer. -/
theorem resetNow_points (kind : ResetKind) (s : State) :
    ∀ p ∈ (resetNow kind s).alu.points, p.condition = false ∧ p.acked = false ∧ p.timerEnd = none := by
  intro p hp
  unfold resetNow at hp
  split at hp
  · simp only [warmReset, State.keptPoints, List.mem_map] at hp
    obtain ⟨x, -, rfl⟩ := hp
    exact ⟨rfl, rfl, rfl⟩
  · obtain rfl : p = Point.reset := List.eq_of_mem_replicate (n := 32) hp
    exact ⟨rfl, rfl, rfl⟩

/-- Whatever the machine was doing, a reset leaves every block in its reset state. -/
theorem resetNow_freshlyReset (kind : ResetKind) (s : State) : (resetNow kind s).FreshlyReset kind := by
  have hpoints := resetNow_points kind s
  cases kind <;>
    exact ⟨rfl, rfl, rfl, rfl, rfl, rfl, rfl, rfl, rfl, rfl, rfl, rfl, rfl, rfl, rfl, rfl, rfl, rfl, rfl, rfl, rfl, rfl,
      rfl, hpoints, rfl, rfl, rfl, rfl⟩

theorem resetNow_steady (kind : ResetKind) (s : State) : (resetNow kind s).Steady := by
  have hsup := (resetNow_freshlyReset kind s).1
  intro hphase
  rw [hsup]
  rfl

theorem resetNow_cutWrite (kind : ResetKind) (s : State) :
    (resetNow kind s).store = (cutWrite s).1 ∧ (resetNow kind s).spoiled = (cutWrite s).2 ∧
      (resetNow kind s).pending = s.pending := by
  unfold resetNow; split <;> exact ⟨rfl, rfl, rfl⟩

/-- What the store of a reset is: as it was, or that of a write cut short (R183, R191). -/
theorem resetNow_store (kind : ResetKind) (w : Moment) (s : State) :
    (s.sup.writing = none →
      (resetNow kind (s.upTo w)).store = s.store ∧ (resetNow kind (s.upTo w)).spoiled = s.spoiled) ∧
    (s.StoreCanonical → s.sup.writing.isSome = true → (resetNow kind (s.upTo w)).spoiled = s.spoiled + 1 ∧
      (readRecord (resetNow kind (s.upTo w)).store [] 13).isLeft = true) := by
  obtain ⟨hstore, hspoiled, -⟩ := resetNow_cutWrite kind (s.upTo w)
  rw [hstore, hspoiled, cutWrite_upTo]
  refine ⟨fun h => ?_, fun hwf h => ?_⟩
  · rw [cutWrite_of_idle h]; exact ⟨rfl, rfl⟩
  · rw [cutWrite_of_writing h]
    refine ⟨rfl, ?_⟩
    dsimp only
    exact readRecord_storeAfterCutWrite s.spoiled hwf

/-- What a PIN or RESTART reset keeps in RAM (R47, R58, R59, R138, R158, R174). -/
theorem warmReset_keptOver (kind : ResetKind) (s : State) : s.KeptOver (warmReset kind s) :=
  ⟨rfl, rfl, rfl, rfl, rfl, rfl, rfl, rfl, rfl, rfl, rfl, rfl, rfl, rfl, rfl, rfl, rfl⟩

theorem warmReset_points (kind : ResetKind) (w : Moment) (s : State) :
    (warmReset kind (s.upTo w)).alu.points = s.keptPoints := by
  simp [warmReset, State.keptPoints, State.configuredPoints]

/-- A reset that loses RAM leaves the state of a POWER_ON reset, but for the store and the queue. -/
theorem coldReset_upTo (kind : ResetKind) (w : Moment) (s : State) :
    coldReset kind (s.upTo w) =
      { State.reset with
        sup := { Sup.reset with resetKind := kind, startCause := kind.cause }
        store := (coldReset kind (s.upTo w)).store, spoiled := (coldReset kind (s.upTo w)).spoiled
        pending := s.pending } := by
  unfold coldReset
  rw [upTo_pending]

/-! ## The commands -/

theorem exec_powerOn (w : Moment) (s : State) : exec (.powerOn w) s = .next (resetNow .powerOn (s.upTo w)) := by
  rw [exec, execPowerOn, command_eq, leaveCheck_of_steady _ (resetNow_steady _ _)]

/-- A PIN or BROWN_OUT cause outside HELD is a reset. -/
theorem resetCause_of_running (kind : ResetKind) {s : State} (h : s.sup.phase ≠ .held) :
    resetCause kind s = resetNow kind s := if_neg h

theorem exec_brownOut (w : Moment) {s : State} (hphase : s.sup.phase ≠ .held) (hlow : s.sup.lowCount = 4) :
    exec (.brownOut w) s = .next (resetNow .brownOut (s.upTo w)) := by
  rw [exec, execBrownOut, command_eq, if_pos (by simpa using hlow), resetCause_of_running _ (by simpa using hphase),
    leaveCheck_of_steady _ (resetNow_steady _ _)]

theorem exec_pin (w : Moment) {s : State} (hphase : s.sup.phase ≠ .held) :
    exec (.pin w) s = .next (resetNow .pin (s.upTo w)) := by
  rw [exec, execPin, command_eq, resetCause_of_running _ (by simpa using hphase),
    leaveCheck_of_steady _ (resetNow_steady _ _)]

theorem exec_restartReset (w : Moment) {s : State} (hdue : (s.upTo w).restartDue = true) :
    exec (.restartReset w) s = .next (resetNow .restart (s.upTo w)) := by
  rw [exec, execRestartReset, command_eq, if_pos hdue, leaveCheck_of_steady _ (resetNow_steady _ _)]

/-- The reset of a RESTART waits for a write in flight (R184). -/
theorem writing_none_of_restartDue {s : State} (h : s.restartDue = true) : s.sup.writing = none := by
  unfold State.restartDue at h
  split at h
  · simp only [Bool.and_eq_true, Option.isNone_iff_eq_none] at h
    exact h.1.1
  · cases h

/-- Settles O28: each command is its reset, of which the lemmas above say what it leaves. -/
theorem resetsStartAfresh : Obligations.ResetsStartAfresh := by
  refine ⟨fun w s => ?_, fun w s hphase hlow => ?_, fun w s hphase => ?_, fun w s hdue => ?_⟩
  · exact ⟨_, exec_powerOn w s, resetNow_freshlyReset _ _, coldReset_upTo _ w s, resetNow_store _ w s⟩
  · exact ⟨_, exec_brownOut w hphase hlow, resetNow_freshlyReset _ _, coldReset_upTo _ w s, resetNow_store _ w s⟩
  · obtain ⟨hidle, hwriting⟩ := resetNow_store .pin w s
    refine ⟨_, exec_pin w hphase, resetNow_freshlyReset _ _, upTo_pending s w, hidle, hwriting, warmReset_keptOver _ _,
      fun hp hc => ?_⟩
    rw [show (resetNow .pin (s.upTo w)).alu.points = _ from warmReset_points .pin w s]
    exact keptPoints_keptAs hp hc
  · obtain ⟨hidle, -⟩ := resetNow_store .restart w s
    have hwriting := writing_none_of_restartDue hdue
    rw [upTo_sup] at hwriting
    refine ⟨_, exec_restartReset w hdue, resetNow_freshlyReset _ _, upTo_pending s w, hidle hwriting,
      warmReset_keptOver _ _, fun hp hc => ?_⟩
    rw [show (resetNow .restart (s.upTo w)).alu.points = _ from warmReset_points .restart w s]
    exact keptPoints_keptAs hp hc

end Sys2Proof.Machine
end


section
/-! SUPPORT. What a hand-off leaves of a part that one of its takers alone writes, the entry to a rectifier state (R122),
and DORMANT entry (R180, R182). -/
namespace Sys2Proof.Machine

set_option Elab.async false

variable {s t u : State}

/-! ## A part that one taker writes -/

/-- Takers in a row, of which `x` alone writes a part, leave it as it was, or as `x` writes it where `x` is among
them. -/
theorem foldl_part {α : Type} {π : State → α} {g : α → α} {f : Taker → State → State} {x : Taker}
    (hg : ∀ a, g (g a) = g a) (hset : ∀ s, π (f x s) = g (π s)) (ts : List Taker)
    (hkeep : ∀ y ∈ ts, y ≠ x → ∀ s, π (f y s) = π s) (s : State) :
    π (ts.foldl (fun s t => f t s) s) = if x ∈ ts then g (π s) else π s := by
  induction ts generalizing s with
  | nil => rfl
  | cons y ts ih =>
    rw [List.foldl_cons, ih (fun z hz => hkeep z (List.mem_cons_of_mem y hz))]
    by_cases hy : y = x
    · subst hy; simp [hset, hg]
    · simp [hkeep y List.mem_cons_self hy, Ne.symm hy]

/-- A hand-off of which one taker alone writes a part leaves that part as this taker writes it. -/
theorem fan_part {α : Type} (order : List Taker) {takers : List Taker} {f : Taker → State → State} (π : State → α)
    (g : α → α) (x : Taker) (hx : x ∈ takers) (hg : ∀ a, g (g a) = g a) (hset : ∀ s, π (f x s) = g (π s))
    (hkeep : ∀ y ∈ takers, y ≠ x → ∀ s, π (f y s) = π s) (s : State) : π (fan order takers f s) = g (π s) := by
  unfold fan
  rw [foldl_part hg hset _ fun y hy => hkeep y (mem_arrange.mp hy), if_pos (mem_arrange.mpr hx)]

/-- What one taker of a hand-off brings about, from what the takers before it keep, and every taker keeps, holds after
the hand-off. -/
theorem fan_establishes (order : List Taker) {takers : List Taker} {f : Taker → State → State} {I P : State → Prop}
    (x : Taker) (hx : x ∈ takers) (hI : ∀ y ∈ takers, y ≠ x → ∀ s, I s → I (f y s)) (hP : ∀ s, I s → P (f x s))
    (hkeep : ∀ y ∈ takers, ∀ s, P s → P (f y s)) (s : State) (hs : I s) : P (fan order takers f s) := by
  have hfold : ∀ ts : List Taker, (∀ y ∈ ts, y ∈ takers) → ∀ t, (P t ∨ I t ∧ x ∈ ts) →
      P (ts.foldl (fun s t => f t s) t) := by
    intro ts
    induction ts with
    | nil => intro _ t ht; simpa using ht
    | cons y ts ih =>
      intro hts t ht
      have hy := hts y List.mem_cons_self
      refine ih (fun z hz => hts z (List.mem_cons_of_mem y hz)) _ ?_
      rcases ht with ht | ⟨ht, hxy⟩
      · exact .inl (hkeep y hy t ht)
      · by_cases hyx : y = x
        · exact .inl (hyx ▸ hP t ht)
        · exact .inr ⟨hI y hy hyx t ht, (List.mem_cons.mp hxy).resolve_left (Ne.symm hyx)⟩
  exact hfold _ (fun y => mem_arrange.mp) s (.inr ⟨hs, mem_arrange.mpr hx⟩)

/-! ## The entry to a rectifier state (R122) -/

/-- What each taker of the entry to a state makes of the state; `old` is the state left. -/
def rectTakes (order : List Taker) (old new : RectState) (y : Taker) (s : State) : State :=
  match y with
  | .sdo => rectDrive s
  | .pli => requestStatus s
  | .log => logEntry .rect 0 (twoParts old.code new.code) s
  | .alu => takeCondition order 8 s
  | _ => s

theorem enterRect_eq (order : List Taker) (x : RectState) (s : State) :
    enterRect order x s =
      fan order [.sdo, .pli, .log, .alu] (rectTakes order s.rot.state x) (s.onRot (rectEntry x s.now)) := rfl

theorem rectTakes_changedOnly (order : List Taker) (old new : RectState) (y : Taker) (s : State) :
    s.ChangedOnly [.sdo, .pli, .alu] (rectTakes order old new y s) := by
  cases y with
  | sdo => exact (rectDrive_changedOnly s).mono rfl
  | pli => exact (requestStatus_changedOnly s).mono rfl
  | log => exact (logEntry_changedOnly _ _ _ s).mono rfl
  | alu => exact (takeCondition_changedOnly _ _ s).mono rfl
  | _ => exact .refl s _

/-- Of ROT's fields the entry to a state changes what R122 says, whatever it hands on. -/
theorem enterRect_rot (order : List Taker) (x : RectState) (s : State) :
    (enterRect order x s).rot = rectEntry x s.now s.rot :=
  (fan_changedOnly order _ (rectTakes_changedOnly order s.rot.state x) (s.onRot (rectEntry x s.now))).rot

/-! ## The takers of DORMANT entry -/

/-- What each taker of DORMANT entry makes of the state. -/
def dormantTakes (order : List Taker) (x : Taker) (s : State) : State :=
  match x with
  | .mch => takeConditions order mchPoints (s.onMch mchOnDormant)
  | .sac => s.onSac fun x => { x with resyncDwell := 0 }
  | .csc => s.onCsc cscOnDormant
  | .pli => pliOnDormant order s
  | .cbu => s.onCbu fun _ => .reset
  | .rot => rotOnDormant order s
  | .gco => gcoOnDormant order s
  | .alu => s.onAlu aluOnDormant
  | _ => s

/-- The takers of DORMANT entry. -/
def dormantTakers : List Taker := [.mch, .sac, .csc, .pli, .cbu, .rot, .gco, .alu]

theorem dormantEntry_eq (order : List Taker) (s : State) :
    dormantEntry order s = fan order dormantTakers (dormantTakes order) (s.onSdo sdoOnDormant) := rfl

/-- The parts that each taker of DORMANT entry can change. -/
def dormantParts : Taker → List Part
  | .mch => [.mch, .alu, .sdo, .pli]
  | .sac => [.sac]
  | .csc => [.csc]
  | .pli => [.pli, .alu, .sdo]
  | .cbu => [.cbu]
  | .rot => [.rot, .sdo, .pli, .alu]
  | .gco => [.gco, .sdo, .pli, .alu, .sup]
  | .alu => [.alu]
  | _ => []

/-- The aspects that each taker of DORMANT entry can break. -/
def dormantBreaks : Taker → List Aspect
  | .mch => [.mch, .capture, .inputs]
  | .sac => [.idle]
  | .pli => [.receiver]
  | .rot => [.rectOut]
  | .alu => [.running, .inputs]
  | _ => []

theorem dormantTakes_changedOnly (order : List Taker) (x : Taker) (s : State) :
    s.ChangedOnly (dormantParts x) (dormantTakes order x s) := by
  cases x with
  | mch => exact ((onMch_changedOnly _ s).mono rfl).trans ((takeConditions_changedOnly _ _ _).mono rfl)
  | sac => exact onSac_changedOnly _ s
  | csc => exact onCsc_changedOnly _ s
  | pli => exact ((onPli_changedOnly _ s).mono rfl).trans ((takeCondition_changedOnly _ _ _).mono rfl)
  | cbu => exact onCbu_changedOnly _ s
  | rot => exact rotOnDormant_changedOnly _ s
  | gco => exact gcoOnDormant_changedOnly _ s
  | alu => exact onAlu_changedOnly _ s
  | _ => exact .refl s _

theorem dormantTakes_keepsBut (order : List Taker) (x : Taker) (s : State) :
    s.KeepsBut (dormantBreaks x) (dormantTakes order x s) := by
  cases x with
  | mch => exact (mchOnDormant_keepsBut s).trans ((takeConditions_keeps _ _ _).mono rfl)
  | sac => exact onSac_keepsBut _ s
  | csc => exact onCsc_keepsBut _ s
  | pli => exact pliOnDormant_keepsBut _ s
  | cbu => exact onCbu_keepsBut _ s
  | rot => exact rotOnDormant_keepsBut _ s
  | gco => exact gcoOnDormant_keeps _ s
  | alu => exact aluOnDormant_keepsBut s
  | _ => exact .refl s _

/-! ## What DORMANT entry leaves of each block -/

theorem dormantEntry_mch (order : List Taker) (s : State) : (dormantEntry order s).mch = mchOnDormant s.mch := by
  have hidem : ∀ m : Mch, mchOnDormant (mchOnDormant m) = mchOnDormant m := fun m => by
    have hch : ∀ c : Channel, sleepChannel (sleepChannel c) = sleepChannel c := fun c => by
      unfold sleepChannel; by_cases h : c.status = .unused <;> simp [h]
    simp [mchOnDormant, chMap, hch]
  refine fan_part order State.mch mchOnDormant .mch (by decide) hidem (fun s => ?_) (fun y _ hy s => ?_) _
  · exact (takeConditions_changedOnly _ _ _).mch
  · exact (dormantTakes_changedOnly order y s).mch (by cases y <;> simp_all [dormantParts])

theorem dormantEntry_sac (order : List Taker) (s : State) :
    (dormantEntry order s).sac = { s.sac with resyncDwell := 0 } :=
  fan_part order State.sac (fun x => { x with resyncDwell := 0 }) .sac (by decide) (fun _ => rfl) (fun _ => rfl)
    (fun y _ hy s => (dormantTakes_changedOnly order y s).sac (by cases y <;> simp_all [dormantParts])) _

theorem dormantEntry_csc (order : List Taker) (s : State) : (dormantEntry order s).csc = cscOnDormant s.csc :=
  fan_part order State.csc cscOnDormant .csc (by decide) (fun _ => rfl) (fun _ => rfl)
    (fun y _ hy s => (dormantTakes_changedOnly order y s).csc (by cases y <;> simp_all [dormantParts])) _

theorem dormantEntry_cbu (order : List Taker) (s : State) : (dormantEntry order s).cbu = .reset :=
  fan_part order State.cbu (fun _ => .reset) .cbu (by decide) (fun _ => rfl) (fun _ => rfl)
    (fun y _ hy s => (dormantTakes_changedOnly order y s).cbu (by cases y <;> simp_all [dormantParts])) _

/-- ROT in NO_INPUT, with its run time. -/
theorem rotOnDormant_rot (order : List Taker) (s : State) :
    (rotOnDormant order s).rot =
      { rectEntry .noInput s.now s.rot with swapClock := 0, lastNreq := 0, lastT := 0, lastNr := 0, lastNw := 0 } := by
  unfold rotOnDormant
  dsimp only
  split
  · rw [State.onRot_rot, (rectDrive_changedOnly _).rot, State.onRot_rot]
  · rw [State.onRot_rot, enterRect_rot]

theorem dormantEntry_rot (order : List Taker) (s : State) :
    (dormantEntry order s).rot.state = .noInput ∧ (dormantEntry order s).rot.runMinutes = s.rot.runMinutes ∧
      (dormantEntry order s).rot.runSeconds = s.rot.runSeconds := by
  have h := fan_part order (fun s : State => (s.rot.state, s.rot.runMinutes, s.rot.runSeconds))
    (fun r => (.noInput, r.2)) (f := dormantTakes order) (takers := dormantTakers) .rot (by decide) (fun _ => rfl)
    (fun s => by simp [dormantTakes, rotOnDormant_rot, rectEntry])
    (fun y _ hy s => by
      rw [(dormantTakes_changedOnly order y s).rot (by cases y <;> simp_all [dormantParts])])
    (s.onSdo sdoOnDormant)
  simpa [dormantEntry_eq] using h

/-- A demand state or a rest of the generator ends to IDLE (R154). -/
def GenState.asleep : GenState → GenState
  | .demandWait => .idle
  | .demandRun => .idle
  | .runRest => .idle
  | x => x

theorem gcoMove_gco (order : List Taker) (f : Gco → Gco) (logs : List (LogKind × Nat × Nat)) (s : State) :
    (gcoMove order f logs s).gco = f s.gco := (gcoHand_changedOnly _ _ _ _ _ _).gco

theorem gcoOnDormant_gco (order : List Taker) (s : State) :
    (gcoOnDormant order s).gco.state = s.gco.state.asleep ∧ (gcoOnDormant order s).gco.lockSet = s.gco.lockSet ∧
      (gcoOnDormant order s).gco.epoch = s.gco.epoch := by
  unfold gcoOnDormant
  cases hstate : s.gco.state <;> dsimp only
  case demandWait | demandRun =>
    rw [gcoRelease, gcoMove_gco]; exact ⟨rfl, rfl, rfl⟩
  case runRest => rw [gcoMove_gco]; exact ⟨rfl, rfl, rfl⟩
  all_goals exact ⟨hstate, rfl, rfl⟩

theorem dormantEntry_gco (order : List Taker) (s : State) :
    (dormantEntry order s).gco.state = s.gco.state.asleep ∧ (dormantEntry order s).gco.lockSet = s.gco.lockSet ∧
      (dormantEntry order s).gco.epoch = s.gco.epoch := by
  have h := fan_part order (fun s : State => (s.gco.state, s.gco.lockSet, s.gco.epoch))
    (fun r => (r.1.asleep, r.2)) (f := dormantTakes order) (takers := dormantTakers) .gco (by decide)
    (fun r => by cases hr : r.1 <;> rfl)
    (fun s => by
      obtain ⟨hstate, hlock, hepoch⟩ := gcoOnDormant_gco order s
      rw [dormantTakes, hstate, hlock, hepoch])
    (fun y _ hy s => by
      rw [(dormantTakes_changedOnly order y s).gco (by cases y <;> simp_all [dormantParts])])
    (s.onSdo sdoOnDormant)
  simpa [dormantEntry_eq] using h

theorem dormantEntry_receiver (order : List Taker) (s : State) :
    (dormantEntry order s).pli.window = [] ∧ (dormantEntry order s).pli.rateFault = false ∧
      (dormantEntry order s).pli.stuck = false ∧ (dormantEntry order s).pli.rx = .hunt ∧
      (dormantEntry order s).pli.sequence = s.pli.sequence := by
  have h := fan_part order
    (fun s : State => (s.pli.window, s.pli.rateFault, s.pli.stuck, s.pli.rx, s.pli.sequence))
    (fun r => ([], false, false, .hunt, r.2.2.2.2)) (f := dormantTakes order) (takers := dormantTakers) .pli
    (by decide) (fun _ => rfl)
    (fun s => by
      obtain ⟨hwindow, hrate, hstuck, hrx, hseq⟩ := (takeCondition_keeps order 17 (s.onPli fun p =>
        { p with window := [], rateFault := false, belowSince := none, stuck := false, rx := .hunt })) .receiver
          (by decide)
      simp [dormantTakes, pliOnDormant, hwindow, hrate, hstuck, hrx, hseq])
    (fun y _ hy s => by
      obtain ⟨hwindow, hrate, hstuck, hrx, hseq⟩ := dormantTakes_keepsBut order y s .receiver
        (by cases y <;> simp_all [dormantBreaks])
      rw [hwindow, hrate, hstuck, hrx, hseq])
    (s.onSdo sdoOnDormant)
  simpa [dormantEntry_eq] using h

theorem dormantEntry_running (order : List Taker) (s : State) : (dormantEntry order s).alu.running = false :=
  fan_part order (fun s : State => s.alu.running) (fun _ => false) .alu (by decide) (fun _ => rfl) (fun _ => rfl)
    (fun y _ hy s => dormantTakes_keepsBut order y s .running (by cases y <;> simp_all [dormantBreaks])) _

/-- DORMANT entry keeps the mode of a station that is out of OPERATING. -/
theorem dormantEntry_mode (order : List Taker) (h : s.operating = false) :
    (dormantEntry order s).sup.mode = s.sup.mode := by
  refine (fan_induction order (P := fun t => t.operating = false ∧ t.sup.mode = s.sup.mode) (fun x _ t ht => ?_)
    (s.onSdo sdoOnDormant) ⟨h, rfl⟩).2
  obtain ⟨hop, hmode⟩ := ht
  change (dormantTakes order x t).operating = false ∧ (dormantTakes order x t).sup.mode = s.sup.mode
  by_cases hx : x = .sac
  · rw [hx]; exact ⟨hop, hmode⟩
  · obtain ⟨hop', hmode', -⟩ := dormantTakes_keepsBut order x t .idle (by cases x <;> simp_all [dormantBreaks]) hop
    exact ⟨hop', hmode'.trans hmode⟩

end Sys2Proof.Machine
end


section
/-! SUPPORT. A station that falls asleep (R180, R182). -/
namespace Sys2Proof.Machine

set_option Elab.async false

variable {s t u : State}

/-! ## The supervisor's part -/

/-- After a trigger a write runs or waits (R183). -/
theorem triggerWrite_triggered (s : State) :
    (triggerWrite s).sup.writing.isSome = true ∨ (triggerWrite s).sup.pendingWrite = true := by
  unfold triggerWrite
  split
  · exact .inr rfl
  · exact .inl rfl

theorem triggerWrite_mode (s : State) : (triggerWrite s).sup.mode = s.sup.mode := by
  unfold triggerWrite; split <;> rfl

/-- What a station's falling asleep changes beyond SUP's own fields. -/
theorem fallAsleep_keepsBut_supSleep (order : List Taker) (s : State) :
    (s.onSup (supSleep s.wakeTime)).KeepsBut
      [.undriven, .contactor, .rectOut, .mch, .capture, .inputs, .idle, .receiver, .running] (fallAsleep order s) :=
  (((recomputeRelays_keeps _).mono rfl).trans ((sdoOnDormant_keepsBut _).mono rfl)).trans
    (((dormantEntry_keepsBut order _).mono rfl).trans ((triggerWrite_keeps _).mono rfl))

theorem fallAsleep_keepsBut_asleep (order : List Taker) (s : State) :
    s.KeepsBut [.schedule, .entryWait, .undriven, .contactor, .rectOut, .mch, .capture, .inputs, .idle, .receiver,
      .running] (fallAsleep order s) :=
  ((onSup_keepsBut _ s rfl rfl rfl).mono rfl).trans ((fallAsleep_keepsBut_supSleep order s).mono rfl)

/-- SUP sleeps: its mode, its timers and the write (R180, R182, R183). -/
theorem fallAsleep_sup (order : List Taker) (s : State) :
    (fallAsleep order s).sup.phase = .dormant ∧ (fallAsleep order s).sup.mode = .dormant ∧
      (fallAsleep order s).sup.entryWait = none ∧ (fallAsleep order s).sup.holdEnd = none ∧
      (fallAsleep order s).sup.periodicAt = none ∧ (fallAsleep order s).sup.wakeAt = s.wakeTime := by
  have hkeeps := fallAsleep_keepsBut_supSleep order s
  obtain ⟨-, hphase, -, hwake, -, hhold, hperiodic⟩ := hkeeps .schedule (by decide)
  have hrelays : (recomputeRelays (s.onSup (supSleep s.wakeTime))).sup = supSleep s.wakeTime s.sup :=
    (recomputeRelays_changedOnly _).sup
  refine ⟨hphase, ?_, hkeeps .entryWait (by decide), hhold, by rcases hperiodic with h | h <;> exact h, hwake⟩
  rw [fallAsleep, triggerWrite_mode, dormantEntry_mode order (by rw [State.operating, hrelays]; rfl), hrelays]
  rfl

/-! ## The outputs -/

/-- The relays in their start-up positions, the outputs on their default targets, no owner's write driven; an operation
of the contactor runs on (R25). -/
theorem fallAsleep_sdo (order : List Taker) (s : State) :
    (fallAsleep order s).sdo.live = false ∧ (fallAsleep order s).sdo.relays = Relays.start ∧
      (fallAsleep order s).sdo.waitingCommand = none ∧ (fallAsleep order s).sdo.operation = s.sdo.operation ∧
      ∀ d, (dacGet (fallAsleep order s).sdo.outputs d).target = (dacGet Sdo.reset.outputs d).target := by
  have hrelays := recomputeRelays_keeps (s.onSup (supSleep s.wakeTime)) .contactor (by decide)
  have hkeeps := (dormantEntry_keepsBut order (recomputeRelays (s.onSup (supSleep s.wakeTime)))).trans
    ((triggerWrite_keeps _).mono rfl)
  obtain ⟨hlive, hstart, hout⟩ := hkeeps .undriven (by decide) rfl
  obtain ⟨hop, hwaiting⟩ := hkeeps .contactor (by decide)
  refine ⟨hlive, hstart, hwaiting, hop.trans hrelays.1, fun d => (hout d).1.trans ?_⟩
  rw [State.onSdo_sdo, sdoOnDormant, dacGet_dacMap]
  rfl

/-! ## The whole of it -/

/-- What a station that falls asleep leaves. -/
theorem fallAsleep_fallenAsleep (order : List Taker) (s : State) : s.FallenAsleep (fallAsleep order s) := by
  have hbefore : s.ChangedOnly [.sup, .alu, .sdo] (recomputeRelays (s.onSup (supSleep s.wakeTime))) :=
    ((onSup_changedOnly _ s).mono rfl).trans ((recomputeRelays_changedOnly _).mono rfl)
  have hafter := triggerWrite_changedOnly (dormantEntry order (recomputeRelays (s.onSup (supSleep s.wakeTime))))
  obtain ⟨hphase, hmode, hwait, hhold, hperiodic, hwake⟩ := fallAsleep_sup order s
  obtain ⟨hlive, hrelays, hwaiting, hop, hout⟩ := fallAsleep_sdo order s
  obtain ⟨hrot, hminutes, hseconds⟩ := dormantEntry_rot order (recomputeRelays (s.onSup (supSleep s.wakeTime)))
  obtain ⟨hgen, hlock, hepoch⟩ := dormantEntry_gco order (recomputeRelays (s.onSup (supSleep s.wakeTime)))
  obtain ⟨hwindow, hrate, hstuck, hrx, hseq⟩ :=
    dormantEntry_receiver order (recomputeRelays (s.onSup (supSleep s.wakeTime)))
  have hmch : (fallAsleep order s).mch = mchOnDormant s.mch :=
    hafter.mch.trans ((dormantEntry_mch _ _).trans (by rw [hbefore.mch]))
  have hsac : (fallAsleep order s).sac = { s.sac with resyncDwell := 0 } :=
    hafter.sac.trans ((dormantEntry_sac _ _).trans (by rw [hbefore.sac]))
  have hcsc : (fallAsleep order s).csc = cscOnDormant s.csc :=
    hafter.csc.trans ((dormantEntry_csc _ _).trans (by rw [hbefore.csc]))
  have hidle : ∀ x : GenState, x.asleep.demanding = false ∧ x.asleep ≠ .runRest := fun x => by
    cases x <;> exact ⟨rfl, by decide⟩
  rw [hbefore.rot] at hminutes hseconds
  rw [hbefore.gco] at hgen hlock hepoch
  rw [hbefore.pli] at hseq
  rw [← hafter.rot] at hrot hminutes hseconds
  rw [← hafter.gco] at hgen hlock hepoch
  rw [← hafter.pli] at hwindow hrate hstuck hrx hseq
  have hgco : (fallAsleep order s).gco.state = s.gco.state.asleep := hgen
  refine ⟨hphase, hmode, hwait, hhold, hperiodic, hwake, triggerWrite_triggered _, ?_, ?_, ?_, ?_, ?_, hlive, hrelays,
    hwaiting, hop, hout .rectVref, hout .rectIlim, hout .strVref, hout .strIlim, hsac, hcsc,
    (fallAsleep_changedOnly order s).ptb, hafter.cbu.trans (dormantEntry_cbu _ _), hwindow, hrate, hstuck, hrx, hseq,
    hrot, hminutes, hseconds, ?_, ?_, hlock, hepoch, ?_⟩
  case refine_6 => rw [hgco]; exact (hidle _).1
  case refine_7 => rw [hgco]; exact (hidle _).2
  case refine_8 => rw [fallAsleep, hafter.alu]; exact dormantEntry_running _ _
  all_goals rw [hmch]; rfl

/-- What falling asleep leaves is read off the state before it but for PLI, apart from its sequence number, and ALU. -/
theorem State.FallenAsleep.of_changedOnly (h : t.FallenAsleep u) (hst : s.ChangedOnly [.pli, .alu] t)
    (hseq : t.pli.sequence = s.pli.sequence) : s.FallenAsleep u := by
  unfold State.FallenAsleep State.now at *
  rwa [hst.settings, hst.clock, hst.mch, hst.sdo, hst.sac, hst.csc, hst.ptb, hst.rot, hst.gco, hseq] at h

/-- The stop at the end of the entry wait (R180): the station sleeps, as after the end of CHECK. -/
theorem stopStation_fallenAsleep (order : List Taker) (s : State) : s.FallenAsleep (stopStation order s) := by
  have hwithdraw := withdrawTransmission_changedOnly s
  have hlog := logEntry_changedOnly .mode 0 (twoParts s.sup.mode.code Mode.dormant.code) (withdrawTransmission s)
  obtain ⟨-, -, -, -, hseq⟩ := withdrawTransmission_keepsBut s .receiver (by decide)
  exact (fallAsleep_fallenAsleep order _).of_changedOnly (hwithdraw.trans (hlog.mono rfl)) (by rw [hlog.pli, hseq])

/-- An entry made between two operations that keep the log but for what they append is among what is appended. -/
theorem State.LogKept.logged {kind : LogKind} {origin value : Nat} (h : s.LogKept t)
    (g : (logEntry kind origin value t).LogKept u) : s.Logged u kind origin value := by
  intro hs
  obtain ⟨hclock, hlog⟩ := h
  obtain ⟨gclock, glog⟩ := g
  obtain ⟨hlen, before, hbefore⟩ := hlog hs
  obtain ⟨hlen', hentry⟩ := logEntry_grew kind origin value t hlen
  obtain ⟨-, after, hafter⟩ := glog hlen'
  refine ⟨_, (hbefore.trans hentry).trans hafter, ?_⟩
  rw [gclock, logEntry_clockS]
  simp

theorem stopStation_logged (order : List Taker) (s : State) :
    s.Logged (stopStation order s) .mode 0 (twoParts s.sup.mode.code 2) :=
  State.LogKept.logged (withdrawTransmission_keepsBut s .log (by decide))
    (fallAsleep_keepsBut_asleep order _ .log (by decide))

/-- The grant is withdrawn, and with it the transmitter and its queue, unless a frame is on the line (R86). -/
theorem stopStation_sender (order : List Taker) (s : State) :
    (stopStation order s).pli.granted = false ∧ (stopStation order s).alu.pointTimerAt = none ∧
      (s.pli.tx ≠ .send → (stopStation order s).pli.tx = .off ∧ (stopStation order s).pli.queue = []) ∧
      (s.pli.tx = .send → (stopStation order s).pli.tx = .send) := by
  have hwithdrawn : (withdrawTransmission s).pli.granted = false := by
    unfold withdrawTransmission; by_cases h : s.pli.tx = .send <;> simp [h, pliOff]
  obtain ⟨hgranted, htx, hqueue, htimer⟩ :=
    ((logEntry_keeps _ _ _ _ .sender (by decide)).trans (fallAsleep_keepsBut_asleep order _ .sender (by decide)))
      hwithdrawn
  refine ⟨hgranted, htimer, fun h => ?_, fun h => ?_⟩
  · rw [stopStation, htx, hqueue]; simp [withdrawTransmission, h, pliOff]
  · rw [stopStation, htx]; simp [withdrawTransmission, h]

/-- Settles O32: both commands put the station to sleep, the second after the stop of R180. -/
theorem theStationFallsAsleep : Obligations.TheStationFallsAsleep := by
  have hsteady : ∀ t : State, t.sup.phase = .dormant → t.Steady := fun t h g => absurd (h.symm.trans g) (by decide)
  refine ⟨fun w s hphase _ hend => ?_, fun w s hdue => ?_⟩
  · have hasleep := fallAsleep_fallenAsleep w.order (s.upTo w)
    refine ⟨_, ?_, hasleep, (fallAsleep_changedOnly _ _).mono rfl⟩
    rw [exec, execCheckEnd, command_eq, if_pos (by simp [hphase, hend]), leaveCheck_of_steady _ (hsteady _ hasleep.1)]
  · have hasleep := stopStation_fallenAsleep w.order (s.upTo w)
    obtain ⟨hgranted, htimer, hoff, hsend⟩ := stopStation_sender w.order (s.upTo w)
    have hlogged := stopStation_logged w.order (s.upTo w)
    rw [upTo_pli] at hoff hsend
    rw [upTo_sup] at hlogged
    refine ⟨_, ?_, hasleep, ⟨hgranted, htimer⟩, hoff, hsend, hlogged, (stopStation_changedOnly _ _).mono rfl⟩
    rw [exec, execEntryWaitTimeout, command_eq, if_pos (by simpa using hdue),
      leaveCheck_of_steady _ (hsteady _ hasleep.1)]

end Sys2Proof.Machine
end


section
/-! SUPPORT. What a wake leaves (R80, R102, R178, R181). -/
namespace Sys2Proof.Machine

set_option Elab.async false

variable {s t u : State} {cause : StartCause}

/-! ## The takers of LISTEN entry at a wake -/

/-- What each taker of LISTEN entry makes of the state at a wake. -/
def wakeTakes (order : List Taker) (x : Taker) (s : State) : State :=
  match x with
  | .mch => s.onMch (mchOnListen s.wired)
  | .pli => pliOnListen s
  | .ptb => if true then clearPeers order s else s
  | .rot => if true then s else rectDrive s
  | .alu => aluOnListen order s
  | _ => s

/-- The takers of LISTEN entry. -/
def listenTakers : List Taker := [.mch, .pli, .ptb, .rot, .alu]

theorem listenEntry_eq (order : List Taker) (s : State) :
    listenEntry order true s = fan order listenTakers (wakeTakes order)
      (s.onSup fun x => { x with phase := .listen, mode := .full, listenEnd := s.now + 3000, found := false }) := rfl

/-- The aspects that each taker of LISTEN entry can break at a wake. -/
def wakeBreaks : Taker → List Aspect
  | .mch => [.mch, .inputs]
  | .pli => [.receiver]
  | .ptb => [.contactor, .entryWait, .rectOut, .peers]
  | .alu => [.running]
  | _ => []

theorem wakeTakes_keepsBut (order : List Taker) (x : Taker) (s : State) :
    s.KeepsBut (wakeBreaks x) (wakeTakes order x s) := by
  cases x with
  | mch => exact mchOnListen_keepsBut _ s
  | pli => exact onPli_keeps_sender _ s rfl rfl rfl
  | ptb => exact clearPeers_keepsBut _ s
  | alu => exact aluOnListen_keepsBut _ s
  | _ => exact .refl s _

/-! ## What LISTEN entry leaves of each block at a wake -/

theorem listenEntry_peers (order : List Taker) (s : State) : (listenEntry order true s).ptb.peers = [] :=
  fan_part order (fun s : State => s.ptb.peers) (fun _ => []) .ptb (by decide) (fun _ => rfl)
    (clearPeers_peers order)
    (fun y _ hy s => wakeTakes_keepsBut order y s .peers (by cases y <;> simp_all [wakeBreaks])) _

theorem listenEntry_rx (order : List Taker) (s : State) : (listenEntry order true s).pli.rx = .hunt :=
  fan_part order (fun s : State => s.pli.rx) (fun _ => .hunt) .pli (by decide) (fun _ => rfl) (fun _ => rfl)
    (fun y _ hy s => by
      obtain ⟨-, -, -, hrx, -⟩ := wakeTakes_keepsBut order y s .receiver (by cases y <;> simp_all [wakeBreaks])
      exact hrx) _

theorem listenEntry_period (order : List Taker) (s : State) : (listenEntry order true s).mch.period = some 250 :=
  fan_part order (fun s : State => s.mch.period) (fun _ => some 250) .mch (by decide) (fun _ => rfl) (fun _ => rfl)
    (fun y _ hy s => congrArg Mch.period
      (wakeTakes_keepsBut order y s .mch (by cases y <;> simp_all [wakeBreaks]))) _

theorem aluOnListen_running (order : List Taker) (s : State) : (aluOnListen order s).alu.running = true := by
  have hconditions : (takeConditions order pointIds (s.onAlu fun a => { a with running := true })).alu.running = true :=
    Eq.trans (takeConditions_keeps order pointIds _ .running (by decide)) rfl
  rw [aluOnListen]
  generalize takeConditions order pointIds _ = x at hconditions
  exact Eq.trans (aluRecompute_keeps order x .running (by decide)) hconditions

theorem listenEntry_running (order : List Taker) (s : State) : (listenEntry order true s).alu.running = true :=
  fan_part order (fun s : State => s.alu.running) (fun _ => true) .alu (by decide) (fun _ => rfl)
    (fun s => by rw [show wakeTakes order .alu s = aluOnListen order s from rfl, aluOnListen_running])
    (fun y _ hy s => wakeTakes_keepsBut order y s .running (by cases y <;> simp_all [wakeBreaks])) _

/-! ## The wake -/

/-- What a wake leaves, at the time of the wake and with SDO still driving no owner's demand. -/
def State.WokenNow (cause : StartCause) (s t : State) : Prop :=
  s.Woken cause t ∧ t.clock = s.clock ∧ (s.sdo.live = false → t.sdo.live = false)

/-- A recomputation that follows a wake takes nothing of it back. -/
theorem State.WokenNow.keepsBut (h : State.WokenNow cause s t)
    (hk : t.KeepsBut [.contactor, .entryWait, .rectOut] u) : State.WokenNow cause s u := by
  obtain ⟨⟨hphase, hmode, hcause, hwake, hlisten, hperiodic, hpeers, hrx, hperiod, hrun, hsac, hrelays⟩, hclock,
    hlive⟩ := h
  obtain ⟨kclock, kphase, kcause, kwake, klisten, -, kperiodic⟩ := hk .schedule (by decide)
  obtain ⟨-, kmode, ksac⟩ := hk .idle (by decide) (by rw [State.operating, hphase]; rfl)
  obtain ⟨-, -, -, krx, -⟩ := hk .receiver (by decide)
  have hfrom : periodicFrom t.now t.sup = some (s.now + 900000) := by
    simp only [periodicFrom, hphase, State.now, hclock]
  refine ⟨⟨kphase.trans hphase, kmode.trans hmode, kcause.trans hcause, kwake.trans hwake, klisten.trans hlisten, ?_,
    Eq.trans (hk .peers (by decide)) hpeers, krx.trans hrx, (congrArg Mch.period (hk .mch (by decide))).trans hperiod,
    Eq.trans (hk .running (by decide)) hrun, ksac.trans hsac, fun h => ?_⟩, kclock.trans hclock, fun h => ?_⟩
  · rcases kperiodic with k | k
    · exact k.trans hperiodic
    · exact k.trans hfrom
  · exact (hk .undriven (by decide) (hlive h)).2.1.trans (hrelays h)
  · exact (hk .undriven (by decide) (hlive h)).1

/-- SUP's own part of a wake, with the log entries that it makes. -/
def wakeSup (cause : StartCause) (s : State) : State :=
  let s := s.onSup fun x =>
    { x with startCause := cause, wakeAt := none, mode := .full, periodicAt := some (s.now + 900000)
             siteDiscard := cause == .wakeSite }
  if cause = .wakeTimer then s else logWake s

theorem wakeUp_of_asleep (order : List Taker) (cause : StartCause) (h : s.asleep = true) :
    wakeUp order cause s = listenEntry order true (wakeSup cause s) := if_pos h

theorem wakeUp_of_awake (order : List Taker) (cause : StartCause) (h : s.asleep = false) :
    wakeUp order cause s = s := if_neg (by simp [h])

theorem wakeSup_changedOnly (cause : StartCause) (s : State) : s.ChangedOnly [.sup, .alu] (wakeSup cause s) :=
  ((onSup_changedOnly _ s).mono rfl).trans (State.ChangedOnly.ite (.refl _ _)
    (((logEntry_changedOnly _ _ _ _).trans (logEntry_changedOnly _ _ _ _)).mono rfl))

theorem wakeSup_sup (cause : StartCause) (s : State) :
    (wakeSup cause s).sup.startCause = cause ∧ (wakeSup cause s).sup.wakeAt = none ∧
      (wakeSup cause s).sup.periodicAt = some (s.now + 900000) := by
  unfold wakeSup; dsimp only; split <;> exact ⟨rfl, rfl, rfl⟩

/-- What the first wake event of a sleeping station leaves. -/
theorem wakeUp_woken (order : List Taker) (cause : StartCause) (h : s.asleep = true) :
    State.WokenNow cause s (wakeUp order cause s) := by
  rw [wakeUp_of_asleep order cause h]
  have hsup := wakeSup_changedOnly cause s
  obtain ⟨hcause, hwake, hperiodic⟩ := wakeSup_sup cause s
  have hk := listenEntry_keepsBut order true (wakeSup cause s)
  obtain ⟨kclock, kphase, kcause, kwake, klisten, -, kperiodic⟩ := hk .schedule (by decide)
  obtain ⟨-, kmode, ksac⟩ := hk .idle (by decide) rfl
  have hnow : (wakeSup cause s).now = s.now := by rw [State.now, hsup.clock, State.now]
  refine ⟨⟨kphase, kmode, kcause.trans hcause, kwake.trans hwake, klisten.trans ?_, ?_, listenEntry_peers _ _,
    listenEntry_rx _ _, listenEntry_period _ _, listenEntry_running _ _, ksac.trans hsup.sac, fun hlive => ?_⟩,
    kclock.trans hsup.clock, fun hlive => ?_⟩
  · exact congrArg (· + 3000) hnow
  · rcases kperiodic with k | k
    · exact k.trans hperiodic
    · exact k.trans (congrArg (fun n => some (n + 900000)) hnow)
  · exact (hk .undriven (by decide) (hsup.sdo ▸ hlive)).2.1.trans (by rw [State.onSup_sdo, hsup.sdo])
  · exact (hk .undriven (by decide) (hsup.sdo ▸ hlive)).1

/-- A wake keeps the capture as it runs (R17). -/
theorem wakeUp_ac (order : List Taker) (cause : StartCause) (s : State) : (wakeUp order cause s).mch.ac = s.mch.ac := by
  cases h : s.asleep with
  | false => rw [wakeUp_of_awake order cause h]
  | true =>
    rw [wakeUp_of_asleep order cause h]
    exact Eq.trans (listenEntry_keepsBut order true _ .capture (by decide))
      (congrArg Mch.ac (wakeSup_changedOnly cause s).mch)

end Sys2Proof.Machine
end


section
/-! SUPPORT. The AC capture (R14 to R17). -/
namespace Sys2Proof.Machine

set_option Elab.async false

variable {s t u : State} {cause : StartCause}

/-! ## A change of the capture, and what it hands on -/

/-- What each taker of a change of the AC state makes of the state. -/
def acTakes (order : List Taker) (x : Taker) (s : State) : State :=
  match x with
  | .ptb => recomputeViews order s
  | .sup => if s.mch.ac.valid then wakeUp order .wakeAc s else s
  | _ => s

theorem acMove_eq (order : List Taker) (f : AcCapture → AcCapture) (s : State) :
    acMove order f s = if s.mch.ac.valid = (f s.mch.ac).valid then s.onMch fun m => { m with ac := f m.ac }
      else fan order [.ptb, .sup] (acTakes order) (s.onMch fun m => { m with ac := f m.ac }) := rfl

theorem acTakes_changedOnly (order : List Taker) (x : Taker) (s : State) :
    s.ChangedOnly [.mch, .ptb, .csc, .cbu, .rot, .gco, .pli, .sup, .alu, .sdo, .sac] (acTakes order x s) := by
  cases x with
  | ptb => exact (recomputeViews_changedOnly order s).mono rfl
  | sup => exact State.ChangedOnly.ite (wakeUp_changedOnly order _ s) (.refl s _)
  | _ => exact .refl s _

theorem acTakes_ac (order : List Taker) (x : Taker) (s : State) : (acTakes order x s).mch.ac = s.mch.ac := by
  cases x with
  | ptb => exact congrArg Mch.ac (recomputeViews_changedOnly order s).mch
  | sup =>
    change (if s.mch.ac.valid then wakeUp order .wakeAc s else s).mch.ac = s.mch.ac
    split
    · exact wakeUp_ac order _ s
    · rfl
  | _ => rfl

theorem acMove_changedOnly (order : List Taker) (f : AcCapture → AcCapture) (s : State) :
    s.ChangedOnly [.mch, .ptb, .csc, .cbu, .rot, .gco, .pli, .sup, .alu, .sdo, .sac] (acMove order f s) :=
  State.ChangedOnly.ite ((onMch_changedOnly _ s).mono rfl)
    (((onMch_changedOnly _ s).mono rfl).trans (fan_changedOnly order _ (acTakes_changedOnly order) _))

theorem acMove_ac (order : List Taker) (f : AcCapture → AcCapture) (s : State) :
    (acMove order f s).mch.ac = f s.mch.ac := by
  rw [acMove_eq]
  split
  · rfl
  · exact fan_induction order (P := fun t => t.mch.ac = f s.mch.ac) (fun x _ t ht => (acTakes_ac order x t).trans ht) _
      rfl

/-- Without a change of the AC state nothing is handed on. -/
theorem acMove_of_same (order : List Taker) {f : AcCapture → AcCapture}
    (h : s.mch.ac.valid = (f s.mch.ac).valid) : acMove order f s = s.onMch fun m => { m with ac := f s.mch.ac } := by
  rw [acMove_eq, if_pos h]; rfl

/-! ## The AC_SENSE wake (R17, R181) -/

/-- While the station sleeps PTB does not recompute (R102). -/
theorem recomputeViews_of_asleep (order : List Taker) (h : s.asleep = true) : recomputeViews order s = s := by
  have hphase : s.sup.phase = .dormant := by simpa [State.asleep] using h
  exact if_neg (by simp [State.awake, hphase])

/-- The change to VALID of a sleeping station is the AC_SENSE wake, whichever of PTB and SUP takes it first. -/
theorem acMove_woken (order : List Taker) {f : AcCapture → AcCapture} (hasleep : s.asleep = true)
    (hwas : s.mch.ac.valid = false) (hvalid : (f s.mch.ac).valid = true) :
    State.WokenNow .wakeAc s (acMove order f s) := by
  rw [acMove_eq, if_neg (by simp [hwas, hvalid])]
  generalize hm : (s.onMch fun m => { m with ac := f m.ac }) = m
  have hmasleep : m.asleep = true := by rw [← hm]; exact hasleep
  have hmvalid : m.mch.ac.valid = true := by rw [← hm]; exact hvalid
  have hwoken : State.WokenNow .wakeAc m (acTakes order .sup m) := by
    rw [show acTakes order .sup m = wakeUp order .wakeAc m from if_pos hmvalid]
    exact wakeUp_woken order _ hmasleep
  have hkeep : ∀ x ∈ [Taker.ptb, .sup], ∀ t, State.WokenNow .wakeAc m t →
      State.WokenNow .wakeAc m (acTakes order x t) := by
    intro x _ t ht
    have hawake : t.asleep = false := by rw [State.asleep, ht.1.1]; rfl
    cases x with
    | ptb => exact ht.keepsBut (recomputeViews_keepsBut order t)
    | sup => change State.WokenNow .wakeAc m (if t.mch.ac.valid then wakeUp order .wakeAc t else t)
             rwa [wakeUp_of_awake order _ hawake, ite_self]
    | _ => exact ht
  have hfan : State.WokenNow .wakeAc m (fan order [.ptb, .sup] (acTakes order) m) := by
    refine fan_establishes order (I := fun t => t = m ∨ State.WokenNow .wakeAc m t) .sup (by decide) ?_ ?_ hkeep m
      (.inl rfl)
    · rintro x hx hsup t (rfl | ht)
      · obtain rfl : x = .ptb := by simpa [hsup] using hx
        exact .inl (recomputeViews_of_asleep order hmasleep)
      · exact .inr (hkeep x hx t ht)
    · rintro t (rfl | ht)
      · exact hwoken
      · exact hkeep .sup (by decide) t ht
  obtain ⟨hW, hclock, hlive⟩ := hfan
  subst hm
  exact ⟨hW, hclock, hlive⟩

/-! ## The capture on an edge -/

/-- A period in window adds one to the count, at which the state is VALID from 8 on (R14, R16). -/
theorem acOnEdge_of_inWindow {now r : Nat} {a : AcCapture} (hr : a.reference = some r) (hlow : 15385 ≤ now - r)
    (hhigh : now - r ≤ 22222) (hcount : a.count ≤ 8) :
    acOnEdge now a =
      { reference := some now, count := min 8 (a.count + 1), valid := a.valid || decide (7 ≤ a.count)
        lastPeriod := now - r
        frequency := if a.valid = true ∨ 7 ≤ a.count then (100000000 + (now - r) / 2) / (now - r) else 0 } := by
  have hwindow : acInWindow (now - r) = true := by simp [acInWindow, hlow, hhigh]
  have hinc : satInc 8 a.count = min 8 (a.count + 1) := by unfold satInc; split <;> omega
  have height : (min 8 (a.count + 1) == 8) = decide (7 ≤ a.count) := by
    rw [beq_eq_decide]; exact decide_eq_decide.mpr (by omega)
  simp [acOnEdge, hr, hwindow, hinc, height, acFrequency]

/-- A period outside the window makes the state INVALID (R14, R16). -/
theorem acOnEdge_of_outOfWindow {now r : Nat} {a : AcCapture} (hr : a.reference = some r)
    (h : now - r < 15385 ∨ 22222 < now - r) :
    acOnEdge now a = { a with reference := some now, count := 0, valid := false, frequency := 0 } := by
  have hwindow : acInWindow (now - r) = false := by
    rw [acInWindow, Bool.and_eq_false_iff, decide_eq_false_iff_not, decide_eq_false_iff_not]; omega
  simp [acOnEdge, hr, hwindow]

/-! ## The commands -/

@[simp] theorem upTo_capturing (s : State) (w : Moment) : (s.upTo w).capturing = s.capturing := by
  simp [State.capturing]

theorem exec_acEdge (w : Moment) (h : s.capturing = true) :
    exec (.acEdge w) s = .next (leaveCheck w.order (acMove w.order (acOnEdge (s.upTo w).clock) (s.upTo w))) := by
  rw [exec, execAcEdge, command_eq, if_pos (by simpa using h)]

theorem exec_edgeTimeout (w : Moment) {r : Nat} (h : s.capturing = true) (hr : s.mch.ac.reference = some r)
    (hdue : r + 40000 ≤ (s.upTo w).clock) :
    exec (.edgeTimeout w) s = .next (leaveCheck w.order (acMove w.order acOnTimeout (s.upTo w))) := by
  rw [exec, execEdgeTimeout, command_eq, if_pos (by simpa [hr, due] using ⟨h, hdue⟩)]

/-- What a command that moves the capture leaves: the capture; where the AC state stays, all else as it was; and the
parts that a change of it can reach. -/
theorem acMove_command (w : Moment) (f : AcCapture → AcCapture) (s : State) :
    (leaveCheck w.order (acMove w.order f (s.upTo w))).mch.ac = f s.mch.ac ∧
      (s.mch.ac.valid = (f s.mch.ac).valid → s.Steady →
        leaveCheck w.order (acMove w.order f (s.upTo w)) = (s.upTo w).onMch fun m => { m with ac := f s.mch.ac }) ∧
      (s.upTo w).ChangedOnly [.mch, .ptb, .csc, .cbu, .rot, .gco, .pli, .sup, .alu, .sdo, .sac]
        (leaveCheck w.order (acMove w.order f (s.upTo w))) := by
  refine ⟨?_, fun hsame hs => ?_, (acMove_changedOnly _ _ _).trans ((leaveCheck_changedOnly _ _).mono rfl)⟩
  · rw [(leaveCheck_changedOnly _ _).mch, acMove_ac, upTo_mch]
  · have hmove := acMove_of_same (s := s.upTo w) w.order (f := f) (by simpa using hsame)
    rw [upTo_mch] at hmove
    rw [hmove]
    exact leaveCheck_of_steady _ (upTo_steady w hs)

/-- Settles O37: the capture on each edge and at the timeout, and the wake where the state turns VALID asleep. -/
theorem theAcCaptureFollowsItsEdges : Obligations.TheAcCaptureFollowsItsEdges := by
  refine ⟨fun w s hs hcap hr => ?_, fun w s r hcap hr hlow hhigh hcount => ?_, fun w s r hcap hr hout => ?_,
    fun w s r hcap hr hdue => ?_⟩
  · have hedge : acOnEdge (s.upTo w).clock s.mch.ac = { s.mch.ac with reference := some (s.upTo w).clock } := by
      simp [acOnEdge, hr]
    rw [exec_acEdge w hcap, (acMove_command w _ s).2.1 (by rw [hedge]) hs, hedge, ← upTo_mch s w]
    rfl
  · have hedge := acOnEdge_of_inWindow hr hlow hhigh hcount
    obtain ⟨hac, hsame, hchanged⟩ := acMove_command w (acOnEdge (s.upTo w).clock) s
    refine ⟨_, exec_acEdge w hcap, hac.trans hedge, fun h => ?_, fun hasleep hwas hseven => ?_, hchanged⟩
    · rw [hac] at h ⊢
      exact hsame h
    · have hwoken := (acMove_woken (s := s.upTo w) w.order (f := acOnEdge (s.upTo w).clock) (by simpa using hasleep)
        (by simpa using hwas) (by simp [hedge, hseven])).1
      rwa [leaveCheck_of_steady _ fun h => absurd (hwoken.1.symm.trans h) (by decide)]
  · have hedge := acOnEdge_of_outOfWindow hr hout
    obtain ⟨hac, hsame, hchanged⟩ := acMove_command w (acOnEdge (s.upTo w).clock) s
    refine ⟨_, exec_acEdge w hcap, hac.trans hedge, fun h hs => ?_, hchanged⟩
    rw [hac]
    exact hsame (by rw [h, hedge]) hs
  · obtain ⟨hac, hsame, hchanged⟩ := acMove_command w acOnTimeout s
    refine ⟨_, exec_edgeTimeout w hcap hr hdue, hac, fun h hs => ?_, hchanged⟩
    rw [hac]
    exact hsame h hs

end Sys2Proof.Machine
end


section
/-! SUPPORT. The rectifier's states, as SDO holds them: entered, and kept over a recomputation of the source view (R122,
R132, R134). -/
namespace Sys2Proof.Machine

set_option Elab.async false

variable {s t u : State} {x : RectState} {n : Nat}

/-! ## The present state driven (R122) -/

/-- SDO holds the enable demand and the limit of the present rectifier state: driven, or the limit as its pending
target. -/
def State.RectDriven (t : State) : Prop :=
  (t.sdo.live = true → t.sdo.relays.rectEn = t.rot.state.enables ∧
    t.sdo.outputs.rectIlim.target = rectTarget t.settings.rot t.rot.state) ∧
  (t.sdo.live = false → t.sdo.outputs.rectIlim.waiting = some (rectTarget t.settings.rot t.rot.state))

theorem inRectState_iff : State.InRectState x n t ↔ t.rot.state = x ∧ t.rot.entryAt = n ∧ t.RectDriven := by
  unfold State.InRectState State.RectDriven
  constructor
  · rintro ⟨rfl, hentry, hdriven⟩; exact ⟨rfl, hentry, hdriven⟩
  · rintro ⟨rfl, hentry, hdriven⟩; exact ⟨rfl, hentry, hdriven⟩

theorem State.RectDriven.congr (h : t.RectDriven) (hrot : u.rot = t.rot) (hset : u.settings = t.settings)
    (hout : t.RectOutKept u) : u.RectDriven := by
  obtain ⟨hlive, hrelay, hilim⟩ := hout
  unfold State.RectDriven
  rwa [hrot, hset, hlive, hrelay, hilim]

theorem rectDrive_live (s : State) : (rectDrive s).sdo.live = s.sdo.live := by
  rw [rectDrive, writeTarget_sdo, writeRelay_sdo]

theorem rectDrive_rectDriven (s : State) : (rectDrive s).RectDriven := by
  have hilim : (rectDrive s).sdo.outputs.rectIlim =
      s.sdo.outputs.rectIlim.written s.sdo.live .rectIlim (rectTarget s.settings.rot s.rot.state) := by
    have h := dacGet_writeTarget .rectIlim .rectIlim (rectTarget s.settings.rot s.rot.state)
      (writeRelay .rectEn s.rot.state.enables s)
    rwa [writeRelay_sdo, if_pos rfl] at h
  have hrelay : (rectDrive s).sdo.relays = (writeRelay .rectEn s.rot.state.enables s).sdo.relays := by
    rw [rectDrive, writeTarget_sdo]
  have hrectEn := relayGet_writeRelay .rectEn .rectEn s.rot.state.enables s
  unfold State.RectDriven
  rw [rectDrive_live, hilim, hrelay, (rectDrive_changedOnly s).rot, (rectDrive_changedOnly s).settings]
  refine ⟨fun hlive => ?_, fun hlive => ?_⟩
  · rw [hlive]
    exact ⟨hrectEn.trans (if_pos ⟨rfl, hlive⟩), Output.written_target⟩
  · rw [hlive]; rfl

/-! ## A state entered -/

theorem rectTakes_rectOutKept (order : List Taker) (old new : RectState) {y : Taker} (hy : y ≠ .sdo) (s : State) :
    s.RectOutKept (rectTakes order old new y s) := by
  have h : s.KeepsBut [] (rectTakes order old new y s) := by
    cases y with
    | sdo => exact absurd rfl hy
    | pli => exact requestStatus_keeps s
    | log => exact logEntry_keeps _ _ _ s
    | alu => exact takeCondition_keeps _ _ s
    | _ => exact .refl s _
  exact h .rectOut (by decide)

theorem enterRect_live (order : List Taker) (x : RectState) (s : State) :
    (enterRect order x s).sdo.live = s.sdo.live := by
  refine fan_induction order (P := fun t => t.sdo.live = s.sdo.live) (fun y _ t ht => ?_) (s.onRot _) rfl
  by_cases hy : y = .sdo
  · subst hy; exact (rectDrive_live t).trans ht
  · exact (rectTakes_rectOutKept order s.rot.state x hy t).1.trans ht

/-- A state entered is held by SDO (R122). -/
theorem enterRect_inRectState (order : List Taker) (x : RectState) (s : State) :
    State.InRectState x s.now (enterRect order x s) := by
  have hdriven : (enterRect order x s).RectDriven := by
    rw [enterRect_eq]
    refine fan_establishes order (I := fun _ => True) .sdo (by decide) (fun _ _ _ _ _ => trivial)
      (fun t _ => rectDrive_rectDriven t) (fun y _ t ht => ?_) _ trivial
    by_cases hy : y = .sdo
    · subst hy; exact rectDrive_rectDriven t
    · have hchanged := rectTakes_changedOnly order s.rot.state x y t
      exact ht.congr hchanged.rot hchanged.settings (rectTakes_rectOutKept order s.rot.state x hy t)
  rw [inRectState_iff, enterRect_rot]
  exact ⟨rfl, rfl, hdriven⟩

/-- Point 8 follows the entry to FAILED and the way out of it (R134, R160). -/
theorem enterRect_point (order : List Taker) (x : RectState) (s : State) (hrun : s.alu.running = true)
    (hlen : s.alu.points.length = 32) :
    (pointGet (enterRect order x s).alu.points 8).condition = (x == .failed) := by
  have hother : ∀ y : Taker, y ≠ .alu → ∀ t : State, (rectTakes order s.rot.state x y t).alu.points = t.alu.points ∧
      (rectTakes order s.rot.state x y t).alu.running = t.alu.running := by
    intro y hy t
    cases y with
    | sdo => have h := (rectDrive_changedOnly t).alu; exact ⟨congrArg Alu.points h, congrArg Alu.running h⟩
    | pli => have h := (requestStatus_changedOnly t).alu; exact ⟨congrArg Alu.points h, congrArg Alu.running h⟩
    | log => exact ⟨logEntry_points _ _ _ t, logEntry_keeps _ _ _ t .running (by decide)⟩
    | alu => exact absurd rfl hy
    | _ => exact ⟨rfl, rfl⟩
  have howner : ∀ t : State, t.rot.state = x → t.ownerCondition 8 = (x == .failed) := fun t ht => by
    rw [← ht]; rfl
  have htaken : ∀ t : State, t.rot.state = x → (rectTakes order s.rot.state x .alu t).rot.state = x := fun t ht =>
    (congrArg Rot.state (takeCondition_changedOnly order 8 t).rot).trans ht
  rw [enterRect_eq]
  refine (fan_establishes order
    (I := fun t => t.rot.state = x ∧ t.alu.running = true ∧ t.alu.points.length = 32)
    (P := fun t => t.rot.state = x ∧ (pointGet t.alu.points 8).condition = (x == .failed))
    .alu (by decide) ?_ ?_ ?_ (s.onRot (rectEntry x s.now)) ⟨rfl, hrun, hlen⟩).2
  · rintro y _ hy t ⟨hrot, htrun, htlen⟩
    obtain ⟨hpoints, hrunning⟩ := hother y hy t
    exact ⟨(congrArg Rot.state (rectTakes_changedOnly order _ x y t).rot).trans hrot, hrunning.trans htrun,
      (congrArg List.length hpoints).trans htlen⟩
  · rintro t ⟨hrot, htrun, htlen⟩
    exact ⟨htaken t hrot, (condition_takeCondition_same order t htrun (by omega)).trans (howner t hrot)⟩
  · rintro y _ t ⟨hrot, hcond⟩
    by_cases hy : y = .alu
    · subst hy
      refine ⟨htaken t hrot, ?_⟩
      rw [← howner t hrot] at hcond ⊢
      exact condition_takeCondition_owner order t hcond
    · obtain ⟨hpoints, -⟩ := hother y hy t
      exact ⟨(congrArg Rot.state (rectTakes_changedOnly order _ x y t).rot).trans hrot, by rw [hpoints]; exact hcond⟩

/-! ## The rectifier over a recomputation of the source view (R132) -/

/-- The states that a rectifier leaves when the source view is no longer MAINS. -/
def RectState.rests : RectState → Bool
  | .resting => true
  | .restPending => true
  | .forcedRest => true
  | _ => false

theorem rotOnView_of_not_rests (order : List Taker) (h : s.rot.state.rests = false) : rotOnView order s = s := by
  unfold rotOnView
  split
  · rfl
  · cases hstate : s.rot.state <;> simp_all [RectState.rests]

/-- ROT takes a change of the view by staying, or by SOFT_START. -/
theorem rotOnView_eq (order : List Taker) (s : State) :
    rotOnView order s = s ∨ rotOnView order s = enterRect order .softStart s := by
  unfold rotOnView
  split
  · exact .inl rfl
  · split <;> simp

/-- What each taker of a recomputation makes of the state; `old` is the state before it. -/
def viewTakes (order : List Taker) (old : State) (y : Taker) (s : State) : State :=
  match y with
  | .csc => if old.ptb.view ≠ old.viewNow then cscOnView order old.ptb.view s else s
  | .cbu => if old.ptb.view ≠ old.viewNow then cbuOnEvent s else s
  | .rot => if old.ptb.view ≠ old.viewNow then rotOnView order s else s
  | .gco => if old.ptb.view ≠ old.viewNow then gcoOnView order s else s
  | .pli => if old.ptb.view ≠ old.viewNow then requestStatus s else s
  | .sup => if old.ptb.view ≠ old.viewNow then supOnView order s else s
  | .alu => takeCondition order 1 s
  | .knowledge => if old.ptb.genRunning ≠ old.runningNow then gcoOnKnowledge order s else s
  | _ => s

theorem recomputeViews_eq (order : List Taker) (h : s.awake = true) :
    recomputeViews order s = fan order [.csc, .cbu, .rot, .gco, .pli, .sup, .alu, .knowledge] (viewTakes order s)
      (s.onPtb fun p => { p with view := s.viewNow, genRunning := s.runningNow, acFail := s.viewNow == .noSource }) :=
  if_pos h

theorem viewTakes_changedOnly (order : List Taker) (old : State) {y : Taker} (hy : y ≠ .rot) (s : State) :
    s.ChangedOnly [.csc, .cbu, .gco, .pli, .sup, .alu, .sdo, .sac] (viewTakes order old y s) := by
  cases y with
  | rot => exact absurd rfl hy
  | csc => exact State.ChangedOnly.ite ((cscOnView_changedOnly _ _ s).mono rfl) (.refl s _)
  | cbu => exact State.ChangedOnly.ite ((cbuOnEvent_changedOnly s).mono rfl) (.refl s _)
  | gco => exact State.ChangedOnly.ite ((gcoOnView_changedOnly _ s).mono rfl) (.refl s _)
  | pli => exact State.ChangedOnly.ite ((requestStatus_changedOnly s).mono rfl) (.refl s _)
  | sup => exact State.ChangedOnly.ite ((supOnView_changedOnly _ s).mono rfl) (.refl s _)
  | alu => exact (takeCondition_changedOnly _ _ s).mono rfl
  | knowledge => exact State.ChangedOnly.ite ((gcoOnKnowledge_changedOnly _ s).mono rfl) (.refl s _)
  | _ => exact .refl s _

theorem viewTakes_rectOutKept (order : List Taker) (old : State) {y : Taker} (hy : y ≠ .rot) (s : State) :
    s.RectOutKept (viewTakes order old y s) := by
  have h : s.KeepsBut [.contactor, .entryWait] (viewTakes order old y s) := by
    cases y with
    | rot => exact absurd rfl hy
    | csc => exact .ite ((cscOnView_keepsBut _ _ s).mono rfl) (.refl s _)
    | cbu => exact .ite ((cbuOnEvent_keeps s).mono rfl) (.refl s _)
    | gco => exact .ite ((gcoOnView_keeps _ s).mono rfl) (.refl s _)
    | pli => exact .ite ((requestStatus_keeps s).mono rfl) (.refl s _)
    | sup => exact .ite ((supOnView_keepsBut _ s).mono rfl) (.refl s _)
    | alu => exact (takeCondition_keeps _ _ s).mono rfl
    | knowledge => exact .ite ((gcoOnKnowledge_keeps _ s).mono rfl) (.refl s _)
    | _ => exact .refl s _
  exact h .rectOut (by decide)

/-- A recomputation leaves ROT, and what SDO holds of it, where the view stays or ROT takes no change of it. -/
theorem recomputeViews_rot_kept (order : List Taker) (h : s.rot.state.rests = false ∨ s.ptb.view = s.viewNow) :
    (recomputeViews order s).rot = s.rot ∧ s.RectOutKept (recomputeViews order s) := by
  cases hawake : s.awake with
  | false => rw [recomputeViews, hawake]; exact ⟨rfl, rfl, rfl, rfl⟩
  | true =>
    rw [recomputeViews_eq order hawake]
    refine fan_induction order (P := fun t => t.rot = s.rot ∧ s.RectOutKept t) (fun y _ t ht => ?_) _
      ⟨rfl, rfl, rfl, rfl⟩
    obtain ⟨hrot, hout⟩ := ht
    by_cases hy : y = .rot
    · subst hy
      have hstay : viewTakes order s .rot t = t := by
        change (if s.ptb.view ≠ s.viewNow then rotOnView order t else t) = t
        rcases h with h | h
        · rw [rotOnView_of_not_rests order (by rwa [hrot]), ite_self]
        · exact if_neg (not_not.mpr h)
      rw [hstay]
      exact ⟨hrot, hout⟩
    · exact ⟨(viewTakes_changedOnly order s hy t).rot.trans hrot,
        hout.trans (viewTakes_rectOutKept order s hy t)⟩

/-- A recomputation leaves ROT as it is, or in SOFT_START. -/
theorem recomputeViews_rot (order : List Taker) (s : State) :
    ((recomputeViews order s).rot = s.rot ∨ (recomputeViews order s).rot.state = .softStart) ∧
      (recomputeViews order s).sdo.live = s.sdo.live := by
  cases hawake : s.awake with
  | false => rw [recomputeViews, hawake]; exact ⟨.inl rfl, rfl⟩
  | true =>
    rw [recomputeViews_eq order hawake]
    refine fan_induction order (P := fun t => (t.rot = s.rot ∨ t.rot.state = .softStart) ∧ t.sdo.live = s.sdo.live)
      (fun y _ t ht => ?_) _ ⟨.inl rfl, rfl⟩
    obtain ⟨hrot, hlive⟩ := ht
    by_cases hy : y = .rot
    · subst hy
      have hview : viewTakes order s .rot t = t ∨ viewTakes order s .rot t = enterRect order .softStart t := by
        change (if s.ptb.view ≠ s.viewNow then rotOnView order t else t) = t ∨
          (if s.ptb.view ≠ s.viewNow then rotOnView order t else t) = enterRect order .softStart t
        split
        · exact rotOnView_eq order t
        · exact .inl rfl
      rcases hview with h | h <;> rw [h]
      · exact ⟨hrot, hlive⟩
      · rw [enterRect_rot, enterRect_live]
        exact ⟨.inr rfl, hlive⟩
    · rw [(viewTakes_changedOnly order s hy t).rot]
      exact ⟨hrot, (viewTakes_rectOutKept order s hy t).1.trans hlive⟩

end Sys2Proof.Machine
end


section
/-! SUPPORT. OPERATING entry as the rectifier finds it (R23, R24), and the contact inputs (R18, R19, R133, R134). -/
namespace Sys2Proof.Machine

set_option Elab.async false

variable {s t u : State} {x : RectState} {n : Nat}

/-! ## The rectifier at OPERATING entry -/

/-- The state in which OPERATING entry is handed to the blocks: SUP's phase, the grant, the log and the notes. -/
def operatingNotes (s : State) : State :=
  let s := if s.sup.startCause = .wakeTimer then logWake s else s
  enqueuePoint (enqueueStatus (enqueueHello (grantTransmission (s.onSup fun x => { x with phase := .operating }))))

/-- What each taker of OPERATING entry makes of the state. -/
def operatingTakes (order : List Taker) (y : Taker) (s : State) : State :=
  match y with
  | .sdo => sdoOnOperating s
  | .csc => cscOnOperating order s
  | .cbu => cbuOnOperating s
  | .gco => gcoOnOperating s
  | .alu => recomputeRelays s
  | .sup => updateDormantDwell (updateLeanDwell s)
  | _ => s

theorem enterOperating_eq (order : List Taker) (s : State) :
    enterOperating order s =
      fan order [.sdo, .csc, .cbu, .gco, .alu, .sup] (operatingTakes order) (operatingNotes s) := rfl

theorem operatingNotes_changedOnly (s : State) : s.ChangedOnly [.alu, .sup, .pli] (operatingNotes s) := by
  have hwake : s.ChangedOnly [.alu, .sup, .pli] (if s.sup.startCause = .wakeTimer then logWake s else s) :=
    State.ChangedOnly.ite ((logWake_changedOnly s).mono rfl) (.refl s _)
  exact ((hwake.trans ((onSup_changedOnly _ _).mono rfl)).trans ((grantTransmission_changedOnly _).mono rfl)).trans
    ((((enqueue_changedOnly _ _ _).mono rfl).trans ((enqueueStatus_changedOnly _).mono rfl)).trans
      ((enqueuePoint_changedOnly _).mono rfl))

theorem operatingTakes_changedOnly (order : List Taker) (y : Taker) (s : State) :
    s.ChangedOnly [.sup, .pli, .alu, .sdo, .csc, .sac, .cbu, .gco] (operatingTakes order y s) := by
  cases y with
  | sdo => exact (onSdo_changedOnly _ s).mono rfl
  | csc => exact (cscOnOperating_changedOnly _ s).mono rfl
  | cbu => exact (cbuOnOperating_changedOnly s).mono rfl
  | gco => exact (onGco_changedOnly _ s).mono rfl
  | alu => exact (recomputeRelays_changedOnly s).mono rfl
  | sup => exact ((updateLeanDwell_changedOnly s).trans (updateDormantDwell_changedOnly _)).mono rfl
  | _ => exact .refl s _

theorem operatingTakes_rectOutKept (order : List Taker) {y : Taker} (hy : y ≠ .sdo) (s : State) :
    s.RectOutKept (operatingTakes order y s) := by
  have h : s.KeepsBut [.contactor, .idle, .entryWait] (operatingTakes order y s) := by
    cases y with
    | sdo => exact absurd rfl hy
    | csc => exact (cscOnOperating_keepsBut _ s).mono rfl
    | cbu => exact (cbuOnOperating_keeps s).mono rfl
    | gco => exact (onGco_keepsBut _ s).mono rfl
    | alu => exact (recomputeRelays_keeps s).mono rfl
    | sup => exact ((updateLeanDwell_keeps s).trans (updateDormantDwell_keeps _)).mono rfl
    | _ => exact .refl s _
  exact h .rectOut (by decide)

/-- RECT_ILIM on its target, nothing pending, and RECT_EN by the rectifier's state. -/
def State.RectLive (target : Nat) (enable : Bool) (t : State) : Prop :=
  t.sdo.live = true ∧ t.sdo.relays.rectEn = enable ∧ t.sdo.outputs.rectIlim.target = target ∧
    t.sdo.outputs.rectIlim.waiting = none

/-- SDO takes OPERATING entry: the pending target of RECT_ILIM is driven, and the relay by the rectifier's state. -/
theorem sdoOnOperating_rectLive {v : Nat}
    (h : t.sdo.outputs.rectIlim.waiting = some v ∨ t.RectLive v t.rot.state.enables) :
    (sdoOnOperating t).RectLive v t.rot.state.enables := by
  have hilim : (sdoOnOperating t).sdo.outputs.rectIlim = takeWaiting .rectIlim t.sdo.outputs.rectIlim := rfl
  refine ⟨rfl, rfl, ?_⟩
  rw [hilim]
  rcases h with hwaiting | ⟨-, -, htarget, hwaiting⟩
  · simp [takeWaiting, hwaiting, driveTarget]
  · simp [takeWaiting, hwaiting, htarget]

/-- What waits of the present rectifier state is driven from OPERATING entry on (R23, R24). -/
theorem enterOperating_rectDriven (order : List Taker) (h : t.RectDriven) (hlive : t.sdo.live = false) :
    (enterOperating order t).RectDriven := by
  have hnotes := operatingNotes_changedOnly t
  have hrot : (enterOperating order t).rot = t.rot := (enterOperating_changedOnly order t).rot
  have hset : (enterOperating order t).settings = t.settings := (enterOperating_changedOnly order t).settings
  obtain ⟨hdone, hrectEn, htarget, -⟩ := (show t.rot = (enterOperating order t).rot ∧
      (enterOperating order t).RectLive (rectTarget t.settings.rot t.rot.state) t.rot.state.enables by
    rw [enterOperating_eq]
    refine fan_establishes order
      (I := fun u => t.rot = u.rot ∧ u.sdo.outputs.rectIlim.waiting = some (rectTarget t.settings.rot t.rot.state))
      (P := fun u => t.rot = u.rot ∧ u.RectLive (rectTarget t.settings.rot t.rot.state) t.rot.state.enables)
      .sdo (by decide) ?_ ?_ ?_ _ ⟨hnotes.rot.symm, by rw [hnotes.sdo]; exact h.2 hlive⟩
    · rintro y _ hy u ⟨hurot, hwaiting⟩
      obtain ⟨-, -, hilim⟩ := operatingTakes_rectOutKept order hy u
      exact ⟨hurot.trans (operatingTakes_changedOnly order y u).rot.symm, by rw [hilim]; exact hwaiting⟩
    · rintro u ⟨hurot, hwaiting⟩
      exact ⟨hurot, hurot ▸ sdoOnOperating_rectLive (.inl (hurot ▸ hwaiting))⟩
    · rintro y _ u ⟨hurot, hu⟩
      refine ⟨hurot.trans (operatingTakes_changedOnly order y u).rot.symm, ?_⟩
      by_cases hy : y = .sdo
      · subst hy; exact hurot ▸ sdoOnOperating_rectLive (.inr (hurot ▸ hu))
      · obtain ⟨hulive, hurelay, huilim⟩ := operatingTakes_rectOutKept order hy u
        unfold State.RectLive
        rwa [hulive, hurelay, huilim]).2
  unfold State.RectDriven
  rw [hrot, hset]
  exact ⟨fun _ => ⟨hrectEn, htarget⟩, fun h => absurd (hdone.symm.trans h) (by decide)⟩

/-- A rectifier state is held by SDO also after what follows of a command. -/
theorem leaveCheck_inRectState (order : List Taker) (h : State.InRectState x n t)
    (hlive : t.sdo.live = t.operating) : State.InRectState x n (leaveCheck order t) := by
  rw [inRectState_iff] at h ⊢
  obtain ⟨hstate, hentry, hdriven⟩ := h
  rw [(leaveCheck_changedOnly order t).rot]
  refine ⟨hstate, hentry, ?_⟩
  unfold leaveCheck
  split
  · next hcheck => exact enterOperating_rectDriven order hdriven (by rw [hlive, State.operating, hcheck.1]; rfl)
  · exact hdriven

/-! ## A qualified contact (R18, R19) -/

/-- An input takes the level of its candidate. -/
def takeCandidate (i : Contact) (level : Bool) (s : State) : State :=
  s.onMch fun m =>
    { m with contacts := contactSet m.contacts i { state := qualifiedOf level, candidate := none, count := 0 } }

theorem takeCandidate_contact (i : Contact) (level : Bool) (s : State) :
    (takeCandidate i level s).contact i = qualifiedOf level := by
  rw [State.contact, takeCandidate, State.onMch_mch, contactGet_contactSet, if_pos rfl]

theorem exec_contactQualified (w : Moment) {i : Contact} {level : Bool} (hawake : s.awake = true)
    (hcand : (contactGet s.mch.contacts i).candidate = some level) (hcount : (contactGet s.mch.contacts i).count = 5) :
    exec (.contactQualified w i) s =
      .next (leaveCheck w.order (handContact w.order i (takeCandidate i level (s.upTo w)))) := by
  have hqualify : qualifyContact w.order i (s.upTo w) =
      handContact w.order i (takeCandidate i level (s.upTo w)) := by
    simp only [qualifyContact, upTo_mch, hcand, upTo_awake]
    exact if_pos ⟨hawake, hcount⟩
  rw [exec, execContactQualified, command_eq, hqualify]

/-- What each taker of a change of RECT_ACOK makes of the state. -/
def acokTakes (order : List Taker) (y : Taker) (s : State) : State :=
  match y with
  | .ptb => recomputeViews order s
  | .rot => rotOnAcok order s
  | _ => s

theorem handContact_rectAcok (order : List Taker) (s : State) :
    handContact order .rectAcok s = fan order [.ptb, .rot] (acokTakes order) s := rfl

theorem handCtrFb_changedOnly (order : List Taker) (s : State) :
    s.ChangedOnly [.sdo, .csc, .alu, .pli, .sac, .cbu, .sup] (handCtrFb order s) := by
  refine fan_induction order (P := State.ChangedOnly s _) ?_ s (.refl s _)
  simp only [List.forall_mem_cons]
  refine ⟨fun t h => h.trans ((sdoOnCtrFb_changedOnly _ t).mono rfl), fun t h => h.trans ?_,
    fun t h => h.trans ((requestStatus_changedOnly t).mono rfl), List.forall_mem_nil _⟩
  split
  · exact (cscOnCtrFb_changedOnly _ _ t).mono rfl
  · exact .refl t _

theorem handContact_changedOnly (order : List Taker) (i : Contact) (s : State) :
    s.ChangedOnly [.ptb, .csc, .cbu, .rot, .gco, .pli, .sup, .alu, .sdo, .sac] (handContact order i s) := by
  cases i with
  | xferGen | genRunFb => exact recomputeViews_changedOnly order s
  | rectAcok =>
    refine fan_changedOnly order _ (fun y t => ?_) s
    cases y with
    | ptb => exact recomputeViews_changedOnly order t
    | rot => exact (rotOnAcok_changedOnly order t).mono rfl
    | _ => exact .refl t _
  | rectFail => exact (rotOnFail_changedOnly order s).mono rfl
  | ctrFb => exact (handCtrFb_changedOnly order s).mono rfl
  | in1 | in2 | in3 | in4 | in5 | in6 | in7 | in8 => exact (takeCondition_changedOnly _ _ s).mono rfl

/-- The points of the general inputs are 25 to 32, and such an input's change is taken by its point alone (R160). -/
theorem handContact_input (order : List Taker) {i : Contact} (s : State) (hi : 1 ≤ inputPoint i) :
    handContact order i s = takeCondition order (inputPoint i) s ∧
      s.ownerCondition (inputPoint i) = (s.contact i == .active) ∧ 25 ≤ inputPoint i ∧ inputPoint i ≤ 32 := by
  cases i with
  | in1 | in2 | in3 | in4 | in5 | in6 | in7 | in8 => exact ⟨rfl, rfl, by decide, by decide⟩
  | _ => exact absurd hi (by decide)

/-- A general input's change moves its point's condition (R160), whatever follows of the command. -/
theorem inputPoint_condition (order : List Taker) {i : Contact} {level : Bool} (h : s.contact i = qualifiedOf level)
    (hi : 1 ≤ inputPoint i) (hrun : s.alu.running = true) (hlen : s.alu.points.length = 32) :
    (pointGet (leaveCheck order (handContact order i s)).alu.points (inputPoint i)).condition = level := by
  obtain ⟨hhand, howner, hlow, hhigh⟩ := handContact_input order s hi
  have hlevel : s.ownerCondition (inputPoint i) = level := by rw [howner, h]; cases level <;> rfl
  rw [hhand]
  have hkept : (takeCondition order (inputPoint i) s).ownerCondition (inputPoint i) = s.ownerCondition (inputPoint i) :=
    ownerCondition_input hlow hhigh (congrArg Mch.contacts (takeCondition_changedOnly order _ s).mch)
  have htaken := condition_takeCondition_same order (id := inputPoint i) s hrun (by omega)
  exact ((leaveCheck_keepsBut order _ .inputs (by decide)).2 _ hlow hhigh (htaken.trans hkept.symm)).trans
    (hkept.trans hlevel)

/-! ## RECT_FAIL and RECT_ACOK (R133, R134) -/

theorem rotOnAcok_eq (order : List Taker) (s : State) :
    rotOnAcok order s = s ∨ ∃ x, rotOnAcok order s = enterRect order x s := by
  unfold rotOnAcok
  split
  · split
    · exact .inr ⟨_, rfl⟩
    · exact .inl rfl
  · split
    · exact .inl rfl
    · exact .inl rfl
    · exact .inr ⟨_, rfl⟩

/-- What the takers of a change of RECT_ACOK leave as they find it. -/
def State.AcokKept (s t : State) : Prop :=
  t.mch = s.mch ∧ t.settings = s.settings ∧ t.clock = s.clock ∧ t.sup.phase = s.sup.phase ∧ t.sdo.live = s.sdo.live

theorem State.AcokKept.takes (h : s.AcokKept t) (order : List Taker) (y : Taker) :
    s.AcokKept (acokTakes order y t) := by
  have hstep : t.AcokKept (acokTakes order y t) := by
    cases y with
    | ptb =>
      have hchanged := recomputeViews_changedOnly order t
      obtain ⟨-, hphase, -⟩ := recomputeViews_keepsBut order t .schedule (by decide)
      exact ⟨hchanged.mch, hchanged.settings, hchanged.clock, hphase, (recomputeViews_rot order t).2⟩
    | rot =>
      have hchanged := rotOnAcok_changedOnly order t
      refine ⟨hchanged.mch, hchanged.settings, hchanged.clock, congrArg Sup.phase hchanged.sup, ?_⟩
      rcases rotOnAcok_eq order t with hstay | ⟨x, hentry⟩
      · exact congrArg (fun u : State => u.sdo.live) hstay
      · exact (congrArg (fun u : State => u.sdo.live) hentry).trans (enterRect_live order x t)
    | _ => exact ⟨rfl, rfl, rfl, rfl, rfl⟩
  obtain ⟨hmch, hset, hclock, hphase, hlive⟩ := h
  obtain ⟨gmch, gset, gclock, gphase, glive⟩ := hstep
  exact ⟨gmch.trans hmch, gset.trans hset, gclock.trans hclock, gphase.trans hphase, glive.trans hlive⟩

/-- A rectifier state that a recomputation does not leave is held over it. -/
theorem recomputeViews_inRectState (order : List Taker) (h : State.InRectState x n t) (hx : x.rests = false) :
    State.InRectState x n (recomputeViews order t) ∧ (recomputeViews order t).rot = t.rot := by
  rw [inRectState_iff] at h ⊢
  obtain ⟨hstate, hentry, hdriven⟩ := h
  obtain ⟨hrot, hout⟩ := recomputeViews_rot_kept order (s := t) (.inl (hstate ▸ hx))
  have hset := (recomputeViews_changedOnly order t).settings
  exact ⟨⟨(congrArg Rot.state hrot).trans hstate, (congrArg Rot.entryAt hrot).trans hentry,
    hdriven.congr hrot hset hout⟩, hrot⟩

/-- A wired station's view is of its inputs alone (R104). -/
theorem viewNow_of_wired (hwired : t.wired = true) (hmch : u.mch.ac = t.mch.ac)
    (hcontact : u.contact .xferGen = t.contact .xferGen) (hset : u.settings = t.settings) :
    u.viewNow = t.viewNow := by
  have huwired : u.wired = true := by unfold State.wired at *; rwa [hset]
  unfold State.viewNow
  rw [if_pos huwired, if_pos hwired, hmch, hcontact]

theorem recomputeViews_view (order : List Taker) (h : t.ptb.view = t.viewNow) :
    (recomputeViews order t).ptb.view = t.viewNow := by
  cases hawake : t.awake with
  | false => rw [recomputeViews, hawake]; exact h
  | true =>
    rw [recomputeViews_eq order hawake]
    refine fan_induction order (P := fun u => u.ptb.view = t.viewNow) (fun y _ u hu => ?_) _ rfl
    by_cases hy : y = .rot
    · subst hy
      have hchanged : u.ChangedOnly [.rot, .sdo, .pli, .alu] (viewTakes order t .rot u) :=
        State.ChangedOnly.ite (rotOnView_changedOnly order u) (.refl u _)
      rwa [hchanged.ptb]
    · rwa [(viewTakes_changedOnly order t hy u).ptb]

/-- RECT_ACOK on a rectifier that neither taker of its change moves. -/
theorem handContact_rectAcok_rot_kept (order : List Taker) (m : State)
    (hview : m.rot.state.rests = false ∨ (m.wired = true ∧ m.ptb.view = m.viewNow))
    (hacok : ∀ t : State, m.AcokKept t → t.rot = m.rot → rotOnAcok order t = t) :
    (handContact order .rectAcok m).rot = m.rot := by
  rw [handContact_rectAcok]
  refine (fan_induction order (P := fun t => m.AcokKept t ∧ t.rot = m.rot ∧
    (m.rot.state.rests = false ∨ (t.wired = true ∧ t.ptb.view = t.viewNow))) (fun y _ t ht => ?_) m
    ⟨⟨rfl, rfl, rfl, rfl, rfl⟩, rfl, hview⟩).2.1
  obtain ⟨hkept, hrot, htview⟩ := ht
  refine ⟨hkept.takes order y, ?_⟩
  cases y with
  | ptb =>
    have hchanged := recomputeViews_changedOnly order t
    refine ⟨(recomputeViews_rot_kept order (by rw [hrot]; exact htview.imp_right And.right)).1.trans hrot,
      htview.imp_right fun ⟨hwired, hv⟩ => ⟨?_, (recomputeViews_view order hv).trans ?_⟩⟩
    · change (recomputeViews order t).wired = true
      unfold State.wired at *
      rwa [hchanged.settings]
    · refine (viewNow_of_wired hwired (congrArg Mch.ac hchanged.mch) ?_ hchanged.settings).symm
      exact congrArg (fun m : Mch => (contactGet m.contacts .xferGen).state) hchanged.mch
  | rot =>
    change (rotOnAcok order t).rot = m.rot ∧
      (_ ∨ (rotOnAcok order t).wired = true ∧ (rotOnAcok order t).ptb.view = (rotOnAcok order t).viewNow)
    rw [hacok t hkept hrot]
    exact ⟨hrot, htview⟩
  | _ => exact ⟨hrot, htview⟩

/-- What the entry to a state leaves of ROT's ramp, settle expiry and own intent (R122). -/
def Rot.EntryOf (x : RectState) (r : Rot) : Prop :=
  r.ramp = (if x = .softStart then some 0 else none) ∧ r.settleAt = none ∧ r.intent = none

/-- RECT_ACOK on a rectifier that it moves to the state `x`, from states `M` that a change of the view, taken before it,
does not lead out of. -/
theorem handContact_rectAcok_enters (order : List Taker) (m : State) {M : RectState → Prop} (hx : x.rests = false)
    (hM : M m.rot.state) (hview : ∀ t : State, M t.rot.state → M (recomputeViews order t).rot.state)
    (hmove : ∀ t : State, m.AcokKept t → M t.rot.state → rotOnAcok order t = enterRect order x t)
    (hstay : ∀ t : State, m.AcokKept t → t.rot.state = x → rotOnAcok order t = t) :
    m.AcokKept (handContact order .rectAcok m) ∧ State.InRectState x m.now (handContact order .rectAcok m) ∧
      Rot.EntryOf x (handContact order .rectAcok m).rot := by
  rw [handContact_rectAcok]
  refine fan_establishes order (I := fun t => m.AcokKept t ∧ M t.rot.state)
    (P := fun t => m.AcokKept t ∧ State.InRectState x m.now t ∧ Rot.EntryOf x t.rot) .rot (by decide) ?_ ?_ ?_ m
    ⟨⟨rfl, rfl, rfl, rfl, rfl⟩, hM⟩
  · rintro y hy hrot t ⟨hkept, hMt⟩
    obtain rfl : y = .ptb := by simpa [hrot] using hy
    exact ⟨hkept.takes order .ptb, hview t hMt⟩
  · rintro t ⟨hkept, hMt⟩
    refine ⟨hkept.takes order .rot, ?_⟩
    change State.InRectState x m.now (rotOnAcok order t) ∧ Rot.EntryOf x (rotOnAcok order t).rot
    obtain ⟨-, -, hclock, -⟩ := id hkept
    rw [hmove t hkept hMt, enterRect_rot, show m.now = t.now by rw [State.now, State.now, hclock]]
    exact ⟨enterRect_inRectState order x t, rfl, rfl, rfl⟩
  · rintro y hy t ⟨hkept, hin, hentry⟩
    refine ⟨hkept.takes order y, ?_⟩
    cases y with
    | ptb =>
      obtain ⟨hin', hrot⟩ := recomputeViews_inRectState order hin hx
      exact ⟨hin', hrot.symm ▸ hentry⟩
    | rot =>
      change State.InRectState x m.now (rotOnAcok order t) ∧ Rot.EntryOf x (rotOnAcok order t).rot
      rw [hstay t hkept hin.1]
      exact ⟨hin, hentry⟩
    | _ => exact ⟨hin, hentry⟩

end Sys2Proof.Machine
end


section
/-! SUPPORT. The commands of the contact inputs (R18, R19, R133, R134). -/
namespace Sys2Proof.Machine

set_option Elab.async false

variable {s t u : State}

/-! ## A sample (R18, R19) -/

/-- An unwired station does not sample its two sense inputs (R19). -/
theorem sampled_eq_false_iff (wired : Bool) (i : Contact) :
    sampled wired i = false ↔ wired = false ∧ (i = .xferGen ∨ i = .genRunFb) := by
  cases i <;> simp [sampled]

theorem exec_contactSample (w : Moment) (levels : PerContact Bool) (hs : s.Steady) (hawake : s.awake = true) :
    exec (.contactSample w levels) s = .next ((s.upTo w).onMch fun m =>
      { m with contacts := contactMap (fun i c =>
          if sampled s.wired i then sampleContact (contactGet levels i) c else c) m.contacts }) := by
  have hwired : (s.upTo w).wired = s.wired := by rw [State.wired, upTo_settings, State.wired]
  rw [exec, execContactSample, command_eq, if_pos (by simpa using hawake), hwired, leaveCheck_of_steady]
  exact upTo_steady w hs

theorem contactSample_effect (w : Moment) (s : State) (levels : PerContact Bool) (hs : s.Steady)
    (hawake : s.awake = true) :
    ∃ t, exec (.contactSample w levels) s = .next t ∧
      (∀ i, contactGet t.mch.contacts i =
        if s.wired = false ∧ (i = .xferGen ∨ i = .genRunFb) then contactGet s.mch.contacts i
        else if (contactGet s.mch.contacts i).state = (if contactGet levels i then Qualified.active else .inactive) then
          { contactGet s.mch.contacts i with candidate := none, count := 0 }
        else if (contactGet s.mch.contacts i).candidate = some (contactGet levels i) then
          { contactGet s.mch.contacts i with count := satInc 5 (contactGet s.mch.contacts i).count }
        else { contactGet s.mch.contacts i with candidate := some (contactGet levels i), count := 1 }) ∧
      t = (s.upTo w).onMch fun m => { m with contacts := t.mch.contacts } := by
  refine ⟨_, exec_contactSample w levels hs hawake, fun i => ?_, rfl⟩
  rw [State.onMch_mch, contactGet_contactMap, upTo_mch]
  cases hsampled : sampled s.wired i with
  | false => rw [if_pos ((sampled_eq_false_iff _ _).mp hsampled)]; rfl
  | true => rw [if_neg (mt (sampled_eq_false_iff s.wired i).mpr (by simp [hsampled]))]; rfl

/-! ## A qualified change -/

theorem takeCandidate_mch (i : Contact) (level : Bool) (s : State) (w : Moment) :
    (takeCandidate i level (s.upTo w)).mch = { s.mch with
      contacts := contactSet s.mch.contacts i { state := qualifiedOf level, candidate := none, count := 0 } } := by
  rw [takeCandidate, State.onMch_mch, upTo_mch]

/-- What every qualified change leaves of MCH, of a general input's point, and of the other parts. -/
theorem contactQualified_effect (w : Moment) (i : Contact) (level : Bool) (s : State) :
    let t := leaveCheck w.order (handContact w.order i (takeCandidate i level (s.upTo w)))
    contactGet t.mch.contacts i = { state := if level then .active else .inactive, candidate := none, count := 0 } ∧
      (∀ j, j ≠ i → contactGet t.mch.contacts j = contactGet s.mch.contacts j) ∧
      (t.mch.channels = s.mch.channels ∧ t.mch.lastSet = s.mch.lastSet ∧ t.mch.ac = s.mch.ac) ∧
      (s.alu.running = true → s.alu.points.length = 32 → 1 ≤ inputPoint i →
        (pointGet t.alu.points (inputPoint i)).condition = level) ∧
      (s.upTo w).ChangedOnly [.mch, .ptb, .csc, .cbu, .rot, .gco, .pli, .sup, .alu, .sdo, .sac] t := by
  intro t
  have hmch : t.mch = _ := (leaveCheck_changedOnly w.order _).mch.trans
    ((handContact_changedOnly w.order i _).mch.trans (takeCandidate_mch i level s w))
  rw [hmch]
  refine ⟨?_, fun j hj => ?_, ⟨rfl, rfl, rfl⟩, fun hrun hlen hi => ?_, ?_⟩
  · exact (contactGet_contactSet ..).trans (if_pos rfl)
  · exact (contactGet_contactSet ..).trans (if_neg hj)
  · exact inputPoint_condition w.order (takeCandidate_contact i level _) hi (by simpa [takeCandidate] using hrun)
      (by simpa [takeCandidate] using hlen)
  · exact (((onMch_changedOnly _ _).mono rfl).trans ((handContact_changedOnly w.order i _).mono rfl)).trans
      ((leaveCheck_changedOnly _ _).mono rfl)

/-! ## RECT_FAIL (R134) -/

/-- RECT_FAIL at 1 takes the rectifier to FAILED, with point 8; in FAILED it stops the fail-clear timer. -/
theorem rotOnFail_active (order : List Taker) (h : s.contact .rectFail = .active) :
    rotOnFail order s =
      if s.rot.state = .failed then s.onRot fun r => { r with failSince := none } else enterRect order .failed s := by
  simp [rotOnFail, h]

/-- RECT_FAIL at 0 starts the fail-clear timer of a rectifier in FAILED. -/
theorem rotOnFail_inactive (order : List Taker) (h : s.contact .rectFail = .inactive) :
    rotOnFail order s =
      if s.rot.state = .failed then s.onRot fun r => { r with failSince := some s.now } else s := by
  simp [rotOnFail, h]

theorem exec_rectFail (w : Moment) {level : Bool} (hs : s.Steady) (hawake : s.awake = true)
    (hcand : s.mch.contacts.rectFail.candidate = some level) (hcount : s.mch.contacts.rectFail.count = 5) :
    exec (.contactQualified w .rectFail) s =
      .next (rotOnFail w.order (takeCandidate .rectFail level (s.upTo w))) := by
  have hsteady : (rotOnFail w.order (takeCandidate .rectFail level (s.upTo w))).Steady := by
    unfold State.Steady
    rw [(rotOnFail_changedOnly _ _).sup]
    exact upTo_steady w hs
  rw [exec_contactQualified (i := .rectFail) w hawake hcand hcount]
  exact congrArg _ (leaveCheck_of_steady _ hsteady)

theorem rectFail_active_effect (w : Moment) (s : State) (hs : s.Steady) (hawake : s.awake = true)
    (hcand : s.mch.contacts.rectFail.candidate = some true) (hcount : s.mch.contacts.rectFail.count = 5) :
    ∃ t, exec (.contactQualified w .rectFail) s = .next t ∧
      (s.rot.state ≠ .failed → State.InRectState .failed (s.upTo w).now t ∧ t.rot.ramp = none ∧
        t.rot.settleAt = none ∧ t.rot.intent = none) ∧
      (s.rot.state = .failed → t.rot = { s.rot with failSince := none }) ∧ t.rot.failSince = none ∧
      (s.rot.state ≠ .failed → s.alu.running = true → s.alu.points.length = 32 →
        (pointGet t.alu.points 8).condition = true) ∧
      (s.upTo w).ChangedOnly [.mch, .rot, .sdo, .pli, .alu] t := by
  refine ⟨_, exec_rectFail w hs hawake hcand hcount, ?_⟩
  generalize hm : takeCandidate .rectFail true (s.upTo w) = m
  have hcontact : m.contact .rectFail = .active := hm ▸ takeCandidate_contact .rectFail true _
  have hrot : m.rot = s.rot := by rw [← hm]; exact upTo_rot s w
  have hnow : m.now = (s.upTo w).now := by rw [← hm]; rfl
  have hrunning : m.alu.running = s.alu.running := by rw [← hm]; exact upTo_running s w
  have hpoints : m.alu.points = s.alu.points := by rw [← hm]; exact upTo_points s w
  have hchanged : (s.upTo w).ChangedOnly [.mch] m := hm ▸ onMch_changedOnly _ _
  refine ⟨fun h => ?_, fun h => ?_, ?_, fun h hrun hlen => ?_,
    (hchanged.mono rfl).trans ((rotOnFail_changedOnly _ _).mono rfl)⟩
  all_goals rw [rotOnFail_active w.order hcontact, hrot]
  · rw [if_neg h, enterRect_rot, ← hnow]
    exact ⟨enterRect_inRectState w.order .failed m, rfl, rfl, rfl⟩
  · rw [if_pos h, State.onRot_rot, hrot]
  · split
    · rfl
    · rw [enterRect_rot]; rfl
  · rw [if_neg h]
    exact enterRect_point w.order .failed m (hrunning.trans hrun) (by rw [hpoints, hlen])

theorem rectFail_inactive_effect (w : Moment) (s : State) (hs : s.Steady) (hawake : s.awake = true)
    (hcand : s.mch.contacts.rectFail.candidate = some false) (hcount : s.mch.contacts.rectFail.count = 5) :
    ∃ t, exec (.contactQualified w .rectFail) s = .next t ∧
      (t.rot = if s.rot.state = .failed then { s.rot with failSince := some (s.upTo w).now } else s.rot) ∧
      (s.upTo w).ChangedOnly [.mch, .rot] t := by
  refine ⟨_, exec_rectFail w hs hawake hcand hcount, ?_⟩
  rw [rotOnFail_inactive w.order (takeCandidate_contact .rectFail false _),
    show (takeCandidate .rectFail false (s.upTo w)).rot = s.rot from upTo_rot s w]
  have hchanged : (s.upTo w).ChangedOnly [.mch] (takeCandidate .rectFail false (s.upTo w)) := onMch_changedOnly _ _
  split
  · refine ⟨?_, (hchanged.mono rfl).trans ((onRot_changedOnly _ _).mono rfl)⟩
    rw [State.onRot_rot, show (takeCandidate .rectFail false (s.upTo w)).rot = s.rot from upTo_rot s w]
    rfl
  · exact ⟨upTo_rot s w, hchanged.mono rfl⟩

/-! ## RECT_ACOK (R133) -/

/-- RECT_ACOK at 1 takes NO_INPUT to SOFT_START. -/
theorem rotOnAcok_active (order : List Taker) (h : s.contact .rectAcok = .active) :
    rotOnAcok order s = if s.rot.state = .noInput then enterRect order .softStart s else s := by
  simp [rotOnAcok, h]

/-- RECT_ACOK at 0 takes every state but FAILED to NO_INPUT. -/
theorem rotOnAcok_inactive (order : List Taker) (h : s.contact .rectAcok = .inactive) :
    rotOnAcok order s =
      if s.rot.state = .noInput ∨ s.rot.state = .failed then s else enterRect order .noInput s := by
  unfold rotOnAcok
  rw [h]
  cases hstate : s.rot.state <;> simp

theorem State.AcokKept.contact (h : s.AcokKept t) (i : Contact) : t.contact i = s.contact i := by
  obtain ⟨hmch, -⟩ := h
  rw [State.contact, hmch, State.contact]

/-- A state that the change of RECT_ACOK has entered is held by SDO after the command. -/
theorem rectAcok_inRectState {x : RectState} (w : Moment) (level : Bool) (hwait : s.RelaysWaitForOperating)
    (hkept : (takeCandidate .rectAcok level (s.upTo w)).AcokKept t)
    (hin : State.InRectState x (takeCandidate .rectAcok level (s.upTo w)).now t) :
    State.InRectState x (s.upTo w).now (leaveCheck w.order t) := by
  obtain ⟨-, -, -, hphase, hlive⟩ := hkept
  refine leaveCheck_inRectState w.order hin ?_
  rw [hlive, State.operating, hphase]
  simpa [takeCandidate, State.operating] using hwait.1

theorem rectAcok_active_effect (w : Moment) (s : State) (hwait : s.RelaysWaitForOperating) (hawake : s.awake = true)
    (hcand : s.mch.contacts.rectAcok.candidate = some true) (hcount : s.mch.contacts.rectAcok.count = 5) :
    ∃ t, exec (.contactQualified w .rectAcok) s = .next t ∧
      (s.rot.state = .noInput → State.InRectState .softStart (s.upTo w).now t ∧ t.rot.ramp = some 0) ∧
      (s.rot.state ≠ .noInput → s.rot.state ≠ .resting → s.rot.state ≠ .restPending →
        s.rot.state ≠ .forcedRest → t.rot = s.rot) ∧
      (s.rot.state ≠ .noInput → s.ptb.view = .mains → s.wired = true → s.ptb.view = s.viewNow → t.rot = s.rot) := by
  refine ⟨_, exec_contactQualified (i := .rectAcok) w hawake hcand hcount, ?_⟩
  have hcontact := takeCandidate_contact .rectAcok true (s.upTo w)
  have hrot : (takeCandidate .rectAcok true (s.upTo w)).rot = s.rot := upTo_rot s w
  have hstays : ∀ t : State, (takeCandidate .rectAcok true (s.upTo w)).AcokKept t → t.rot.state ≠ .noInput →
      rotOnAcok w.order t = t := fun t hkept h => by
    rw [rotOnAcok_active w.order ((hkept.contact _).trans hcontact), if_neg h]
  have hmoves : ∀ t : State, (takeCandidate .rectAcok true (s.upTo w)).AcokKept t → t.rot.state = .noInput →
      rotOnAcok w.order t = enterRect w.order .softStart t := fun t hkept h => by
    rw [rotOnAcok_active w.order ((hkept.contact _).trans hcontact), if_pos h]
  refine ⟨fun h => ?_, fun h hresting hpending hforced => ?_, fun h _ hwired hview => ?_⟩
  all_goals rw [(leaveCheck_changedOnly w.order _).rot]
  · obtain ⟨hkept, hin, hramp, -⟩ := handContact_rectAcok_enters w.order (takeCandidate .rectAcok true (s.upTo w))
      (x := .softStart) (M := fun y => y = .noInput) rfl (by rw [hrot, h])
      (fun t ht => by rw [(recomputeViews_rot_kept w.order (.inl (by rw [ht]; rfl))).1, ht]) hmoves
      (fun t hkept ht => hstays t hkept (by rw [ht]; decide))
    exact ⟨rectAcok_inRectState w true hwait hkept hin, hramp⟩
  · refine (handContact_rectAcok_rot_kept w.order _ (.inl ?_) fun t hkept ht =>
      hstays t hkept (by rw [ht, hrot]; exact h)).trans hrot
    rw [hrot]
    cases hstate : s.rot.state <;> simp_all [RectState.rests]
  · refine (handContact_rectAcok_rot_kept w.order _ (.inr ?_) fun t hkept ht =>
      hstays t hkept (by rw [ht, hrot]; exact h)).trans hrot
    have hmch := takeCandidate_mch .rectAcok true s w
    have hset : (takeCandidate .rectAcok true (s.upTo w)).settings = s.settings := upTo_settings s w
    refine ⟨by rw [State.wired, hset]; exact hwired, Eq.trans ?_ (viewNow_of_wired hwired (by rw [hmch]) ?_ hset).symm⟩
    · exact (congrArg Ptb.view (upTo_ptb s w)).trans hview
    · rw [State.contact, hmch]; rfl

theorem rectAcok_inactive_effect (w : Moment) (s : State) (hwait : s.RelaysWaitForOperating) (hawake : s.awake = true)
    (hcand : s.mch.contacts.rectAcok.candidate = some false) (hcount : s.mch.contacts.rectAcok.count = 5) :
    ∃ t, exec (.contactQualified w .rectAcok) s = .next t ∧
      (s.rot.state = .noInput ∨ s.rot.state = .failed → t.rot = s.rot) ∧
      (s.rot.state ≠ .noInput → s.rot.state ≠ .failed → State.InRectState .noInput (s.upTo w).now t ∧
        t.rot.ramp = none ∧ t.rot.settleAt = none ∧ t.rot.intent = none) := by
  refine ⟨_, exec_contactQualified (i := .rectAcok) w hawake hcand hcount, ?_⟩
  have hcontact := takeCandidate_contact .rectAcok false (s.upTo w)
  have hrot : (takeCandidate .rectAcok false (s.upTo w)).rot = s.rot := upTo_rot s w
  have hstays : ∀ t : State, (takeCandidate .rectAcok false (s.upTo w)).AcokKept t →
      t.rot.state = .noInput ∨ t.rot.state = .failed → rotOnAcok w.order t = t := fun t hkept h => by
    rw [rotOnAcok_inactive w.order ((hkept.contact _).trans hcontact), if_pos h]
  have hmoves : ∀ t : State, (takeCandidate .rectAcok false (s.upTo w)).AcokKept t →
      ¬(t.rot.state = .noInput ∨ t.rot.state = .failed) → rotOnAcok w.order t = enterRect w.order .noInput t :=
    fun t hkept h => by rw [rotOnAcok_inactive w.order ((hkept.contact _).trans hcontact), if_neg h]
  refine ⟨fun h => ?_, fun hinput hfailed => ?_⟩
  all_goals rw [(leaveCheck_changedOnly w.order _).rot]
  · refine (handContact_rectAcok_rot_kept w.order _ (.inl ?_) fun t hkept ht =>
      hstays t hkept (by rw [ht, hrot]; exact h)).trans hrot
    rw [hrot]
    rcases h with h | h <;> rw [h] <;> rfl
  · obtain ⟨hkept, hin, hramp, hsettle, hintent⟩ := handContact_rectAcok_enters w.order
      (takeCandidate .rectAcok false (s.upTo w)) (x := .noInput) (M := fun y => ¬(y = .noInput ∨ y = .failed)) rfl
      (by rw [hrot]; exact not_or.mpr ⟨hinput, hfailed⟩)
      (fun t ht => by
        rcases (recomputeViews_rot w.order t).1 with h | h <;> rw [h]
        · exact ht
        · decide)
      hmoves (fun t hkept ht => hstays t hkept (.inl ht))
    exact ⟨rectAcok_inRectState w false hwait hkept hin, hramp, hsettle, hintent⟩

/-- Settles O38: a sample, a qualified change of any input, and those of RECT_FAIL and RECT_ACOK at 1 and at 0. -/
theorem contactsQualifyInFiveSamples : Obligations.ContactsQualifyInFiveSamples :=
  ⟨contactSample_effect,
    fun w s i level hawake hcand hcount =>
      ⟨_, exec_contactQualified w hawake hcand hcount, contactQualified_effect w i level s⟩,
    rectFail_active_effect, rectFail_inactive_effect, rectAcok_active_effect, rectAcok_inactive_effect⟩

end Sys2Proof.Machine
end

section
/-! SUPPORT. What every operation of the machine carries from the state before it to the state after it. A relation that is
transitive, holds where nothing of a state's drive changes, and holds of the few operations that change the drive, holds of
every operation: a relation is judged on those few once, and the walk through the blocks is made here for all. -/
namespace Sys2Proof.Machine

set_option Elab.async false

variable {s t u : State}

/-! ## The drive of a state -/

/-- What the outputs, the relays and the gates of the demands stand on. -/
structure Drive where
  settings : Settings
  outputs : PerDac Output
  relays : Relays
  live : Bool
  peers : List PeerRecord
  rect : RectState
  gco : Gco
  points : List Point
  subValues : List Bool
  effFuel : Bool
  effInhibit : Bool
  demands : AluDemands
  running : Bool
  phase : Phase
  mode : Mode
  configFault : Bool
  dormantSince : Option Nat
  entryWait : Option Nat

def State.drive (s : State) : Drive :=
  { settings := s.settings, outputs := s.sdo.outputs, relays := s.sdo.relays, live := s.sdo.live, peers := s.ptb.peers
    rect := s.rot.state, gco := s.gco, points := s.alu.points, subValues := s.alu.subValues, effFuel := s.alu.effFuel
    effInhibit := s.alu.effInhibit, demands := s.alu.demands, running := s.alu.running, phase := s.sup.phase
    mode := s.sup.mode, configFault := s.sup.configFault, dormantSince := s.sup.dormantSince
    entryWait := s.sup.entryWait }

/-- Nothing of the drive changes. -/
def State.Quiet (s t : State) : Prop := t.drive = s.drive

theorem State.Quiet.refl (s : State) : s.Quiet s := rfl

theorem State.Quiet.trans (h : s.Quiet t) (g : t.Quiet u) : s.Quiet u := Eq.trans g h

theorem State.Quiet.ite {c : Prop} [Decidable c] (h : s.Quiet t) (g : s.Quiet u) : s.Quiet (if c then t else u) := by
  split <;> assumption

theorem foldl_quiet {α : Type} {f : State → α → State} (h : ∀ (s : State) (x : α), s.Quiet (f s x)) (xs : List α)
    (s : State) : s.Quiet (xs.foldl f s) := by
  induction xs generalizing s with
  | nil => exact .refl s
  | cons x xs ih => exact (h s x).trans (ih (f s x))

/-! ## What a quiet change leaves -/

theorem State.Quiet.settings (h : s.Quiet t) : t.settings = s.settings := congrArg Drive.settings h
theorem State.Quiet.outputs (h : s.Quiet t) : t.sdo.outputs = s.sdo.outputs := congrArg Drive.outputs h
theorem State.Quiet.relays (h : s.Quiet t) : t.sdo.relays = s.sdo.relays := congrArg Drive.relays h
theorem State.Quiet.live (h : s.Quiet t) : t.sdo.live = s.sdo.live := congrArg Drive.live h
theorem State.Quiet.peers (h : s.Quiet t) : t.ptb.peers = s.ptb.peers := congrArg Drive.peers h
theorem State.Quiet.rect (h : s.Quiet t) : t.rot.state = s.rot.state := congrArg Drive.rect h
theorem State.Quiet.gco (h : s.Quiet t) : t.gco = s.gco := congrArg Drive.gco h
theorem State.Quiet.points (h : s.Quiet t) : t.alu.points = s.alu.points := congrArg Drive.points h
theorem State.Quiet.subValues (h : s.Quiet t) : t.alu.subValues = s.alu.subValues := congrArg Drive.subValues h
theorem State.Quiet.effFuel (h : s.Quiet t) : t.alu.effFuel = s.alu.effFuel := congrArg Drive.effFuel h
theorem State.Quiet.effInhibit (h : s.Quiet t) : t.alu.effInhibit = s.alu.effInhibit := congrArg Drive.effInhibit h
theorem State.Quiet.demands (h : s.Quiet t) : t.alu.demands = s.alu.demands := congrArg Drive.demands h
theorem State.Quiet.running (h : s.Quiet t) : t.alu.running = s.alu.running := congrArg Drive.running h
theorem State.Quiet.phase (h : s.Quiet t) : t.sup.phase = s.sup.phase := congrArg Drive.phase h
theorem State.Quiet.mode (h : s.Quiet t) : t.sup.mode = s.sup.mode := congrArg Drive.mode h
theorem State.Quiet.configFault (h : s.Quiet t) : t.sup.configFault = s.sup.configFault := congrArg Drive.configFault h
theorem State.Quiet.dormantSince (h : s.Quiet t) : t.sup.dormantSince = s.sup.dormantSince := congrArg Drive.dormantSince h
theorem State.Quiet.entryWait (h : s.Quiet t) : t.sup.entryWait = s.sup.entryWait := congrArg Drive.entryWait h

/-! ## The quiet operations -/

theorem onMch_quiet (f : Mch → Mch) (s : State) : s.Quiet (s.onMch f) := rfl
theorem onSac_quiet (f : Sac → Sac) (s : State) : s.Quiet (s.onSac f) := rfl
theorem onCsc_quiet (f : Csc → Csc) (s : State) : s.Quiet (s.onCsc f) := rfl
theorem onPli_quiet (f : Pli → Pli) (s : State) : s.Quiet (s.onPli f) := rfl
theorem onStore_quiet (f : List Host.Cell → List Host.Cell) (s : State) : s.Quiet (s.onStore f) := rfl
theorem onSpoiled_quiet (f : Nat → Nat) (s : State) : s.Quiet (s.onSpoiled f) := rfl
theorem onCbu_quiet (f : Cbu → Cbu) (s : State) : s.Quiet (s.onCbu f) := rfl

/-- A change of PTB's that leaves the records. -/
theorem onPtb_quiet {f : Ptb → Ptb} {s : State} (h : (f s.ptb).peers = s.ptb.peers) : s.Quiet (s.onPtb f) := by
  simp [State.Quiet, State.drive, h]

/-- A change of ROT's that leaves the state. -/
theorem onRot_quiet {f : Rot → Rot} {s : State} (h : (f s.rot).state = s.rot.state) : s.Quiet (s.onRot f) := by
  simp [State.Quiet, State.drive, h]

/-- A change of SDO's that leaves the outputs and the relays. -/
theorem onSdo_quiet {f : Sdo → Sdo} {s : State} (hout : (f s.sdo).outputs = s.sdo.outputs)
    (hrelays : (f s.sdo).relays = s.sdo.relays) (hlive : (f s.sdo).live = s.sdo.live) : s.Quiet (s.onSdo f) := by
  simp [State.Quiet, State.drive, hout, hrelays, hlive]

/-- A change of SUP's that leaves the phase, the mode, CONFIG_FAULT and the two waits of R180. -/
theorem onSup_quiet {f : Sup → Sup} {s : State} (hphase : (f s.sup).phase = s.sup.phase)
    (hmode : (f s.sup).mode = s.sup.mode) (hfault : (f s.sup).configFault = s.sup.configFault)
    (hsince : (f s.sup).dormantSince = s.sup.dormantSince) (hwait : (f s.sup).entryWait = s.sup.entryWait) :
    s.Quiet (s.onSup f) := by
  simp [State.Quiet, State.drive, hphase, hmode, hfault, hsince, hwait]

/-- A change of ALU's that leaves the points and what is composed of them. -/
theorem onAlu_quiet {f : Alu → Alu} {s : State} (hpoints : (f s.alu).points = s.alu.points)
    (hsubs : (f s.alu).subValues = s.alu.subValues) (hfuel : (f s.alu).effFuel = s.alu.effFuel)
    (hinhibit : (f s.alu).effInhibit = s.alu.effInhibit) (hdemands : (f s.alu).demands = s.alu.demands)
    (hrun : (f s.alu).running = s.alu.running) : s.Quiet (s.onAlu f) := by
  simp [State.Quiet, State.drive, hpoints, hsubs, hfuel, hinhibit, hdemands, hrun]

theorem logEntry_quiet (k : LogKind) (o v : Nat) (s : State) : s.Quiet (logEntry k o v s) := by
  unfold State.Quiet State.drive; rw [logEntry_alu]; rfl

theorem advance_quiet (e : Nat) (s : State) : s.Quiet (advance e s) := .ite rfl rfl

theorem enqueue_quiet (k : NoteKind) (p : List Byte) (s : State) : s.Quiet (enqueue k p s) :=
  .ite (onPli_quiet _ s) (.refl s)

theorem enqueueStatus_quiet (s : State) : s.Quiet (enqueueStatus s) :=
  .ite ((enqueue_quiet _ _ s).trans (onPli_quiet _ _)) (.refl s)

theorem requestStatus_quiet (s : State) : s.Quiet (requestStatus s) := by
  refine .ite ?_ (.refl s)
  split
  · exact .ite (onPli_quiet _ s) (enqueueStatus_quiet s)
  · exact enqueueStatus_quiet s

theorem enqueuePoint_quiet (s : State) : s.Quiet (enqueuePoint s) :=
  .ite ((enqueue_quiet _ _ s).trans (onAlu_quiet rfl rfl rfl rfl rfl rfl)) (.refl s)

theorem logSubChanges_quiet (l : List (Subscription × Bool × Bool)) (s : State) : s.Quiet (logSubChanges l s) := by
  induction l generalizing s with
  | nil => exact .refl s
  | cons x l ih => exact (State.Quiet.ite (logEntry_quiet _ _ _ s) (.refl s)).trans (ih _)

theorem beginWrite_quiet (s : State) : s.Quiet (beginWrite s) := onSup_quiet rfl rfl rfl rfl rfl

theorem triggerWrite_quiet (s : State) : s.Quiet (triggerWrite s) :=
  .ite (onSup_quiet rfl rfl rfl rfl rfl) (beginWrite_quiet s)

theorem beginPendingWrite_quiet (s : State) : s.Quiet (beginPendingWrite s) :=
  .ite ((beginWrite_quiet s).trans (onSup_quiet rfl rfl rfl rfl rfl)) (.refl s)

theorem contactorCommand_quiet (d : Direction) (s : State) : s.Quiet (contactorCommand d s) := by
  refine .ite (onSdo_quiet rfl rfl rfl) ?_
  split
  · exact onSdo_quiet rfl rfl rfl
  · exact .ite (.refl s) (onSdo_quiet rfl rfl rfl)

theorem takeWaitingCommand_quiet (s : State) : s.Quiet (takeWaitingCommand s) := by
  unfold takeWaitingCommand; split
  · exact State.Quiet.trans (onSdo_quiet rfl rfl rfl) (contactorCommand_quiet _ _)
  · exact .refl s

theorem cscOnReport_quiet (d : Direction) (b : Bool) (s : State) : s.Quiet (cscOnReport d b s) :=
  .ite (onCsc_quiet _ s) (.refl s)

theorem rotOnSent_quiet (k : IntentKind) (s : State) : s.Quiet (rotOnSent k s) := by
  refine onRot_quiet ?_
  split
  · split <;> rfl
  · rfl

theorem logWake_quiet (s : State) : s.Quiet (logWake s) := (logEntry_quiet _ _ _ s).trans (logEntry_quiet _ _ _ _)

theorem grantTransmission_quiet (s : State) : s.Quiet (grantTransmission s) :=
  (onPli_quiet _ s).trans (onAlu_quiet rfl rfl rfl rfl rfl rfl)

theorem withdrawTransmission_quiet (s : State) : s.Quiet (withdrawTransmission s) :=
  (onPli_quiet _ s).trans (onAlu_quiet rfl rfl rfl rfl rfl rfl)

theorem beginFrame_quiet (s : State) : s.Quiet (beginFrame s) := by
  unfold beginFrame; split
  · exact .ite (onPli_quiet _ s) (.refl s)
  · exact .refl s

theorem faultTimeOut_quiet (s : State) : s.Quiet (faultTimeOut s) := by
  unfold faultTimeOut; split
  · exact .ite (onPli_quiet _ s) (.refl s)
  · exact .refl s

theorem storeWritten_quiet (v : Retained) (b : Bool) (s : State) : s.Quiet (storeWritten v b s) :=
  .ite (onStore_quiet _ s) ((onStore_quiet _ s).trans (onSpoiled_quiet _ _))

theorem checkSupply_quiet (zone : SupplyZone) (s : State) : s.Quiet (checkSupply zone s) := by
  have hlow : s.Quiet (s.onSup fun x => { x with lowCount := lowCountNext zone x.lowCount }) :=
    onSup_quiet rfl rfl rfl rfl rfl
  have hwarn : ∀ t : State, t.Quiet (t.onSup fun x => { x with rearmCount := 0, armed := false }) := fun t =>
    onSup_quiet rfl rfl rfl rfl rfl
  unfold checkSupply; dsimp only; split
  · exact hlow.trans (onSup_quiet rfl rfl rfl rfl rfl)
  · exact .ite ((hlow.trans (hwarn _)).trans (triggerWrite_quiet _)) (hlow.trans (hwarn _))

theorem beginRestart_quiet (s : State) : s.Quiet (beginRestart s) :=
  ((enqueue_quiet _ _ s).trans (triggerWrite_quiet _)).trans (onSup_quiet rfl rfl rfl rfl rfl)

theorem respond_quiet (c : SiteCommand) (a : Answer) : a.after.Quiet (respond c a) := by
  have hresp : ∀ r : Response, a.after.Quiet (a.after.onSup fun x => { x with response := some r }) := fun r =>
    onSup_quiet rfl rfl rfl rfl rfl
  exact .ite (hresp _) ((hresp _).trans (logEntry_quiet _ _ _ _))

/-! ## Transitive relations that a quiet change establishes -/

/-- A relation between the state before and the state after that a quiet change establishes and that one operation after
another carries on. -/
structure Passed (R : State → State → Prop) : Prop where
  trans {s t u : State} : R s t → R t u → R s u
  quiet {s t : State} : s.Quiet t → R s t

namespace Passed

variable {R : State → State → Prop}

theorem ite {c : Prop} [Decidable c] (ht : R s t) (hu : R s u) : R s (if c then t else u) := by split <;> assumption

variable (h : Passed R)
include h

theorem refl (s : State) : R s s := h.quiet (.refl s)

/-- An operation on a condition, or none. -/
theorem iteRefl {c : Prop} [Decidable c] (ht : R s t) : R s (if c then t else s) := ite ht (h.refl s)

theorem reflIte {c : Prop} [Decidable c] (ht : R s t) : R s (if c then s else t) := ite (h.refl s) ht

theorem fan (order : List Taker) {takers : List Taker} {f : Taker → State → State}
    (hf : ∀ x ∈ takers, ∀ s, R s (f x s)) (s : State) : R s (fan order takers f s) :=
  fan_induction order (P := R s) (fun x hx t ht => h.trans ht (hf x hx t)) s (h.refl s)

theorem foldl {α : Type} {f : State → α → State} {xs : List α} (hf : ∀ x ∈ xs, ∀ s, R s (f s x)) (s : State) :
    R s (xs.foldl f s) := by
  induction xs generalizing s with
  | nil => exact h.refl s
  | cons x xs ih =>
    exact h.trans (hf x List.mem_cons_self s) (ih (fun y hy => hf y (List.mem_cons_of_mem x hy)) _)

/-- A point's change handed on, where the change of the table and the recomputations are carried (R164). -/
theorem handPoint (hpoints : ∀ (ps : List Point) (s : State), R s (s.onAlu fun a => { a with points := ps }))
    (hrelays : ∀ s, R s (recomputeRelays s)) (hsubs : ∀ s, R s (recomputeSubs false s)) (order : List Taker) (id : Nat)
    (p : Point) (s : State) : R s (handPoint order id p s) := by
  refine h.trans (hpoints _ s) (h.fan order ?_ _)
  simp only [List.forall_mem_cons]
  exact ⟨fun s => h.iteRefl (hrelays s), fun s => h.iteRefl (h.trans (hsubs s) (h.quiet (enqueuePoint_quiet _))),
    fun s => h.iteRefl (h.quiet (logEntry_quiet _ _ _ s)), List.forall_mem_nil _⟩

/-- The relays recomputed, where ALU's own demands and a write of one of its relays are carried (R167). -/
theorem recomputeRelays (hdemands : ∀ (d : AluDemands) (s : State), R s (s.onAlu fun a => { a with demands := d }))
    (hrelay : ∀ {r : Relay}, r ≠ .genDemand → r ≠ .rectEn → ∀ (v : Bool) (s : State), R s (writeRelay r v s))
    (s : State) : R s (recomputeRelays s) := by
  unfold Machine.recomputeRelays; dsimp only
  have hstep : ∀ (c : Prop) [Decidable c] {r : Relay} (_ : r ≠ .genDemand) (_ : r ≠ .rectEn) (v : Bool) (x : State),
      R s x → R s (if c then x else writeRelay r v x) := fun c _ _ hg hr v x hx => ite hx (h.trans hx (hrelay hg hr v x))
  exact hstep _ (by decide) (by decide) _ _ (hstep _ (by decide) (by decide) _ _ (hstep _ (by decide) (by decide) _ _
    (hstep _ (by decide) (by decide) _ _ (hdemands _ s))))

/-- The subscriptions recomputed, where their values and the relays are carried (R171). -/
theorem recomputeSubs (hvalues : ∀ (v : List Bool) (s : State), R s (s.onAlu fun a => { a with subValues := v }))
    (hrelays : ∀ s, R s (Machine.recomputeRelays s)) (b : Bool) (s : State) : R s (recomputeSubs b s) :=
  h.trans (h.trans (hvalues _ s) (h.quiet (logSubChanges_quiet _ _))) (hrelays _)

end Passed

/-! ## What the blocks' own work carries -/

/-- A relation that the writes of the outputs, the points and the rectifier establish, and the two waits of R180. -/
structure CarriedByBlocks (R : State → State → Prop) : Prop extends Passed R where
  target {d : Dac} (hd : d ≠ .rectIlim) (v : Nat) (s : State) : R s (writeTarget d v s)
  relays (s : State) : R s (recomputeRelays s)
  point (order : List Taker) {id : Nat} (hid : 1 ≤ id) (p : Point) (s : State) : R s (handPoint order id p s)
  rect (order : List Taker) (x : RectState) (s : State) : R s (enterRect order x s)
  dwell (s : State) : R s (updateDormantDwell s)
  unwait (s : State) : R s (s.onSup fun x => { x with entryWait := none, dormantSince := none, dormantHeld := false })

namespace CarriedByBlocks

variable {R : State → State → Prop} (h : CarriedByBlocks R)
include h

/-! ### Points and dwells -/

theorem takeCondition (order : List Taker) {id : Nat} (hid : 1 ≤ id) (s : State) : R s (takeCondition order id s) :=
  h.iteRefl (h.point order hid _ s)

theorem takeConditions (order : List Taker) {ids : List Nat} (hids : ∀ id ∈ ids, 1 ≤ id) (s : State) :
    R s (takeConditions order ids s) := h.foldl (fun id hid s => h.takeCondition order (hids id hid) s) s

theorem abandonEntryWait (s : State) : R s (abandonEntryWait s) := h.iteRefl (h.trans (h.unwait s) (h.dwell _))

theorem supOnStage (s : State) : R s (supOnStage s) :=
  h.trans (h.reflIte (h.trans (h.quiet (onSup_quiet rfl rfl rfl rfl rfl)) (h.abandonEntryWait _))) (h.dwell _)

/-! ### Budget, accountant, contactor and stages -/

theorem applyLimit (a : Nat) (s : State) : R s (applyLimit a s) :=
  Passed.ite (h.quiet (onCbu_quiet _ _)) (h.trans (h.quiet (onCbu_quiet _ _)) (h.target (by decide) a _))

theorem cbuOnEvent (s : State) : R s (cbuOnEvent s) := h.iteRefl (h.trans (h.quiet (onCbu_quiet _ _)) (h.applyLimit _ _))

theorem cbuOnSet (p n : Nat) (s : State) : R s (cbuOnSet p n s) :=
  h.iteRefl (Passed.ite (h.quiet (onCbu_quiet _ _)) (h.trans (h.quiet (onCbu_quiet _ _)) (h.applyLimit _ _)))

theorem cbuOnOperating (s : State) : R s (cbuOnOperating s) :=
  Passed.ite (h.trans (h.quiet (onCbu_quiet _ _)) (h.target (by decide) _ _)) (h.trans (h.quiet (onCbu_quiet _ _)) (h.target (by decide) _ _))

theorem sacOnSet (order : List Taker) (p : Nat) (s : State) : R s (sacOnSet order p s) :=
  h.trans (h.quiet (onSac_quiet _ _)) (h.takeCondition order (by decide) _)

theorem sacFullResync (order : List Taker) (s : State) : R s (sacFullResync order s) :=
  h.trans (h.quiet (onSac_quiet _ _)) (h.takeCondition order (by decide) _)

theorem sacOnAbsorbEnd (order : List Taker) (s : State) : R s (sacOnAbsorbEnd order s) := by
  unfold Machine.sacOnAbsorbEnd; split
  · exact h.iteRefl (h.sacFullResync order s)
  · exact h.refl s

theorem endOperation (order : List Taker) (op : ContactorOp) (b : Bool) (s : State) :
    R s (endOperation order op b s) := by
  refine h.trans (h.trans (h.quiet (onSdo_quiet rfl rfl rfl)) (h.fan order ?_ _)) (h.quiet (takeWaitingCommand_quiet _))
  simp only [List.forall_mem_cons]
  exact ⟨fun s => h.quiet (cscOnReport_quiet _ _ s), fun s => h.quiet (logEntry_quiet _ _ _ s),
    h.takeCondition order (by decide), List.forall_mem_nil _⟩

theorem sdoOnCtrFb (order : List Taker) (s : State) : R s (sdoOnCtrFb order s) := by
  unfold Machine.sdoOnCtrFb; split
  · exact h.iteRefl (h.endOperation order _ _ s)
  · exact h.trans (h.iteRefl (h.trans (h.quiet (onSdo_quiet rfl rfl rfl)) (h.takeCondition order (by decide) _)))
      (h.quiet (takeWaitingCommand_quiet _))

theorem sdoOnWindow (order : List Taker) (op : ContactorOp) (s : State) : R s (sdoOnWindow order op s) :=
  Passed.ite (h.quiet (onSdo_quiet rfl rfl rfl)) (h.endOperation order _ _ s)

/-- What CSC hands on, taker by taker. -/
theorem cscHand (order : List Taker) (old : Csc) (d : Option Direction) (s : State) : R s (cscHand order old d s) := by
  refine h.fan order ?_ s
  simp only [List.forall_mem_cons]
  refine ⟨fun s => h.trans ?_ (h.target (by decide) _ _), h.takeConditions order (by decide), fun s => ?_,
    fun s => h.iteRefl (h.sacOnAbsorbEnd order s), fun s => h.iteRefl (h.cbuOnEvent s),
    fun s => h.iteRefl (h.quiet (requestStatus_quiet s)), fun s => h.iteRefl (h.supOnStage s), List.forall_mem_nil _⟩
  · split
    · exact h.quiet (contactorCommand_quiet _ s)
    · exact h.refl s
  · have hstage : ∀ (c : Prop) [Decidable c] (v : Nat), R s (if c then logEntry .stage 0 v s else s) :=
      fun c _ v => h.iteRefl (h.quiet (logEntry_quiet _ _ _ s))
    cases d with
    | none => exact hstage _ _
    | some d => exact h.trans (hstage _ _) (h.quiet (logEntry_quiet _ _ _ _))

theorem cscOnSet (order : List Taker) (p : Nat) (s : State) : R s (cscOnSet order p s) :=
  h.trans (h.quiet (onCsc_quiet _ _)) (h.cscHand order _ _ _)

theorem stageEvent (order : List Taker) (new : Csc) (d : Option Direction) (s : State) :
    R s (stageEvent order new d s) := Passed.ite (h.quiet (onCsc_quiet _ _)) (h.trans (h.quiet (onCsc_quiet _ _)) (h.cscHand order _ _ _))

theorem cscOnView (order : List Taker) (old : SourceView) (s : State) : R s (cscOnView order old s) :=
  h.iteRefl (h.stageEvent order _ _ s)

theorem cscOnCtrFb (order : List Taker) (p : Direction) (s : State) : R s (cscOnCtrFb order p s) := by
  unfold Machine.cscOnCtrFb; dsimp only
  split
  · exact Passed.ite (h.stageEvent order _ _ s) (h.stageEvent order _ _ s)
  · exact Passed.ite (h.stageEvent order _ _ s) (h.stageEvent order _ _ s)
  · exact h.quiet (onCsc_quiet _ _)
  · exact h.stageEvent order _ _ s
  · exact h.stageEvent order _ _ s
  · exact h.quiet (onCsc_quiet _ _)

theorem cscOnOperating (order : List Taker) (s : State) : R s (cscOnOperating order s) :=
  Passed.ite (h.trans (h.trans (h.quiet (onCsc_quiet _ _)) (h.quiet (onCsc_quiet _ _))) (h.cscHand order _ _ _)) (h.quiet (onCsc_quiet _ _))

/-! ### The rectifier -/

theorem beginRest (order : List Taker) (s : State) : R s (beginRest order s) :=
  h.trans (h.trans (h.rect order _ s) (h.quiet (enqueue_quiet _ _ _))) (h.quiet (onRot_quiet rfl))

theorem beginWake (order : List Taker) (r : WakeReason) (s : State) : R s (beginWake order r s) :=
  h.trans (h.trans (h.quiet (enqueue_quiet _ _ s)) (h.rect order _ _)) (h.quiet (onRot_quiet rfl))

theorem rotCheck (order : List Taker) (s : State) : R s (rotCheck order s) := by
  have hrot : ∀ f g : Rot → Rot, (g (f s.rot)).state = s.rot.state → R s ((s.onRot f).onRot g) := fun f g hstate =>
    h.quiet (onRot_quiet (f := fun r => g (f r)) hstate)
  unfold Machine.rotCheck; dsimp only
  split
  · split
    · exact Passed.ite (h.trans (hrot _ _ (by rfl)) (h.beginRest order _)) (hrot _ _ (by rfl))
    · exact Passed.ite (h.trans (hrot _ _ (by rfl)) (h.beginWake order _ _))
        (Passed.ite (h.trans (hrot _ _ (by rfl)) (h.beginWake order _ _)) (hrot _ _ (by rfl)))
    · exact hrot _ _ (by rfl)
  · exact hrot _ _ (by rfl)

theorem rotTick (order : List Taker) (s : State) : R s (rotTick order s) := by
  have hcount : (rectCount s.rot).state = s.rot.state := by
    unfold rectCount; split
    · split <;> rfl
    · rfl
  exact h.trans (h.quiet (onRot_quiet hcount)) (h.iteRefl (h.rotCheck order _))

theorem rotOnView (order : List Taker) (s : State) : R s (rotOnView order s) := by
  refine h.reflIte ?_
  split <;> first | exact h.rect order _ s | exact h.refl s

theorem rotOnAcok (order : List Taker) (s : State) : R s (rotOnAcok order s) := by
  unfold Machine.rotOnAcok; split
  · exact h.iteRefl (h.rect order _ s)
  · split <;> first | exact h.rect order _ s | exact h.refl s

theorem rotOnFail (order : List Taker) (s : State) : R s (rotOnFail order s) := by
  unfold Machine.rotOnFail; split
  · exact Passed.ite (h.quiet (onRot_quiet rfl)) (h.rect order _ s)
  · exact h.iteRefl (h.quiet (onRot_quiet rfl))

theorem rotOnRest (order : List Taker) (n hours : Nat) (s : State) : R s (rotOnRest order n hours s) :=
  h.iteRefl (h.rect order _ s)

end CarriedByBlocks

/-! ## What every operation carries -/

/-- A relation that the blocks' own work carries, and with it the mode, the subscriptions and the generator's demand. -/
structure Carried (R : State → State → Prop) : Prop extends CarriedByBlocks R where
  mode {s : State} (hop : s.operating = true) {m : Mode} (hm : m ≠ .dormant) : R s (s.onSup fun x => { x with mode := m })
  subs (s : State) : R s (recomputeSubs true s)
  fuel (order : List Taker) (s : State) : R s (recomputeFuel order s)
  inhibit (order : List Taker) (s : State) : R s (recomputeInhibit order s)
  gcoView (order : List Taker) (s : State) : R s (gcoOnView order s)
  gcoKnowledge (order : List Taker) (s : State) : R s (gcoOnKnowledge order s)
  gcoHear (order : List Taker) (n : Nat) (b : Bool) (e : Nat) (s : State) : R s (gcoHear order n b e s)

namespace Carried

variable {R : State → State → Prop} (h : Carried R)
include h

/-! ### The mode -/

theorem changeMode (order : List Taker) {m : Mode} (hm : m ≠ .dormant) (hop : s.operating = true) :
    R s (changeMode order m s) := by
  refine h.reflIte (h.trans (h.mode hop hm) (h.fan order ?_ _))
  simp only [List.forall_mem_cons]
  exact ⟨fun s => h.quiet (logEntry_quiet _ _ _ s), fun s => h.quiet (requestStatus_quiet s), h.relays,
    List.forall_mem_nil _⟩

theorem leaveLean (order : List Taker) (s : State) : R s (leaveLean order s) := by
  unfold Machine.leaveLean; split
  · next hlean => exact h.changeMode order (by decide) (by simp_all)
  · exact h.refl s

theorem tryLean (order : List Taker) (s : State) : R s (tryLean order s) := by
  unfold Machine.tryLean; split
  · next hlean => exact h.changeMode order (by decide) hlean.1
  · exact h.refl s

theorem supOnView (order : List Taker) (s : State) : R s (supOnView order s) := by
  have hfound : R s (Machine.leaveLean order (Machine.abandonEntryWait (s.onSup fun x => { x with found := true }))) :=
    h.trans (h.trans (h.quiet (onSup_quiet rfl rfl rfl rfl rfl)) (h.abandonEntryWait _)) (h.leaveLean order _)
  exact h.trans (h.trans (h.reflIte hfound) (h.quiet (onSup_quiet rfl rfl rfl rfl rfl))) (h.dwell _)

/-! ### The alarm unit, the source view and the peer table's hand-off -/

theorem aluRecompute (order : List Taker) (s : State) : R s (aluRecompute order s) :=
  h.iteRefl (h.trans (h.trans (h.subs s) (h.fuel order _)) (h.inhibit order _))

theorem aluOnSet (order : List Taker) (s : State) : R s (aluOnSet order s) :=
  h.iteRefl (h.trans (h.trans (h.quiet (onAlu_quiet rfl rfl rfl rfl rfl rfl)) (h.takeConditions order (by decide) _)) (h.fuel order _))

theorem aluAck (order : List Taker) (s : State) : R s (aluAck order s) :=
  h.foldl (fun _ hid s => h.point order (by revert hid; unfold pointIds; simp; omega) _ s) s

theorem recomputeViews (order : List Taker) (s : State) : R s (recomputeViews order s) := by
  refine h.iteRefl (h.trans (h.quiet (onPtb_quiet rfl)) (h.fan order ?_ _))
  simp only [List.forall_mem_cons]
  exact ⟨fun s => h.iteRefl (h.cscOnView order _ s), fun s => h.iteRefl (h.cbuOnEvent s),
    fun s => h.iteRefl (h.rotOnView order s), fun s => h.iteRefl (h.gcoView order s),
    fun s => h.iteRefl (h.quiet (requestStatus_quiet s)), fun s => h.iteRefl (h.supOnView order s),
    h.takeCondition order (by decide), fun s => h.iteRefl (h.gcoKnowledge order s), List.forall_mem_nil _⟩

theorem peerHand (order : List Taker) (logs : List (Nat × Nat)) (subs views : Bool) {also : Taker → State → State}
    (halso : ∀ (x : Taker) (s : State), R s (also x s)) (s : State) : R s (peerHand order logs subs views also s) := by
  refine h.fan order ?_ s
  simp only [List.forall_mem_cons]
  exact ⟨fun s => h.foldl (fun e _ s => h.quiet (logEntry_quiet _ _ _ s)) s,
    fun s => h.trans (h.takeConditions order (by decide) s) (h.iteRefl (h.aluRecompute order _)),
    fun s => h.iteRefl (h.recomputeViews order s), halso .pli, halso .gco, halso .rot, List.forall_mem_nil _⟩

/-! ### The events of the measurement chain and of the line -/

theorem deliverSet (order : List Taker) (p n : Nat) (s : State) : R s (deliverSet order p n s) := by
  refine h.fan order ?_ s
  simp only [List.forall_mem_cons]
  exact ⟨h.takeCondition order (by decide), h.sacOnSet order p, h.cscOnSet order p, h.cbuOnSet p n, h.aluOnSet order,
    List.forall_mem_nil _⟩

theorem endPeriod (order : List Taker) (sums : PerChannel Nat) (s : State) : R s (endPeriod order sums s) := by
  unfold Machine.endPeriod; split
  · exact h.iteRefl (h.trans (h.quiet (onMch_quiet _ _)) (h.deliverSet order _ _ _))
  · exact h.refl s

theorem handCtrFb (order : List Taker) (s : State) : R s (handCtrFb order s) := by
  refine h.fan order ?_ s
  simp only [List.forall_mem_cons]
  refine ⟨h.sdoOnCtrFb order, fun s => ?_, fun s => h.quiet (requestStatus_quiet s), List.forall_mem_nil _⟩
  split
  · exact h.cscOnCtrFb order _ s
  · exact h.refl s

theorem handContact (order : List Taker) (i : Contact) (s : State) : R s (handContact order i s) := by
  cases i with
  | xferGen | genRunFb => exact h.recomputeViews order s
  | rectAcok =>
    refine h.fan order ?_ s
    simp only [List.forall_mem_cons]
    exact ⟨h.recomputeViews order, h.rotOnAcok order, List.forall_mem_nil _⟩
  | rectFail => exact h.rotOnFail order s
  | ctrFb => exact h.handCtrFb order s
  | _ => exact h.takeCondition order (by decide) s

theorem qualifyContact (order : List Taker) (i : Contact) (s : State) : R s (qualifyContact order i s) := by
  unfold Machine.qualifyContact; dsimp only
  split
  · exact h.iteRefl (h.trans (h.quiet (onMch_quiet _ _)) (h.handContact order i _))
  · exact h.refl s

/-- A change of PLI's, and then a condition of its handed to ALU. -/
theorem lineThenCondition (order : List Taker) {id : Nat} (hid : 1 ≤ id) (f : Pli → Pli) (s : State) :
    R s (Machine.takeCondition order id (s.onPli f)) := h.trans (h.quiet (onPli_quiet _ _)) (h.takeCondition order hid _)

theorem discardFrame (order : List Taker) (s : State) : R s (discardFrame order s) :=
  h.iteRefl (Passed.ite (h.trans (h.quiet (onPli_quiet _ _)) (h.lineThenCondition order (by decide) _ _)) (h.quiet (onPli_quiet _ _)))

theorem rateFaultEnd (order : List Taker) (s : State) : R s (rateFaultEnd order s) := by
  unfold Machine.rateFaultEnd; split
  · exact h.iteRefl (h.lineThenCondition order (by decide) _ s)
  · exact h.refl s

theorem endWrite (order : List Taker) (v : Retained) (b : Bool) (s : State) : R s (endWrite order v b s) := by
  refine h.trans (h.trans (h.trans (h.quiet (storeWritten_quiet v b s)) (h.quiet (onSup_quiet rfl rfl rfl rfl rfl)))
    (h.fan order ?_ _)) (h.quiet (beginPendingWrite_quiet _))
  simp only [List.forall_mem_cons]
  exact ⟨fun s => h.reflIte (h.quiet (logEntry_quiet _ _ _ s)), h.takeCondition order (by decide),
    List.forall_mem_nil _⟩

end Carried

end Sys2Proof.Machine
end

section
/-! SUPPORT. What every command carries from the state before it to the state after it, by the same walk: the commands that
change the phase or the peer table are judged each by a hypothesis of its own. -/
namespace Sys2Proof.Machine

set_option Elab.async false

variable {s t u : State}

/-! ## The content of the notes -/

/-- What a note's content hands to GCO and ROT is carried by every relation that the operations carry. -/
def NoteContent.Handed (n : NoteContent) : Prop :=
  ∀ R : State → State → Prop, Carried R → ∀ s, R s (n.gco s) ∧ R s (n.rot s)

/-- A note leaves its record's number and state, and one whose kind is not POINT the pairs (R94 to R97). -/
def NoteContent.LeavesPoints (n : NoteContent) : Prop :=
  ∀ p, (n.record p).station = p.station ∧ (n.record p).state = p.state ∧
    (n.kind ≠ .point → (n.record p).points = p.points)

theorem NoteContent.Handed.of_idle {n : NoteContent} (hg : n.gco = id) (hr : n.rot = id) : n.Handed :=
  fun _ h s => by rw [hg, hr]; exact ⟨h.refl s, h.refl s⟩

theorem statusContent_handed (order : List Taker) (station : Nat) (payload : List Byte) (s : State) :
    (statusContent order station payload s).Handed := by
  unfold statusContent
  split
  · exact .of_idle rfl rfl
  · intro R h s
    refine ⟨?_, h.refl s⟩
    dsimp only
    split
    · exact h.gcoHear order _ _ _ s
    · exact h.gcoHear order _ _ _ s
    · exact h.refl s

theorem genContent_handed (order : List Taker) (station event epoch : Nat) :
    (genContent order station event epoch).Handed := fun _ h s =>
  ⟨Passed.ite (h.gcoHear order _ _ _ s) (h.iteRefl (h.gcoHear order _ _ _ s)), h.refl s⟩

theorem restContent_handed (order : List Taker) (station hours : Nat) (flags : Byte) (s : State) :
    (restContent order station hours flags s).Handed := fun _ h s => ⟨h.refl s, h.rotOnRest order _ _ s⟩

theorem wakeContent_handed (hours : Nat) (reason : Byte) (s : State) : (wakeContent hours reason s).Handed := by
  unfold wakeContent; split <;> exact .of_idle rfl rfl

theorem statusContent_leavesPoints (order : List Taker) (station : Nat) (payload : List Byte) (s : State) :
    (statusContent order station payload s).LeavesPoints := by
  unfold statusContent; split <;> exact fun _ => ⟨rfl, rfl, fun _ => rfl⟩

theorem wakeContent_leavesPoints (hours : Nat) (reason : Byte) (s : State) :
    (wakeContent hours reason s).LeavesPoints := by
  unfold wakeContent; split <;> exact fun _ => ⟨rfl, rfl, fun _ => rfl⟩

/-! ## Relations that a change of the peer table establishes -/

namespace Carried

variable {R : State → State → Prop} (h : Carried R) (hp : ∀ (f : Ptb → Ptb) (s : State), R s (s.onPtb f))
include h hp

theorem takeNote_of_peers (order : List Taker) (station seq : Nat) {n : NoteContent} (hn : n.Handed) (s : State) :
    R s (takeNote order station seq n s) := by
  refine h.reflIte (h.trans (hp _ s) (h.peerHand order _ _ _ (fun x s => ?_) _))
  split
  · exact h.iteRefl (h.trans (h.quiet (requestStatus_quiet s)) (h.quiet (enqueuePoint_quiet _)))
  · exact (hn R h s).1
  · exact (hn R h s).2
  · exact h.refl s

theorem ageRecords_of_peers (order : List Taker) (s : State) : R s (ageRecords order s) :=
  h.trans (hp _ s) (h.peerHand order _ _ _ (fun _ s => h.refl s) _)

theorem forgetRecord_of_peers (order : List Taker) (p : PeerRecord) (s : State) : R s (forgetRecord order p s) :=
  h.trans (hp _ s) (h.peerHand order _ _ _ (fun _ s => h.refl s) _)

theorem clearPeers_of_peers (order : List Taker) (s : State) : R s (clearPeers order s) :=
  h.trans (hp _ s) (h.peerHand order _ _ _ (fun _ s => h.refl s) _)

theorem expireIntent_of_peers (n : Nat) (s : State) : R s (expireIntent n s) := by
  unfold Machine.expireIntent; split
  · split
    · exact h.iteRefl (hp _ s)
    · exact h.refl s
  · exact h.refl s

/-- The blocks take LISTEN entry; `wake` of a station asleep, and else at a start. -/
theorem listenTakes_of_peers (hrun : ∀ s, R s (s.onAlu fun a => { a with running := true })) (hrect : ∀ s, R s (rectDrive s))
    (order : List Taker) (wake : Bool) (s : State) :
    R (s.onSup fun x => { x with phase := .listen, mode := .full, listenEnd := s.now + 3000, found := false })
      (listenEntry order wake s) := by
  refine h.fan order ?_ _
  simp only [List.forall_mem_cons]
  exact ⟨fun s => h.quiet (onMch_quiet _ s), fun s => h.quiet (onPli_quiet _ s),
    fun s => h.iteRefl (h.clearPeers_of_peers hp order s), fun s => h.reflIte (hrect s),
    fun s => h.trans (h.trans (hrun s) (h.takeConditions order (by unfold pointIds; simp) _)) (h.aluRecompute order _),
    List.forall_mem_nil _⟩

end Carried

/-! ## The commands -/

/-- The commands that a walk over all of them leaves to be judged one by one: the resets, STRAPS, the end of LOAD, the
three by which a station falls asleep, and the ramp of a soft start. -/
def judgedAlone : Instr → Bool
  | .powerOn _ => true
  | .pin _ => true
  | .brownOut _ => true
  | .restartReset _ => true
  | .heldEnd _ _ => true
  | .loadEnd _ _ _ => true
  | .checkEnd _ => true
  | .entryWaitTimeout _ => true
  | .frameComplete _ => true
  | .rampStep _ => true
  | _ => false

/-- A relation that the operations carry, and with them the commands that are not judged alone. -/
structure CarriedByCommands (R : State → State → Prop) : Prop extends Carried R where
  note (order : List Taker) (station seq : Nat) {n : NoteContent} (hn : n.Handed) (hp : n.LeavesPoints) (s : State) :
    R s (takeNote order station seq n s)
  age (order : List Taker) (s : State) : R s (ageRecords order s)
  expire (n : Nat) (s : State) : R s (expireIntent n s)
  forget (order : List Taker) (p : PeerRecord) (s : State) : R s (forgetRecord order p s)
  wake (order : List Taker) (cause : StartCause) {s : State} (hs : s.asleep = true) : R s (wakeUp order cause s)
  check {s : State} (hs : s.sup.phase = .listen) (n : Nat) : R s (s.onSup fun x => { x with phase := .check, checkEnd := n })
  operating (order : List Taker) {s : State} (hs : s.sup.phase = .listen ∨ s.sup.phase = .check) :
    R s (enterOperating order s)
  dormant (order : List Taker) (s : State) : R s (tryDormant order s)
  tick (order : List Taker) (s : State) : R s (gcoTick order s)
  startFailure (order : List Taker) {s : State} (hs : s.gco.state = .demandWait) : R s (gcoStartFailure order s)
  restEnd (order : List Taker) {s : State} (hs : s.gco.state = .runRest) : R s (gcoRestEnd order s)
  settle (order : List Taker) (s : State) : R s (gcoSettle order s)
  test (order : List Taker) {n : Nat} {s t : State} (ht : gcoTest order n s = .inr t) : R s t
  clear (order : List Taker) {s t : State} (ht : gcoClear order s = .inr t) : R s t

namespace CarriedByCommands

variable {R : State → State → Prop} (h : CarriedByCommands R)
include h

/-- The command as a whole: the time before it, its body, and a change found in CHECK. -/
theorem leaveCheck (order : List Taker) (s : State) : R s (leaveCheck order s) := by
  unfold Machine.leaveCheck; split
  · next hfound => exact h.operating order (.inr hfound.1)
  · exact h.refl s

theorem command {w : Moment} {body : State → State} (hnext : command w body s = .next t)
    (hb : ∀ s, R s (body s)) : R s t := by
  cases hnext
  exact h.trans (h.trans (h.quiet (advance_quiet _ s)) (hb _)) (h.leaveCheck _ _)

theorem wakeUp (order : List Taker) (cause : StartCause) (s : State) : R s (wakeUp order cause s) := by
  by_cases hs : s.asleep = true
  · exact h.wake order cause hs
  · rw [wakeUp_of_awake order cause (by simpa using hs)]; exact h.refl s

theorem siteWake (order : List Taker) (s : State) : R s (siteWake order s) := h.iteRefl (h.wakeUp order _ s)

theorem acMove (order : List Taker) (f : AcCapture → AcCapture) (s : State) : R s (acMove order f s) := by
  refine Passed.ite (h.quiet (onMch_quiet _ s)) (h.trans (h.quiet (onMch_quiet _ s)) (h.fan order ?_ _))
  simp only [List.forall_mem_cons]
  exact ⟨h.recomputeViews order, fun s => h.iteRefl (h.wakeUp order _ s), List.forall_mem_nil _⟩

theorem hearNote (order : List Taker) (station seq length : Nat) {n : State → NoteContent}
    (hn : ∀ s, (n s).Handed) (hp : ∀ s, (n s).LeavesPoints) (s : State) :
    R s (hearNote order station seq length n s) := by
  have hseen : R s (frameSeen s) := h.quiet (onPli_quiet _ s)
  unfold Machine.hearNote; dsimp only
  refine Passed.ite (h.discardFrame order s) (h.reflIte (Passed.ite (h.trans hseen (h.wakeUp order _ _))
    (Passed.ite (h.trans hseen (h.lineThenCondition order (by decide) _ _)) ?_)))
  exact h.trans (h.trans hseen (h.quiet (onSup_quiet rfl rfl rfl rfl rfl))) (h.note order station seq (hn _) (hp _) _)

theorem hearAsleep (order : List Taker) (frame : List Byte) (s : State) : R s (hearAsleep order frame s) :=
  h.iteRefl (Passed.ite (h.trans (h.quiet (onPli_quiet _ s)) (h.wakeUp order _ _)) (h.quiet (onPli_quiet _ s)))

/-! ### The site port -/

theorem validFrame (order : List Taker) (s : State) : R s (validFrame order s) :=
  h.trans (h.trans (h.trans (h.quiet (onSup_quiet rfl rfl rfl rfl rfl)) (h.abandonEntryWait _)) (h.leaveCheck order _))
    (h.leaveLean order _)

/-- A request is carried where its owner's answer is. -/
theorem siteRequest (order : List Taker) (c : SiteCommand) (args : List Byte) {owner : State → Answer}
    (ho : ∀ s, R s (owner s).after) (s : State) : R s (siteRequest order c args owner s) := by
  have hanswer : ∀ u, R u (answerRequest c args owner u).after := fun u => by
    unfold answerRequest
    split
    · exact h.refl u
    · split
      · split <;> exact h.refl u
      · exact ho u
  exact Passed.ite (h.siteWake order s) (h.reflIte
    (h.trans (h.trans (h.validFrame order s) (hanswer _)) (h.quiet (respond_quiet c _))))

theorem answerOf {r : RefuseReason ⊕ State} (hr : ∀ t, r = .inr t → R s t) : R s (answerOf s r).after := by
  cases r with
  | inl reason => exact h.refl s
  | inr t => exact hr t rfl

theorem rotForceRun (order : List Taker) (ht : rotForceRun order s = .inr t) : R s t := by
  unfold Machine.rotForceRun at ht
  split at ht
  · cases ht
  · split at ht <;> cases ht <;> first | exact h.refl s | exact h.rect order _ s

theorem rotForceRest (order : List Taker) (ht : rotForceRest order s = .inr t) : R s t := by
  unfold Machine.rotForceRest at ht
  split at ht
  · cases ht
  · split at ht
    · cases ht
    · split at ht
      · cases ht
      · split at ht <;> cases ht <;> first | exact h.refl s | exact h.rect order _ s

theorem rotRelease (order : List Taker) (ht : rotRelease order s = .inr t) : R s t := by
  unfold Machine.rotRelease at ht
  split at ht <;> cases ht <;> exact h.rect order _ s

theorem rectForce (order : List Taker) (arg : Nat) (s : State) : R s (rectForce order arg s).after := by
  unfold Machine.rectForce
  split
  · exact h.answerOf fun _ => h.rotForceRun order
  · exact h.answerOf fun _ => h.rotForceRest order
  · exact h.answerOf fun _ => h.rotRelease order
  · exact h.refl s

theorem equalize (order : List Taker) (arg : Nat) (s : State) : R s (equalize order arg s).after := by
  unfold Machine.equalize
  split
  · exact h.quiet (onCsc_quiet _ s)
  · exact h.stageEvent order _ _ s
  · exact h.refl s

theorem forgetPeer (order : List Taker) (n : Nat) (s : State) : R s (forgetPeer order n s).after := by
  unfold Machine.forgetPeer
  split
  · exact h.refl s
  · split
    · exact h.forget order _ s
    · exact h.refl s

theorem peerRead (n : Nat) (s : State) : R s (peerRead n s).after := by
  unfold Machine.peerRead
  split
  · exact h.refl s
  · split <;> exact h.refl s

theorem siteUnknown (order : List Taker) (code : Byte) (s : State) : R s (siteUnknown order code s) :=
  Passed.ite (h.siteWake order s)
    (h.reflIte (h.trans (h.validFrame order s) (h.quiet (onSup_quiet rfl rfl rfl rfl rfl))))

theorem siteBadFrame (order : List Taker) (why : SiteFrameFault) (s : State) : R s (siteBadFrame order why s) :=
  Passed.ite (h.siteWake order s) (h.reflIte (h.quiet (onSup_quiet rfl rfl rfl rfl rfl)))

/-! ### Every command -/

/-- A relation that the operations carry, every command not judged alone carries. -/
theorem exec {c : Instr} (hnext : exec c s = .next t) (hc : judgedAlone c = false) : R s t := by
  unfold Machine.exec at hnext
  cases c <;> dsimp only at hnext
  case powerOn _ | pin _ | brownOut _ | restartReset _ | heldEnd _ _ | loadEnd _ _ _ | checkEnd _ | entryWaitTimeout _
    | frameComplete _ | rampStep _ => cases hc
  case supplyCheck _ zone => exact h.command hnext fun s => h.quiet (checkSupply_quiet zone s)
  case listenEnd _ =>
    refine h.command hnext fun s => ?_
    split
    · next hlisten => exact Passed.ite (h.check hlisten.1 _) (h.operating _ (.inl hlisten.1))
    · exact h.refl s
  case measurementSet w sums =>
    rw [execMeasurementSet] at hnext
    split at hnext
    · exact h.command hnext (h.endPeriod w.order sums)
    · cases hnext
  case acEdge _ | edgeTimeout _ => exact h.command hnext fun s => h.iteRefl (h.acMove _ _ s)
  case contactQualified _ i => exact h.command hnext (h.qualifyContact _ i)
  case contactSample _ _ => exact h.command hnext fun s => h.iteRefl (h.quiet (onMch_quiet _ s))
  case pulseEnd _ =>
    refine h.command hnext fun s => ?_
    split
    · exact h.iteRefl (h.quiet (onSdo_quiet rfl rfl rfl))
    · exact h.refl s
  case confirmationWindowExpiry _ =>
    refine h.command hnext fun s => ?_
    split
    · exact h.iteRefl (h.sdoOnWindow _ _ s)
    · exact h.refl s
  case frameBegin _ => exact h.command hnext fun s => h.quiet (beginFrame_quiet s)
  case contentionLoss _ => exact h.command hnext fun s => h.iteRefl (h.quiet (onPli_quiet _ s))
  case driveFault _ =>
    exact h.command hnext fun s =>
      h.iteRefl (h.trans (h.quiet (onPli_quiet _ s)) (h.lineThenCondition _ (by decide) _ _))
  case lineStuck _ | lineStuckClear _ =>
    exact h.command hnext fun s => h.iteRefl (h.lineThenCondition _ (by decide) _ s)
  case lineError _ _ => exact h.command hnext (h.discardFrame _)
  case faultTimeExpiry _ => exact h.command hnext fun s => h.quiet (faultTimeOut_quiet s)
  case rateFaultClear _ => exact h.command hnext (h.rateFaultEnd _)
  case statusNote _ _ _ _ =>
    exact h.command hnext (h.hearNote _ _ _ _ (statusContent_handed _ _ _) (statusContent_leavesPoints _ _ _))
  case genNote _ _ _ _ _ =>
    exact h.command hnext (h.hearNote _ _ _ _ (fun _ => genContent_handed _ _ _ _) fun _ _ => ⟨rfl, rfl, fun _ => rfl⟩)
  case restNote _ _ _ _ _ =>
    exact h.command hnext (h.hearNote _ _ _ _ (restContent_handed _ _ _ _) fun _ _ => ⟨rfl, rfl, fun _ => rfl⟩)
  case wakeNote _ _ _ _ _ =>
    exact h.command hnext (h.hearNote _ _ _ _ (wakeContent_handed _ _) (wakeContent_leavesPoints _ _))
  case pointNote _ _ _ _ =>
    exact h.command hnext (h.hearNote _ _ _ _ (fun _ => .of_idle rfl rfl) fun _ _ =>
      ⟨rfl, rfl, fun hne => absurd rfl hne⟩)
  case helloNote _ _ _ _ _ | quietNote _ _ _ _ =>
    exact h.command hnext (h.hearNote _ _ _ _ (fun _ => .of_idle rfl rfl) fun _ _ => ⟨rfl, rfl, fun _ => rfl⟩)
  case dormantLineFrame _ frame => exact h.command hnext (h.hearAsleep _ frame)
  case statusPeriodicTimer _ => exact h.command hnext fun s => h.iteRefl (h.quiet (enqueueStatus_quiet s))
  case statusSpacingEnd _ =>
    exact h.command hnext fun s =>
      h.iteRefl (Passed.ite (h.quiet (enqueueStatus_quiet s)) (h.quiet (onPli_quiet _ s)))
  case agingCheck _ => exact h.command hnext fun s => h.iteRefl (h.age _ s)
  case intentExpiry _ _ => exact h.command hnext fun s => h.iteRefl (h.expire _ s)
  case rotationTick _ => exact h.command hnext fun s => h.iteRefl (h.rotTick _ s)
  case settleExpiry _ | failClearExpiry _ => exact h.command hnext fun s => h.iteRefl (h.rect _ _ s)
  case genCheck _ => exact h.command hnext fun s => h.iteRefl (h.tick _ s)
  case startTimeout _ =>
    refine h.command hnext fun s => ?_
    split
    · next hwait => exact h.startFailure _ hwait.1
    · exact h.refl s
  case restTimerExpiry _ =>
    refine h.command hnext fun s => ?_
    split
    · next hrest => exact h.restEnd _ hrest.1
    · exact h.refl s
  case epochSettle _ => exact h.command hnext fun s => h.iteRefl (h.settle _ s)
  case qualifyExpiry _ point =>
    refine h.command hnext fun s => ?_
    dsimp only
    split
    · next hpoint => exact h.point _ (by obtain ⟨hid, -⟩ := hpoint; revert hid; unfold pointIds; simp; omega) _ s
    · exact h.refl s
  case pointTimer _ => exact h.command hnext fun s => h.iteRefl (h.quiet (enqueuePoint_quiet s))
  case leanDwell _ => exact h.command hnext fun s => h.iteRefl (h.tryLean _ s)
  case siteHoldEnd _ =>
    exact h.command hnext fun s => h.iteRefl
      (h.trans (h.trans (h.quiet (onSup_quiet rfl rfl rfl rfl rfl)) (h.tryLean _ _)) (h.dormant _ _))
  case dormantDwell _ => exact h.command hnext fun s => h.iteRefl (h.dormant _ s)
  case wakeTimer _ => exact h.command hnext fun s => h.iteRefl (h.wakeUp _ _ s)
  case sitePortWake _ => exact h.command hnext (h.siteWake _)
  case periodicWriteTimer _ =>
    exact h.command hnext fun s =>
      h.iteRefl (h.trans (h.quiet (onSup_quiet rfl rfl rfl rfl rfl)) (h.quiet (triggerWrite_quiet _)))
  case retainedWriteEnd _ _ =>
    refine h.command hnext fun s => ?_
    split
    · exact h.endWrite _ _ _ s
    · exact h.refl s
  case siteBadFrame _ why => exact h.command hnext (h.siteBadFrame _ why)
  case unknown _ code _ => exact h.command hnext (h.siteUnknown _ code)
  case statusRead _ args | pointsRead _ args => exact h.command hnext (h.siteRequest _ _ args h.refl)
  case peerRead _ args => exact h.command hnext (h.siteRequest _ _ args (h.peerRead _))
  case logRead _ args =>
    exact h.command hnext (h.siteRequest _ _ args fun s => h.quiet (onAlu_quiet rfl rfl rfl rfl rfl rfl))
  case ack _ args => exact h.command hnext (h.siteRequest _ _ args (h.aluAck _))
  case rectForceRun _ args | rectForceRest _ args | release _ args =>
    exact h.command hnext (h.siteRequest _ _ args (h.rectForce _ _))
  case genTest _ args => exact h.command hnext (h.siteRequest _ _ args fun s => h.answerOf fun _ => h.test _)
  case lockoutClear _ args => exact h.command hnext (h.siteRequest _ _ args fun s => h.answerOf fun _ => h.clear _)
  case equalizeStart _ args | equalizeStop _ args => exact h.command hnext (h.siteRequest _ _ args (h.equalize _ _))
  case resyncFull _ args => exact h.command hnext (h.siteRequest _ _ args (h.sacFullResync _))
  case forgetPeer _ args => exact h.command hnext (h.siteRequest _ _ args (h.forgetPeer _ _))
  case restart _ args => exact h.command hnext (h.siteRequest _ _ args fun s => h.quiet (beginRestart_quiet s))
  case lineIdle _ | courtesySatisfied _ => exact h.command hnext fun s => h.iteRefl (h.quiet (onPli_quiet _ s))
  case overrun _ | sitePortGap _ =>
    exact h.command hnext fun s => h.iteRefl (h.quiet (onSup_quiet rfl rfl rfl rfl rfl))

end CarriedByCommands

/-- A time that has come is set. -/
theorem isSome_of_due {t : Option Nat} {now : Nat} (h : due t now = true) : t.isSome = true := by
  cases t with
  | none => cases h
  | some _ => rfl

/-- A relation that every command carries. -/
structure CarriedByAll (R : State → State → Prop) : Prop extends CarriedByCommands R where
  ramp (order : List Taker) (n : Nat) (s : State) : R s (rotRamp order n s)
  sleep (order : List Taker) {s : State} (hs : s.sup.phase = .check ∨ s.sup.entryWait.isSome = true) :
    R s (fallAsleep order s)
  reset (kind : ResetKind) (s : State) : R s (resetNow kind s)
  straps {s : State} (hs : s.sup.phase = .held) (n : Nat) : R s (s.onSup fun x => { x with phase := .load, number := n })
  load (order : List Taker) (programmed : List (Nat × Byte)) (silent : List Nat) {s : State} (hs : s.sup.phase = .load) :
    R s (endLoad order programmed silent s)

namespace CarriedByAll

variable {R : State → State → Prop} (h : CarriedByAll R)
include h

theorem stop (order : List Taker) (hs : s.sup.entryWait.isSome = true) : R s (stopStation order s) := by
  have hquiet := (withdrawTransmission_quiet s).trans (logEntry_quiet .mode 0
    (twoParts s.sup.mode.code Mode.dormant.code) (withdrawTransmission s))
  exact h.trans (h.quiet hquiet) (h.sleep order (.inr (by rw [hquiet.entryWait]; exact hs)))

theorem resetCause (kind : ResetKind) (s : State) : R s (resetCause kind s) :=
  Passed.ite (h.quiet (onSup_quiet rfl rfl rfl rfl rfl)) (h.reset kind s)

theorem completeFrame (order : List Taker) (s : State) : R s (completeFrame order s) := by
  unfold Machine.completeFrame
  split
  · refine h.trans (h.quiet (onPli_quiet completeSlot s)) ?_
    unfold handCompletion
    split
    · exact h.quiet (rotOnSent_quiet _ _)
    · exact h.quiet (rotOnSent_quiet _ _)
    · unfold quietCompleted
      split
      · next hwait => exact h.stop order (by simpa using hwait.2)
      · exact h.iteRefl (h.quiet (onSup_quiet rfl rfl rfl rfl rfl))
    · exact h.refl _
  · exact h.refl s

/-- A relation that every operation carries, every command carries. -/
theorem exec {c : Instr} (hnext : exec c s = .next t) : R s t := by
  by_cases hc : judgedAlone c = false
  · exact h.toCarriedByCommands.exec hnext hc
  unfold Machine.exec at hnext
  cases c
  case powerOn _ => exact h.command hnext (h.reset _)
  case pin _ => exact h.command hnext (h.resetCause _)
  case brownOut _ => exact h.command hnext fun s => h.iteRefl (h.resetCause _ s)
  case restartReset _ => exact h.command hnext fun s => h.iteRefl (h.reset _ s)
  case heldEnd _ _ =>
    refine h.command hnext fun s => ?_
    split
    · next hs => exact h.straps hs _
    · exact h.refl s
  case loadEnd _ _ _ =>
    refine h.command hnext fun s => ?_
    split
    · next hs => exact h.load _ _ _ hs
    · exact h.refl s
  case checkEnd _ =>
    refine h.command hnext fun s => ?_
    split
    · next hend => exact h.sleep _ (.inl hend.1)
    · exact h.refl s
  case entryWaitTimeout _ =>
    refine h.command hnext fun s => ?_
    split
    · next hdue => exact h.stop _ (isSome_of_due hdue)
    · exact h.refl s
  case frameComplete _ => exact h.command hnext (h.completeFrame _)
  case rampStep _ =>
    refine h.command hnext fun s => ?_
    split
    · exact h.iteRefl (h.ramp _ _ s)
    · exact h.refl s
  all_goals exact absurd rfl hc

/-- A relation that every operation carries, every step carries. -/
theorem step (hnext : step s = .next t) : R s t := by
  unfold Machine.step at hnext
  split at hnext
  · cases hnext; exact h.refl s
  · exact h.trans (h.quiet (t := s.onPending _) rfl) (h.exec hnext)

end CarriedByAll

end Sys2Proof.Machine
end

section
/-! SUPPORT. The gates of a demand (R24, R142, R144, R150, R154): what keeps them, and GCO's own fields behind them. -/
namespace Sys2Proof.Machine

set_option Elab.async false

variable {s t u : State}

/-! ## The operations that leave the gates and the relay of the demand -/

/-- What the gates of a demand stand on, but for the relay of the demand: the relays count while SDO drives no demand. -/
def State.gateParts (s : State) :=
  (s.gco, s.alu.effFuel, s.alu.effInhibit, s.sup.phase, s.sup.mode, s.sup.configFault, s.sdo.live,
    if s.sdo.live then none else some s.sdo.relays)

/-- The gates and the relay of the demand stay. -/
def State.GatesKept (s t : State) : Prop :=
  t.gateParts = s.gateParts ∧ t.sdo.relays.genDemand = s.sdo.relays.genDemand

theorem State.GatesKept.of_eq (hgco : t.gco = s.gco) (hfuel : t.alu.effFuel = s.alu.effFuel)
    (hinhibit : t.alu.effInhibit = s.alu.effInhibit) (hphase : t.sup.phase = s.sup.phase)
    (hmode : t.sup.mode = s.sup.mode) (hfault : t.sup.configFault = s.sup.configFault)
    (hlive : t.sdo.live = s.sdo.live) (hrelays : t.sdo.relays = s.sdo.relays) : s.GatesKept t := by
  simp [State.GatesKept, State.gateParts, *]

theorem writeRelay_gatesKept {r : Relay} (hr : r ≠ .genDemand) (v : Bool) (s : State) :
    s.GatesKept (writeRelay r v s) := by
  refine ⟨?_, (relayGet_writeRelay r .genDemand v s).trans (if_neg fun h => hr h.1.symm)⟩
  by_cases hlive : s.sdo.live = true
  · simp [State.gateParts, writeRelay, hlive]
  · rw [writeRelay_of_not_live r v (by simpa using hlive)]

theorem gatesKept_passed : Passed State.GatesKept where
  trans h g := ⟨g.1.trans h.1, g.2.trans h.2⟩
  quiet h := .of_eq h.gco h.effFuel h.effInhibit h.phase h.mode h.configFault h.live h.relays

theorem writeTarget_gatesKept (d : Dac) (v : Nat) (s : State) : s.GatesKept (writeTarget d v s) := by
  refine .of_eq rfl rfl rfl rfl rfl rfl ?_ ?_ <;> rw [writeTarget_sdo]

theorem onAlu_gatesKept {f : Alu → Alu} {s : State} (hfuel : (f s.alu).effFuel = s.alu.effFuel)
    (hinhibit : (f s.alu).effInhibit = s.alu.effInhibit) : s.GatesKept (s.onAlu f) :=
  .of_eq rfl hfuel hinhibit rfl rfl rfl rfl rfl

theorem recomputeRelays_gatesKept (s : State) : s.GatesKept (recomputeRelays s) :=
  gatesKept_passed.recomputeRelays (fun _ _ => onAlu_gatesKept rfl rfl) (fun hg _ => writeRelay_gatesKept hg) s

theorem recomputeSubs_gatesKept (b : Bool) (s : State) : s.GatesKept (recomputeSubs b s) :=
  gatesKept_passed.recomputeSubs (fun _ _ => onAlu_gatesKept rfl rfl) recomputeRelays_gatesKept b s

theorem handPoint_gatesKept (order : List Taker) (id : Nat) (p : Point) (s : State) :
    s.GatesKept (handPoint order id p s) :=
  gatesKept_passed.handPoint (fun _ _ => onAlu_gatesKept rfl rfl) recomputeRelays_gatesKept
    (recomputeSubs_gatesKept false) order id p s

theorem takeCondition_gatesKept (order : List Taker) (id : Nat) (s : State) :
    s.GatesKept (takeCondition order id s) := gatesKept_passed.iteRefl (handPoint_gatesKept order id _ s)

theorem takeConditions_gatesKept (order : List Taker) (ids : List Nat) (s : State) :
    s.GatesKept (takeConditions order ids s) :=
  gatesKept_passed.foldl (fun id _ s => takeCondition_gatesKept order id s) s

/-- A change of SUP's that leaves the phase, the mode and CONFIG_FAULT. -/
theorem onSup_gatesKept {f : Sup → Sup} {s : State} (hphase : (f s.sup).phase = s.sup.phase)
    (hmode : (f s.sup).mode = s.sup.mode) (hfault : (f s.sup).configFault = s.sup.configFault) :
    s.GatesKept (s.onSup f) := .of_eq rfl rfl rfl hphase hmode hfault rfl rfl

theorem updateDormantDwell_gatesKept (s : State) : s.GatesKept (updateDormantDwell s) := by
  unfold updateDormantDwell
  by_cases h : s.dormantDwellRuns = true <;> exact onSup_gatesKept (by simp [h]) (by simp [h]) (by simp [h])

theorem rectDrive_gatesKept (s : State) : s.GatesKept (rectDrive s) :=
  gatesKept_passed.trans (writeRelay_gatesKept (by decide) _ s) (writeTarget_gatesKept _ _ _)

theorem onRot_gatesKept (f : Rot → Rot) (s : State) : s.GatesKept (s.onRot f) :=
  .of_eq rfl rfl rfl rfl rfl rfl rfl rfl

theorem enterRect_gatesKept (order : List Taker) (x : RectState) (s : State) : s.GatesKept (enterRect order x s) := by
  refine gatesKept_passed.trans (onRot_gatesKept _ s) (gatesKept_passed.fan order ?_ _)
  simp only [List.forall_mem_cons]
  exact ⟨rectDrive_gatesKept, fun s => gatesKept_passed.quiet (requestStatus_quiet s),
    fun s => gatesKept_passed.quiet (logEntry_quiet _ _ _ s), takeCondition_gatesKept order 8, List.forall_mem_nil _⟩

theorem gatesKept_byBlocks : CarriedByBlocks State.GatesKept where
  toPassed := gatesKept_passed
  target _ := writeTarget_gatesKept _
  relays := recomputeRelays_gatesKept
  point order _ _ := handPoint_gatesKept order _
  rect := enterRect_gatesKept
  dwell := updateDormantDwell_gatesKept
  unwait _ := onSup_gatesKept rfl rfl rfl

theorem State.GatesKept.gco (h : s.GatesKept t) : t.gco = s.gco := congrArg Prod.fst h.1

theorem State.GatesKept.inputs (h : s.GatesKept t) :
    t.alu.effFuel = s.alu.effFuel ∧ t.alu.effInhibit = s.alu.effInhibit := by
  have hparts := h.1
  simp only [State.gateParts, Prod.mk.injEq] at hparts
  exact ⟨hparts.2.1, hparts.2.2.1⟩

theorem State.GatesKept.phase (h : s.GatesKept t) :
    t.sup.phase = s.sup.phase ∧ t.sup.mode = s.sup.mode ∧ t.sup.configFault = s.sup.configFault := by
  have hparts := h.1
  simp only [State.gateParts, Prod.mk.injEq] at hparts
  obtain ⟨-, -, -, hphase, hmode, hfault, -⟩ := hparts
  exact ⟨hphase, hmode, hfault⟩

theorem State.GatesKept.live (h : s.GatesKept t) : t.sdo.live = s.sdo.live := by
  have hparts := h.1
  simp only [State.gateParts, Prod.mk.injEq] at hparts
  tauto

/-- While SDO drives no demand the relays stay. -/
theorem State.GatesKept.relays (h : s.GatesKept t) (hl : s.sdo.live = false) : t.sdo.relays = s.sdo.relays := by
  have hlive := h.live.trans hl
  have hparts := h.1
  simp only [State.gateParts, Prod.mk.injEq, hl, hlive, Bool.false_eq_true, if_false, Option.some.injEq] at hparts
  obtain ⟨-, -, -, -, -, -, -, hrelays⟩ := hparts
  exact hrelays

/-! ## GCO's own fields -/

/-- GCO's fields in order, in a station that is in OPERATING or not, in CONFIG_FAULT or not (R142 to R144). -/
def Gco.Gated (op fault : Bool) (g : Gco) : Prop :=
  (g.lockSet = true ↔ g.state = .locked) ∧ g.demand.isSome = g.state.demanding ∧
    (g.startAt.isSome = true ↔ g.state = .demandWait) ∧ (g.restAt.isSome = true ↔ g.state = .runRest) ∧
    (g.state = .idle ∨ g.state = .locked ∨ op = true) ∧
    (g.state.demanding = true → op = true ∧ fault = false ∧ g.unsettled = false ∧ g.fuelLow = false ∧ g.inhibit = false)

namespace Gco.Gated

variable {g : Gco} {op fault : Bool}

/-- Other fields than those that the gates read may be anything. -/
theorem congr (h : g.Gated op fault) {g' : Gco} (hlock : g'.lockSet = g.lockSet) (hstate : g'.state = g.state)
    (hdemand : g'.demand.isSome = g.demand.isSome) (hstart : g'.startAt = g.startAt) (hrest : g'.restAt = g.restAt)
    (huns : g'.unsettled = true → g.unsettled = true) (hfuel : g'.fuelLow = g.fuelLow)
    (hinhibit : g'.inhibit = g.inhibit) : g'.Gated op fault := by
  obtain ⟨h1, h2, h3, h4, h5, h6⟩ := h
  refine ⟨by rwa [hlock, hstate], by rwa [hdemand, hstate], by rwa [hstart, hstate], by rwa [hrest, hstate],
    by rwa [hstate], fun hd => ?_⟩
  rw [hstate] at hd
  obtain ⟨hop, hfault, hsettled, hfl, hin⟩ := h6 hd
  exact ⟨hop, hfault, by by_contra hc; simp_all, by rwa [hfuel], by rwa [hinhibit]⟩

/-- IDLE, the lockout CLEAR, with no demand and no timer. -/
theorem of_idle (hstate : g.state = .idle) (hlock : g.lockSet = false) (hdemand : g.demand = none)
    (hstart : g.startAt = none) (hrest : g.restAt = none) : g.Gated op fault := by
  simp [Gated, hstate, hlock, hdemand, hstart, hrest, GenState.demanding]

/-- LOCKED, the lockout SET, with no demand and no timer. -/
theorem of_locked (hstate : g.state = .locked) (hlock : g.lockSet = true) (hdemand : g.demand = none)
    (hstart : g.startAt = none) (hrest : g.restAt = none) : g.Gated op fault := by
  simp [Gated, hstate, hlock, hdemand, hstart, hrest, GenState.demanding]

theorem lockSet_of_ne (h : g.Gated op fault) (hs : g.state ≠ .locked) : g.lockSet = false := by
  by_contra hc; exact hs (h.1.mp (by simpa using hc))

theorem startAt_of_ne (h : g.Gated op fault) (hs : g.state ≠ .demandWait) : g.startAt = none := by
  by_contra hc; exact hs (h.2.2.1.mp (Option.isSome_iff_ne_none.mpr hc))

theorem restAt_of_ne (h : g.Gated op fault) (hs : g.state ≠ .runRest) : g.restAt = none := by
  by_contra hc; exact hs (h.2.2.2.1.mp (Option.isSome_iff_ne_none.mpr hc))

theorem demand_of_not (h : g.Gated op fault) (hs : g.state.demanding = false) : g.demand = none := by
  rw [← Option.not_isSome_iff_eq_none, h.2.1, hs]; decide

theorem operating_of_demanding (h : g.Gated op fault) (hs : g.state.demanding = true) : op = true :=
  (h.2.2.2.2.2 hs).1

end Gco.Gated

theorem GenState.ne_of_demanding {x : GenState} (h : x.demanding = true) : x ≠ .locked ∧ x ≠ .runRest ∧ x ≠ .idle := by
  cases x <;> simp_all [GenState.demanding]

/-! ## The gates as a whole -/

/-- The relays wait for OPERATING, the mode goes with the phase, and the relay of the demand stands as the state `x` asks
for. -/
def State.RelayFollows (x : GenState) (s : State) : Prop :=
  s.RelaysWaitForOperating ∧ (s.awake = true → s.sup.mode ≠ .dormant) ∧
    (s.sdo.live = true → s.sdo.relays.genDemand = x.demanding)

/-- GCO's fields stand behind the gates, and the relay follows the state. -/
def State.Gated (s : State) : Prop := s.RelayFollows s.gco.state ∧ s.gco.Gated s.operating s.sup.configFault

theorem demandBehindGates_iff (s : State) :
    s.DemandBehindGates ↔ s.Gated ∧ s.gco.fuelLow = s.alu.effFuel ∧ s.gco.inhibit = s.alu.effInhibit := by
  constructor
  · rintro ⟨hwait, ⟨hlock, hdemand, hstart, hrest, hstate⟩, hmode, hrelay, hfuel, hinhibit, hgates⟩
    exact ⟨⟨⟨hwait, hmode, hrelay⟩, hlock, hdemand, hstart, hrest, hstate, hgates⟩, hfuel, hinhibit⟩
  · rintro ⟨⟨⟨hwait, hmode, hrelay⟩, hlock, hdemand, hstart, hrest, hstate, hgates⟩, hfuel, hinhibit⟩
    exact ⟨hwait, ⟨hlock, hdemand, hstart, hrest, hstate⟩, hmode, hrelay, hfuel, hinhibit, hgates⟩

/-- The relays of a state whose gates another keeps, but for that of the demand. -/
theorem State.RelayFollows.of_parts {x y : GenState} (h : s.RelayFollows x) (hparts : t.gateParts = s.gateParts)
    (hrelay : s.sdo.live = true → t.sdo.relays.genDemand = y.demanding) : t.RelayFollows y := by
  simp only [State.gateParts, Prod.mk.injEq] at hparts
  obtain ⟨-, -, -, hphase, hmode, -, hlive, hrelays⟩ := hparts
  obtain ⟨⟨hop, hstart⟩, hm, -⟩ := h
  refine ⟨⟨by simp only [State.operating, hlive, hphase] at hop ⊢; exact hop, fun ht => ?_⟩,
    by simpa only [State.awake, hphase, hmode] using hm, fun ht => hrelay (hlive ▸ ht)⟩
  rw [hlive] at ht
  simpa [hlive, ht, hstart ht] using hrelays

theorem State.Gated.kept (h : s.Gated) (hk : s.GatesKept t) : t.Gated := by
  obtain ⟨hparts, hrelay⟩ := hk
  have hgco : t.gco = s.gco := congrArg Prod.fst hparts
  refine ⟨hgco ▸ h.1.of_parts hparts fun hl => hrelay.trans (h.1.2.2 hl), ?_⟩
  simp only [State.gateParts, Prod.mk.injEq] at hparts
  obtain ⟨-, -, -, hphase, -, hfault, -⟩ := hparts
  rw [hgco, hfault, State.operating, hphase]
  exact h.2

theorem State.DemandBehindGates.kept (h : s.DemandBehindGates) (hk : s.GatesKept t) : t.DemandBehindGates := by
  rw [demandBehindGates_iff] at h ⊢
  refine ⟨h.1.kept hk, ?_⟩
  have hparts := hk.1
  simp only [State.gateParts, Prod.mk.injEq] at hparts
  obtain ⟨hgco, hfuel, hinhibit, -⟩ := hparts
  rw [hgco, hfuel, hinhibit]
  exact h.2

/-! ## GCO's hand-off -/

/-- What each taker of GCO's hand-off makes of the state. -/
def gcoTakes (order : List Taker) (old new : Gco) (adopted : Bool) (gen : Option (List Byte))
    (logs : List (LogKind × Nat × Nat)) (x : Taker) (s : State) : State :=
  let lockChanged := old.lockSet ≠ new.lockSet ∨ old.epoch ≠ new.epoch
  match x with
  | .sdo => if old.state = new.state then s else writeRelay .genDemand new.state.demanding s
  | .pli =>
    let s := match gen with | some p => enqueue .gen p s | none => s
    let s := if old.state.demanding = new.state.demanding then s else requestStatus s
    if lockChanged ∨ adopted then requestStatus s else s
  | .log => logs.foldl (fun s e => logEntry e.1 e.2.1 e.2.2 s) s
  | .alu => takeConditions order [10, 11, 12, 13] s
  | .sup =>
    let s := if old.unsettled ∧ new.unsettled = false then beginPendingWrite s else s
    if lockChanged then triggerWrite s else s
  | _ => s

theorem gcoHand_eq (order : List Taker) (old : Gco) (adopted : Bool) (gen : Option (List Byte))
    (logs : List (LogKind × Nat × Nat)) (s : State) :
    gcoHand order old adopted gen logs s =
      fan order [.sdo, .pli, .log, .alu, .sup] (gcoTakes order old s.gco adopted gen logs) s := rfl

theorem gcoTakes_pli_quiet (order : List Taker) (old new : Gco) (adopted : Bool) (gen : Option (List Byte))
    (logs : List (LogKind × Nat × Nat)) (s : State) : s.Quiet (gcoTakes order old new adopted gen logs .pli s) := by
  have hreq : ∀ (c : Prop) [Decidable c] (x : State), x.Quiet (if c then x else requestStatus x) := fun c _ x =>
    .ite (.refl x) (requestStatus_quiet x)
  have hreq' : ∀ (c : Prop) [Decidable c] (x : State), x.Quiet (if c then requestStatus x else x) := fun c _ x =>
    .ite (requestStatus_quiet x) (.refl x)
  cases gen with
  | none => exact (hreq _ s).trans (hreq' _ _)
  | some p => exact ((enqueue_quiet _ _ s).trans (hreq _ _)).trans (hreq' _ _)

theorem gcoTakes_sup_quiet (order : List Taker) (old new : Gco) (adopted : Bool) (gen : Option (List Byte))
    (logs : List (LogKind × Nat × Nat)) (s : State) : s.Quiet (gcoTakes order old new adopted gen logs .sup s) :=
  State.Quiet.trans (.ite (beginPendingWrite_quiet s) (.refl s)) (.ite (triggerWrite_quiet _) (.refl _))

theorem gcoTakes_gatesKept (order : List Taker) (old new : Gco) (adopted : Bool) (gen : Option (List Byte))
    (logs : List (LogKind × Nat × Nat)) {x : Taker} (hx : x ≠ .sdo) (s : State) :
    s.GatesKept (gcoTakes order old new adopted gen logs x s) := by
  cases x with
  | sdo => exact absurd rfl hx
  | pli => exact gatesKept_passed.quiet (gcoTakes_pli_quiet ..)
  | log => exact gatesKept_passed.foldl (fun e _ s => gatesKept_passed.quiet (logEntry_quiet _ _ _ s)) s
  | alu => exact takeConditions_gatesKept order _ s
  | sup => exact gatesKept_passed.quiet (gcoTakes_sup_quiet ..)
  | _ => exact gatesKept_passed.refl s

theorem writeRelay_gateParts (r : Relay) (v : Bool) (s : State) : (writeRelay r v s).gateParts = s.gateParts := by
  by_cases hlive : s.sdo.live = true
  · simp [State.gateParts, writeRelay, hlive]
  · rw [writeRelay_of_not_live r v (by simpa using hlive)]

/-- GCO's hand-off leaves the gates, and the relay of the demand as the new state asks for. -/
theorem gcoHand_relay (order : List Taker) (old : Gco) (adopted : Bool) (gen : Option (List Byte))
    (logs : List (LogKind × Nat × Nat)) (h : s.sdo.live = true → s.sdo.relays.genDemand = old.state.demanding) :
    (gcoHand order old adopted gen logs s).gateParts = s.gateParts ∧
      (s.sdo.live = true → (gcoHand order old adopted gen logs s).sdo.relays.genDemand = s.gco.state.demanding) := by
  rw [gcoHand_eq]
  have hkept : ∀ (x : Taker) (u : State), x ≠ .sdo → u.gateParts = s.gateParts →
      (gcoTakes order old s.gco adopted gen logs x u).gateParts = s.gateParts := fun x u hx hu =>
    (gcoTakes_gatesKept order old s.gco adopted gen logs hx u).1.trans hu
  have hlive : ∀ u : State, u.gateParts = s.gateParts → u.sdo.live = s.sdo.live := fun u hu => by
    simp only [State.gateParts, Prod.mk.injEq] at hu; tauto
  by_cases hstate : old.state = s.gco.state
  · rw [← hstate]
    refine fan_induction order
      (P := fun u => u.gateParts = s.gateParts ∧ (s.sdo.live = true → u.sdo.relays.genDemand = old.state.demanding))
      (fun x _ u hu => ?_) s ⟨rfl, h⟩
    by_cases hx : x = .sdo
    · subst hx; simpa [gcoTakes, hstate] using hu
    · exact ⟨hkept x u hx hu.1, fun hl => (gcoTakes_gatesKept order old s.gco adopted gen logs hx u).2.trans (hu.2 hl)⟩
  · have hsdo : ∀ u, gcoTakes order old s.gco adopted gen logs .sdo u =
        writeRelay .genDemand s.gco.state.demanding u := fun u => if_neg hstate
    refine fan_establishes order (I := fun u => u.gateParts = s.gateParts)
      (P := fun u => u.gateParts = s.gateParts ∧
        (s.sdo.live = true → u.sdo.relays.genDemand = s.gco.state.demanding))
      .sdo (by decide) (fun x _ hx u hu => hkept x u hx hu) (fun u hu => ?_) (fun x _ u hu => ?_) s rfl
    · rw [hsdo]
      exact ⟨(writeRelay_gateParts _ _ u).trans hu, fun hl =>
        (relayGet_writeRelay .genDemand .genDemand _ u).trans (if_pos ⟨rfl, (hlive u hu).trans hl⟩)⟩
    · by_cases hx : x = .sdo
      · subst hx
        rw [hsdo]
        exact ⟨(writeRelay_gateParts _ _ u).trans hu.1, fun hl =>
          (relayGet_writeRelay .genDemand .genDemand _ u).trans (if_pos ⟨rfl, (hlive u hu.1).trans hl⟩)⟩
      · exact ⟨hkept x u hx hu.1, fun hl =>
          (gcoTakes_gatesKept order old s.gco adopted gen logs hx u).2.trans (hu.2 hl)⟩

/-- A change of GCO's fields that keeps them in order, handed on. -/
theorem State.RelayFollows.hand {old : Gco} (h : s.RelayFollows old.state) (hg : s.gco.Gated s.operating s.sup.configFault)
    (order : List Taker) (adopted : Bool) (gen : Option (List Byte)) (logs : List (LogKind × Nat × Nat)) :
    (gcoHand order old adopted gen logs s).Gated := by
  obtain ⟨hparts, hrelay⟩ := gcoHand_relay order old adopted gen logs h.2.2
  have hgco : (gcoHand order old adopted gen logs s).gco = s.gco := congrArg Prod.fst hparts
  refine ⟨hgco ▸ h.of_parts hparts hrelay, ?_⟩
  simp only [State.gateParts, Prod.mk.injEq] at hparts
  obtain ⟨-, -, -, hphase, -, hfault, -⟩ := hparts
  rw [hgco, hfault, State.operating, hphase]
  exact hg

/-- A change of GCO's fields that keeps them behind the gates, with the inputs as they are, handed on. -/
theorem State.DemandBehindGates.move (h : s.DemandBehindGates) {f : Gco → Gco}
    (hf : (f s.gco).Gated s.operating s.sup.configFault) (hfuel : (f s.gco).fuelLow = s.gco.fuelLow)
    (hinhibit : (f s.gco).inhibit = s.gco.inhibit) (order : List Taker) (adopted : Bool) (gen : Option (List Byte))
    (logs : List (LogKind × Nat × Nat)) :
    (gcoHand order s.gco adopted gen logs (s.onGco f)).DemandBehindGates := by
  rw [demandBehindGates_iff] at h ⊢
  obtain ⟨⟨hrelay, -⟩, hfl, hin⟩ := h
  have hmoved : (s.onGco f).RelayFollows s.gco.state := hrelay
  have hparts := (gcoHand_relay order s.gco adopted gen logs hmoved.2.2).1
  simp only [State.gateParts, Prod.mk.injEq] at hparts
  obtain ⟨-, hefffuel, heffinhibit, -⟩ := hparts
  have hgco : (gcoHand order s.gco adopted gen logs (s.onGco f)).gco = f s.gco := (gcoHand_changedOnly _ _ _ _ _ _).gco
  exact ⟨hmoved.hand hf order adopted gen logs, by rw [hgco, hfuel, hefffuel]; exact hfl,
    by rw [hgco, hinhibit, heffinhibit]; exact hin⟩

end Sys2Proof.Machine
end

section
/-! SUPPORT. GCO's events behind the gates (R142 to R157), and O14: every command keeps a demand behind its gates. -/
namespace Sys2Proof.Machine

set_option Elab.async false

variable {s t u : State} {g : Gco} {op fault : Bool}

/-! ## GCO's fields over its events -/

namespace Gco.Gated

/-- Out of a demand state the gates say nothing of the phase and of CONFIG_FAULT. -/
theorem of_not_demanding (h : g.Gated op fault) (hs : g.state = .idle ∨ g.state = .locked) (op' fault' : Bool) :
    g.Gated op' fault' := by
  obtain ⟨hlock, hdemand, hstart, hrest, -, -⟩ := h
  exact ⟨hlock, hdemand, hstart, hrest, hs.elim .inl fun h => .inr (.inl h), fun hd => by
    rcases hs with hs | hs <;> simp [hs, GenState.demanding] at hd⟩

/-- What stands only in OPERATING does not stand out of it. -/
theorem resting (h : g.Gated false fault) : g.state = .idle ∨ g.state = .locked := by
  obtain ⟨-, -, -, -, hstate, -⟩ := h
  simpa using hstate

theorem depart_idle (h : g.Gated op fault) (hs : g.state.demanding = true) (now : Nat) :
    (gcoDepart .idle now g).Gated op fault :=
  of_idle rfl (h.lockSet_of_ne (GenState.ne_of_demanding hs).1) rfl rfl (h.restAt_of_ne (GenState.ne_of_demanding hs).2.1)

theorem confirm (h : g.Gated op fault) (hs : g.state = .demandWait) (now : Nat) : (gcoConfirm now g).Gated op fault := by
  have hlock := h.lockSet_of_ne (by simp [hs])
  have hrest := h.restAt_of_ne (by simp [hs])
  obtain ⟨-, hdemand, -, -, -, hgates⟩ := h
  obtain ⟨hop, hrest'⟩ := hgates (by simp [hs, GenState.demanding])
  rw [hs] at hdemand
  exact ⟨by simp [gcoConfirm, hlock], by simpa [gcoConfirm, GenState.demanding] using hdemand, by simp [gcoConfirm],
    by simp [gcoConfirm, hrest], .inr (.inr hop), fun _ => ⟨hop, hrest'⟩⟩

theorem raise (a : GcoSettings) (reason : DemandReason) (testEnd : Option Nat) (now : Nat) (running : Bool)
    (hlock : g.lockSet = false) (hsettled : g.unsettled = false) (hfuel : g.fuelLow = false)
    (hinhibit : g.inhibit = false) : (gcoRaise a reason testEnd now running g).Gated true false := by
  have hraised : (gcoRaise a reason testEnd now false g).Gated true false := by
    simp [gcoRaise, gcoNoDwells, Gated, hlock, hsettled, hfuel, hinhibit, GenState.demanding]
  cases running
  · exact hraised
  · exact hraised.confirm rfl now

theorem adopt (h : g.Gated op fault) (set : Bool) (epoch now : Nat) : (gcoAdopt set epoch now g).Gated op fault := by
  unfold gcoAdopt
  cases set
  · by_cases hs : g.state = .locked
    · have hdemand := h.demand_of_not (by simp [hs, GenState.demanding])
      have hstart := h.startAt_of_ne (by simp [hs])
      have hrest := h.restAt_of_ne (by simp [hs])
      simp only [hs, Bool.false_eq_true, if_false, if_true]
      exact of_idle rfl rfl hdemand hstart hrest
    · simp only [hs, Bool.false_eq_true, if_false]
      exact h.congr (h.lockSet_of_ne hs).symm rfl rfl rfl rfl (fun hc => by simp at hc) rfl rfl
  · exact of_locked rfl rfl rfl rfl rfl

end Gco.Gated

/-- The fields that the gates read are as they were. -/
def Gco.SameGates (g g' : Gco) : Prop :=
  g'.lockSet = g.lockSet ∧ g'.state = g.state ∧ g'.demand = g.demand ∧ g'.startAt = g.startAt ∧ g'.restAt = g.restAt ∧
    g'.unsettled = g.unsettled ∧ g'.fuelLow = g.fuelLow ∧ g'.inhibit = g.inhibit

theorem Gco.SameGates.ite {a b : Gco} {c : Prop} [Decidable c] (ha : g.SameGates a) (hb : g.SameGates b) :
    g.SameGates (if c then a else b) := by split <;> assumption

theorem gcoCount_gates (running : Bool) (g : Gco) : g.SameGates (gcoCount running g) :=
  .ite ⟨rfl, rfl, rfl, rfl, rfl, rfl, rfl, rfl⟩
    (.ite ⟨rfl, rfl, rfl, rfl, rfl, rfl, rfl, rfl⟩ ⟨rfl, rfl, rfl, rfl, rfl, rfl, rfl, rfl⟩)

theorem gcoDwells_gates (s : State) (g : Gco) : g.SameGates (gcoDwells s g) := by
  unfold gcoDwells; split <;> exact ⟨rfl, rfl, rfl, rfl, rfl, rfl, rfl, rfl⟩

theorem DemandBehindGates_gcoGated (h : s.DemandBehindGates) : s.gco.Gated s.operating s.sup.configFault :=
  ((demandBehindGates_iff s).mp h).1.2

/-! ## GCO's events -/

/-- A command answered past a ground of refusal. -/
theorem of_refuseIf {c : Prop} [Decidable c] {r : RefuseReason} {x : RefuseReason ⊕ State}
    (h : (if c then .inl r else x) = .inr t) : ¬ c ∧ x = .inr t := by
  by_cases hc : c
  · rw [if_pos hc] at h; cases h
  · exact ⟨hc, by rwa [if_neg hc] at h⟩

theorem of_elseRefuse {c : Prop} [Decidable c] {r : RefuseReason} {x : State}
    (h : (if c then .inr x else .inl r : RefuseReason ⊕ State) = .inr t) : t = x := by
  by_cases hc : c
  · rw [if_pos hc] at h; exact (Sum.inr.inj h).symm
  · rw [if_neg hc] at h; cases h

namespace State.DemandBehindGates

/-- A demand released. -/
theorem release (h : s.DemandBehindGates) (hd : s.gco.state.demanding = true) (order : List Taker) :
    (gcoRelease order s).DemandBehindGates :=
  h.move (f := gcoDepart .idle s.now) ((DemandBehindGates_gcoGated h).depart_idle hd _) rfl rfl order _ _ _

/-- A demand raised behind its gates. -/
theorem raise (h : s.DemandBehindGates) (hop : s.operating = true) (hfault : s.sup.configFault = false)
    (hlock : s.gco.lockSet = false) (hsettled : s.gco.unsettled = false) (hfuel : s.gco.fuelLow = false)
    (hinhibit : s.gco.inhibit = false) (order : List Taker) (reason : DemandReason) (testEnd : Option Nat) :
    (gcoRaiseNow order reason testEnd s).DemandBehindGates := by
  refine h.move (f := gcoRaise s.settings.gco reason testEnd s.now s.ptb.genRunning) ?_ ?_ ?_ order _ _ _
  · rw [hop, hfault]; exact .raise _ _ _ _ _ hlock hsettled hfuel hinhibit
  · unfold gcoRaise; dsimp only; split <;> rfl
  · unfold gcoRaise; dsimp only; split <;> rfl

/-- The same, where the gates are judged together (R144). -/
theorem raise_of_gates (h : s.DemandBehindGates) (hg : s.gatesHold = true) (order : List Taker) (reason : DemandReason)
    (testEnd : Option Nat) : (gcoRaiseNow order reason testEnd s).DemandBehindGates := by
  simp only [State.gatesHold, Bool.and_eq_true, Bool.not_eq_true'] at hg
  obtain ⟨⟨⟨⟨⟨⟨hop, -⟩, hfault⟩, hlock⟩, hsettled⟩, hfuel⟩, hinhibit⟩ := hg
  exact h.raise hop hfault hlock hsettled hfuel hinhibit order reason testEnd

/-- A change of GCO's fields that the gates do not read. -/
theorem fields (h : s.DemandBehindGates) {f : Gco → Gco} (hlock : (f s.gco).lockSet = s.gco.lockSet)
    (hstate : (f s.gco).state = s.gco.state) (hdemand : (f s.gco).demand.isSome = s.gco.demand.isSome)
    (hstart : (f s.gco).startAt = s.gco.startAt) (hrest : (f s.gco).restAt = s.gco.restAt)
    (huns : (f s.gco).unsettled = true → s.gco.unsettled = true) (hfuel : (f s.gco).fuelLow = s.gco.fuelLow)
    (hinhibit : (f s.gco).inhibit = s.gco.inhibit) : (s.onGco f).DemandBehindGates := by
  rw [demandBehindGates_iff] at h ⊢
  obtain ⟨⟨⟨hwait, hmode, hrelay⟩, hg⟩, hfl, hin⟩ := h
  exact ⟨⟨⟨hwait, hmode, fun hl => (hrelay hl).trans (by rw [State.onGco_gco, hstate])⟩,
    hg.congr hlock hstate hdemand hstart hrest huns hfuel hinhibit⟩, hfuel.trans hfl, hinhibit.trans hin⟩

theorem gcoView (h : s.DemandBehindGates) (order : List Taker) : (gcoOnView order s).DemandBehindGates := by
  unfold gcoOnView; split
  · split
    · next hd => exact h.release hd.2.1 order
    · exact h
  · exact h

theorem gcoKnowledge (h : s.DemandBehindGates) (order : List Taker) : (gcoOnKnowledge order s).DemandBehindGates := by
  have hg := DemandBehindGates_gcoGated h
  have hlength : ∀ n, ({ s.gco with runLength := n } : Gco).Gated s.operating s.sup.configFault := fun n =>
    hg.congr rfl rfl rfl rfl rfl id rfl rfl
  unfold gcoOnKnowledge; dsimp only
  refine h.move ?_ ?_ ?_ order _ _ _
  · split
    · next hc => exact (hlength _).confirm (by simp only [Bool.and_eq_true, beq_iff_eq] at hc; exact hc.2) _
    · exact hlength _
  · split <;> rfl
  · split <;> rfl

theorem gcoHear (h : s.DemandBehindGates) (order : List Taker) (n : Nat) (b : Bool) (e : Nat) :
    (gcoHear order n b e s).DemandBehindGates := by
  have hfields : (gcoAdopt b e s.now s.gco).fuelLow = s.gco.fuelLow ∧ (gcoAdopt b e s.now s.gco).inhibit = s.gco.inhibit := by
    unfold gcoAdopt; cases b
    · by_cases hs : s.gco.state = .locked <;> simp [hs, gcoNoDwells]
    · exact ⟨rfl, rfl⟩
  unfold Machine.gcoHear; split
  · exact h.move ((DemandBehindGates_gcoGated h).adopt b e _) hfields.1 hfields.2 order _ _ _
  · exact h

theorem gcoTick (h : s.DemandBehindGates) (order : List Taker) : (gcoTick order s).DemandBehindGates := by
  have hcount : (s.onGco (gcoCount s.ptb.genRunning)).DemandBehindGates := by
    obtain ⟨hlock, hstate, hdemand, hstart, hrest, huns, hfuel, hinhibit⟩ := gcoCount_gates s.ptb.genRunning s.gco
    exact h.fields hlock hstate (by rw [hdemand]) hstart hrest (by rw [huns]; exact id) hfuel hinhibit
  unfold Machine.gcoTick; dsimp only
  split
  · generalize s.onGco (gcoCount s.ptb.genRunning) = s at *
    have hdwells : (s.onGco (gcoDwells s)).DemandBehindGates := by
      obtain ⟨hlock, hstate, hdemand, hstart, hrest, huns, hfuel, hinhibit⟩ := gcoDwells_gates s s.gco
      exact hcount.fields hlock hstate (by rw [hdemand]) hstart hrest (by rw [huns]; exact id) hfuel hinhibit
    unfold gcoCheck; dsimp only
    generalize s.onGco (gcoDwells s) = s at *
    split
    · split
      · split
        · next hg => exact hdwells.raise_of_gates hg order _ _
        · exact hdwells
      · exact hdwells
    · split
      · next hg => exact hdwells.raise_of_gates hg.2 order _ _
      · exact hdwells
    · next hrun =>
      split
      · next d hd =>
        have hg := DemandBehindGates_gcoGated hdwells
        have hlock := hg.lockSet_of_ne (by simp [hrun])
        have hop := hg.operating_of_demanding (by simp [hrun, GenState.demanding])
        have haccept : (s.onGco fun g => { g with acceptDwell := s.acceptNext }).DemandBehindGates :=
          hdwells.fields rfl rfl rfl rfl rfl id rfl rfl
        unfold gcoRunCheck; dsimp only
        split
        · refine hdwells.move ?_ rfl rfl order _ _ _
          simp [Gco.Gated, gcoDepart, gcoNoDwells, GenState.demanding, hlock, hop]
        · split
          · exact haccept.release (by simp [hrun, GenState.demanding]) order
          · exact haccept
      · exact hdwells
    · exact hdwells
  · exact hcount

theorem startFailure (h : s.DemandBehindGates) (hs : s.gco.state = .demandWait) (order : List Taker) :
    (gcoStartFailure order s).DemandBehindGates :=
  h.move (.of_locked rfl rfl rfl rfl ((DemandBehindGates_gcoGated h).restAt_of_ne (by simp [hs]))) rfl rfl order _ _ _

theorem restEnd (h : s.DemandBehindGates) (hs : s.gco.state = .runRest) (order : List Taker) :
    (gcoRestEnd order s).DemandBehindGates := by
  have hg := DemandBehindGates_gcoGated h
  exact h.move (.of_idle rfl (hg.lockSet_of_ne (by simp [hs])) (hg.demand_of_not (by simp [hs, GenState.demanding]))
    (hg.startAt_of_ne (by simp [hs])) rfl) rfl rfl order _ _ _

theorem settle (h : s.DemandBehindGates) (order : List Taker) : (gcoSettle order s).DemandBehindGates :=
  h.move ((DemandBehindGates_gcoGated h).congr rfl rfl rfl rfl rfl (fun hc => by simp at hc) rfl rfl) rfl rfl
    order _ _ _

theorem test (h : s.DemandBehindGates) {order : List Taker} {n : Nat} (ht : gcoTest order n s = .inr t) :
    t.DemandBehindGates := by
  have hrelease : ∀ b : Bool, (b = true → s.gco.state.demanding = true) →
      (if b = true then gcoRelease order s else s).DemandBehindGates := fun b hb => by
    cases b with
    | false => exact h
    | true => exact h.release (hb rfl) order
  unfold gcoTest at ht
  dsimp only at ht
  split at ht
  · cases ht
    refine hrelease _ fun htest => ?_
    split at htest
    · simp only [Bool.and_eq_true] at htest; exact htest.1
    · cases htest
  · obtain ⟨hop, ht⟩ := of_refuseIf ht
    obtain ⟨hfault, ht⟩ := of_refuseIf ht
    obtain ⟨hlock, ht⟩ := of_refuseIf ht
    obtain ⟨hfuel, ht⟩ := of_refuseIf ht
    obtain ⟨hinhibit, ht⟩ := of_refuseIf ht
    obtain ⟨-, ht⟩ := of_refuseIf ht
    simp only [not_or, Bool.not_eq_true, Bool.not_eq_false] at hop hfault hlock hfuel hinhibit
    split at ht
    · rw [of_elseRefuse ht]
      exact h.fields rfl rfl (by simp) rfl rfl id rfl rfl
    · cases ht; exact h.raise hop hfault hlock.1 hlock.2 hfuel hinhibit order _ _

theorem clear (h : s.DemandBehindGates) {order : List Taker} (ht : gcoClear order s = .inr t) : t.DemandBehindGates := by
  obtain ⟨-, ht⟩ := of_refuseIf ht
  obtain ⟨-, ht⟩ := of_refuseIf ht
  obtain ⟨hset, ht⟩ := of_refuseIf ht
  cases ht
  have hg := DemandBehindGates_gcoGated h
  have hs : s.gco.state = .locked := hg.1.mp (by simpa using hset)
  exact h.move (.of_idle rfl rfl (hg.demand_of_not (by simp [hs, GenState.demanding]))
    (hg.startAt_of_ne (by simp [hs])) (hg.restAt_of_ne (by simp [hs]))) rfl rfl order _ _ _

end State.DemandBehindGates

end Sys2Proof.Machine
end

section
/-! SUPPORT. The two inputs of GCO (R154, R171) and the phases behind the gates, and O14. -/
namespace Sys2Proof.Machine

set_option Elab.async false

variable {s t u : State}

/-! ## The two inputs composed anew (R154, R171) -/

/-- The fields that the gates read are as they were, but for the two inputs. -/
def Gco.SameButInputs (g g' : Gco) : Prop :=
  g'.lockSet = g.lockSet ∧ g'.state = g.state ∧ g'.demand = g.demand ∧ g'.startAt = g.startAt ∧ g'.restAt = g.restAt ∧
    g'.unsettled = g.unsettled

/-- GCO takes an input: it stands as given, and a demand that it forbids (`c`) ends. -/
theorem State.Gated.input {f : Gco → Gco} {c : Prop} [Decidable c] (h : s.Gated) (hf : s.gco.SameButInputs (f s.gco))
    (hc : ¬ c → (f s.gco).state.demanding = true → (f s.gco).fuelLow = false ∧ (f s.gco).inhibit = false)
    (order : List Taker) :
    (if c ∧ (f s.gco).state.demanding = true then gcoRelease order (s.onGco f) else s.onGco f).Gated ∧
      (if c ∧ (f s.gco).state.demanding = true then gcoRelease order (s.onGco f) else s.onGco f).alu.effFuel =
        s.alu.effFuel ∧
      (if c ∧ (f s.gco).state.demanding = true then gcoRelease order (s.onGco f) else s.onGco f).alu.effInhibit =
        s.alu.effInhibit ∧
      (if c ∧ (f s.gco).state.demanding = true then gcoRelease order (s.onGco f) else s.onGco f).gco.fuelLow =
        (f s.gco).fuelLow ∧
      (if c ∧ (f s.gco).state.demanding = true then gcoRelease order (s.onGco f) else s.onGco f).gco.inhibit =
        (f s.gco).inhibit := by
  obtain ⟨hlock, hstate, hdemand, hstart, hrest, huns⟩ := hf
  obtain ⟨hrelay, hg⟩ := h
  have hmoved : (s.onGco f).RelayFollows (f s.gco).state := hstate ▸ hrelay
  split
  · next hends =>
    have hd : s.gco.state.demanding = true := hstate ▸ hends.2
    have hhanded : ((s.onGco f).onGco (gcoDepart .idle s.now)).RelayFollows (f s.gco).state := hmoved
    have hparts := (gcoHand_relay order (f s.gco) false none (releaseLog (f s.gco)) hhanded.2.2).1
    simp only [State.gateParts, Prod.mk.injEq] at hparts
    obtain ⟨hgco, hfuel, hinhibit, -⟩ := hparts
    have hgated := hhanded.hand (.of_idle rfl (hlock.trans (hg.lockSet_of_ne (GenState.ne_of_demanding hd).1)) rfl rfl
      (hrest.trans (hg.restAt_of_ne (GenState.ne_of_demanding hd).2.1))) order false none (releaseLog (f s.gco))
    exact ⟨hgated, hfuel, hinhibit, (congrArg Gco.fuelLow hgco :), (congrArg Gco.inhibit hgco :)⟩
  · next hstays =>
    refine ⟨⟨hmoved, ?_⟩, rfl, rfl, rfl, rfl⟩
    obtain ⟨h1, h2, h3, h4, h5, h6⟩ := hg
    refine ⟨by simpa [hlock, hstate] using h1, by simpa [hdemand, hstate] using h2, by simpa [hstart, hstate] using h3,
      by simpa [hrest, hstate] using h4, by rw [State.onGco_gco, hstate]; exact h5, fun hd => ?_⟩
    obtain ⟨hop, hfault, hsettled, -⟩ := h6 (by simpa [hstate] using hd)
    exact ⟨hop, hfault, huns.trans hsettled, hc (fun hc => hstays ⟨hc, hd⟩) hd⟩

theorem gcoOnFuel_behind (h : s.Gated) (hin : s.gco.inhibit = s.alu.effInhibit) (order : List Taker) :
    (gcoOnFuel order s).DemandBehindGates := by
  obtain ⟨hgated, hfuel, hinhibit, hgf, hgi⟩ := h.input (f := fun g => { g with fuelLow := s.alu.effFuel })
    (c := s.alu.effFuel = true) ⟨rfl, rfl, rfl, rfl, rfl, rfl⟩
    (fun hc hd => ⟨by simpa using hc, (h.2.2.2.2.2.2 hd).2.2.2.2⟩) order
  exact (demandBehindGates_iff _).mpr ⟨hgated, hgf.trans hfuel.symm, (hgi.trans hin).trans hinhibit.symm⟩

theorem gcoOnInhibit_behind (h : s.Gated) (hfl : s.gco.fuelLow = s.alu.effFuel) (order : List Taker) :
    (gcoOnInhibit order s).DemandBehindGates := by
  obtain ⟨hgated, hfuel, hinhibit, hgf, hgi⟩ := h.input (f := fun g => { g with inhibit := s.alu.effInhibit })
    (c := s.alu.effInhibit = true) ⟨rfl, rfl, rfl, rfl, rfl, rfl⟩
    (fun hc hd => ⟨(h.2.2.2.2.2.2 hd).2.2.2.1, by simpa using hc⟩) order
  exact (demandBehindGates_iff _).mpr ⟨hgated, (hgf.trans hfl).trans hfuel.symm, hgi.trans hinhibit.symm⟩

/-- What each taker of a changed fuel-low makes of the state. -/
def fuelTakes (order : List Taker) (eff : Bool) (x : Taker) (s : State) : State :=
  match x with
  | .alu => takeCondition order 14 s
  | .gco => gcoOnFuel order s
  | .log => logEntry .tag 0 (twoParts fuelTag eff.toNat) s
  | _ => s

/-- The fuel-low composed of the subscriptions and the analogue value, as ALU takes it (R171). -/
def State.fuelNow (s : State) : Bool := s.alu.fuelAnalog || s.targetValue .fuelLowFn

theorem recomputeFuel_eq (order : List Taker) (s : State) :
    recomputeFuel order s =
      if s.alu.effFuel ≠ s.fuelNow then
        fan order [.alu, .gco, .log] (fuelTakes order s.fuelNow)
          (s.onAlu fun a => { a with fuelFn := s.targetValue .fuelLowFn, effFuel := s.fuelNow })
      else s.onAlu fun a => { a with fuelFn := s.targetValue .fuelLowFn, effFuel := s.fuelNow } := rfl

theorem fuelTakes_gatesKept (order : List Taker) (eff : Bool) {x : Taker} (hx : x ≠ .gco) (s : State) :
    s.GatesKept (fuelTakes order eff x s) := by
  cases x with
  | gco => exact absurd rfl hx
  | alu => exact takeCondition_gatesKept order 14 s
  | log => exact gatesKept_passed.quiet (logEntry_quiet _ _ _ s)
  | _ => exact gatesKept_passed.refl s

theorem recomputeFuel_behind (h : s.DemandBehindGates) (order : List Taker) :
    (recomputeFuel order s).DemandBehindGates := by
  obtain ⟨hgated, hfl, hin⟩ := (demandBehindGates_iff s).mp h
  rw [recomputeFuel_eq]
  split
  · refine fan_establishes order (I := fun u => u.Gated ∧ u.gco.inhibit = u.alu.effInhibit) .gco (by decide)
      (fun y _ hne u hu => ?_) (fun u hu => gcoOnFuel_behind hu.1 hu.2 order) (fun y _ u hu => ?_) _ ⟨hgated, hin⟩
    · have hk := fuelTakes_gatesKept order s.fuelNow hne u
      exact ⟨hu.1.kept hk, (congrArg Gco.inhibit hk.gco).trans (hu.2.trans hk.inputs.2.symm)⟩
    · by_cases hne : y = .gco
      · subst hne
        obtain ⟨hug, -, hui⟩ := (demandBehindGates_iff u).mp hu
        exact gcoOnFuel_behind hug hui order
      · exact hu.kept (fuelTakes_gatesKept order s.fuelNow hne u)
  · next hsame =>
    exact (demandBehindGates_iff _).mpr ⟨hgated, hfl.trans (not_not.mp hsame), hin⟩

theorem recomputeInhibit_behind (h : s.DemandBehindGates) (order : List Taker) :
    (recomputeInhibit order s).DemandBehindGates := by
  obtain ⟨hgated, hfl, hin⟩ := (demandBehindGates_iff s).mp h
  unfold recomputeInhibit; dsimp only
  split
  · have hlog : ∀ u : State, u.GatesKept
        (logEntry .tag 0 (twoParts inhibitTag (s.targetValue .genInhibitFn).toNat) u) := fun u =>
      gatesKept_passed.quiet (logEntry_quiet _ _ _ u)
    refine fan_establishes order (I := fun u => u.Gated ∧ u.gco.fuelLow = u.alu.effFuel) .gco (by decide)
      (fun y hy hne u hu => ?_) (fun u hu => gcoOnInhibit_behind hu.1 hu.2 order) (fun y hy u hu => ?_) _ ⟨hgated, hfl⟩
    · obtain rfl : y = .log := by simpa [hne] using hy
      exact ⟨hu.1.kept (hlog u), (congrArg Gco.fuelLow (hlog u).gco).trans (hu.2.trans (hlog u).inputs.1.symm)⟩
    · rcases List.mem_pair.mp hy with rfl | rfl
      · obtain ⟨hug, huf, -⟩ := (demandBehindGates_iff u).mp hu
        exact gcoOnInhibit_behind hug huf order
      · exact hu.kept (hlog u)
  · next hsame =>
    exact (demandBehindGates_iff _).mpr ⟨hgated, hfl, hin.trans (not_not.mp hsame)⟩

/-! ## What every operation carries -/

/-- The gates behind a change of the phase, of the mode and of what drives: out of OPERATING, with GCO at rest. -/
theorem behindGates_resting (hop : s.operating = false) (hlive : s.sdo.live = false) (hrelays : s.sdo.relays = .start)
    (hmode : s.awake = true → s.sup.mode ≠ .dormant) (hg : s.gco.Gated false true)
    (hfl : s.gco.fuelLow = s.alu.effFuel) (hin : s.gco.inhibit = s.alu.effInhibit) : s.DemandBehindGates := by
  refine (demandBehindGates_iff s).mpr ⟨⟨⟨⟨by simp [hlive, hop], fun _ => hrelays⟩, hmode, by simp [hlive]⟩, ?_⟩, hfl, hin⟩
  exact hg.of_not_demanding hg.resting _ _

/-- The gates hold after when they hold before. -/
def State.BehindGatesKept (s t : State) : Prop := s.DemandBehindGates → t.DemandBehindGates

theorem State.GatesKept.behind (hk : s.GatesKept t) : s.BehindGatesKept t := fun h => h.kept hk

theorem behindGates_carried : Carried State.BehindGatesKept where
  trans h g hs := g (h hs)
  quiet h := (gatesKept_passed.quiet h).behind
  target hd v s := (gatesKept_byBlocks.target hd v s).behind
  relays s := (gatesKept_byBlocks.relays s).behind
  point order _ hid p s := (gatesKept_byBlocks.point order hid p s).behind
  rect order x s := (gatesKept_byBlocks.rect order x s).behind
  dwell s := (gatesKept_byBlocks.dwell s).behind
  unwait s := (gatesKept_byBlocks.unwait s).behind
  mode hop m hm h := by
    obtain ⟨hwait, hlock, -, hrest⟩ := h
    exact ⟨hwait, hlock, fun _ => hm, hrest⟩
  subs s := (recomputeSubs_gatesKept true s).behind
  fuel order s h := recomputeFuel_behind h order
  inhibit order s h := recomputeInhibit_behind h order
  gcoView order s h := h.gcoView order
  gcoKnowledge order s h := h.gcoKnowledge order
  gcoHear order n b e s h := h.gcoHear order n b e

theorem onPtb_behindGates (f : Ptb → Ptb) (s : State) : s.BehindGatesKept (s.onPtb f) :=
  (State.GatesKept.of_eq rfl rfl rfl rfl rfl rfl rfl rfl).behind

/-- A change of SUP's before and after which the station is not in OPERATING. -/
theorem State.DemandBehindGates.onSup (h : s.DemandBehindGates) (hop : s.operating = false) {f : Sup → Sup}
    (hop' : (s.onSup f).operating = false) (hmode : (s.onSup f).awake = true → (f s.sup).mode ≠ .dormant) :
    (s.onSup f).DemandBehindGates := by
  obtain ⟨⟨⟨hwait, -, -⟩, hg⟩, hfl, hin⟩ := (demandBehindGates_iff s).mp h
  have hlive : s.sdo.live = false := hwait.1.trans hop
  rw [hop] at hg
  exact behindGates_resting hop' hlive (hwait.2 hlive) hmode (hg.of_not_demanding hg.resting _ _) hfl hin

/-- LISTEN entered by a station that is not in OPERATING. -/
theorem listenEntry_behindGates (h : s.DemandBehindGates) (hop : s.operating = false) (order : List Taker) (wake : Bool) :
    (listenEntry order wake s).DemandBehindGates :=
  behindGates_carried.listenTakes_of_peers onPtb_behindGates (fun s => (onAlu_gatesKept rfl rfl).behind)
    (fun s => (rectDrive_gatesKept s).behind) order wake s (h.onSup hop rfl fun _ => by simp)

/-! ## Wake and OPERATING entry -/

/-- The mode alone changes of what drives in SUP's own part of a wake. -/
theorem wakeSup_quiet (cause : StartCause) (s : State) :
    (s.onSup fun x => { x with mode := .full }).Quiet (wakeSup cause s) := by
  have hsup : ∀ f : Sup → Sup, (f s.sup).phase = s.sup.phase → (f s.sup).mode = .full →
      (f s.sup).configFault = s.sup.configFault → (f s.sup).dormantSince = s.sup.dormantSince →
      (f s.sup).entryWait = s.sup.entryWait → (s.onSup fun x => { x with mode := .full }).Quiet (s.onSup f) :=
    fun f hphase hmode hfault hsince hwait => by simp [State.Quiet, State.drive, *]
  exact .ite (hsup _ rfl rfl rfl rfl rfl) ((hsup _ rfl rfl rfl rfl rfl).trans (logWake_quiet _))

/-- The phase alone changes of what drives before OPERATING entry is handed to the blocks. -/
theorem operatingNotes_quiet (s : State) :
    (s.onSup fun x => { x with phase := .operating }).Quiet (operatingNotes s) := by
  have hwake : s.Quiet (if s.sup.startCause = .wakeTimer then logWake s else s) := .ite (logWake_quiet s) (.refl s)
  unfold operatingNotes; dsimp only
  generalize (if s.sup.startCause = .wakeTimer then logWake s else s) = x at hwake
  have hphase : (s.onSup fun x => { x with phase := .operating }).Quiet (x.onSup fun x => { x with phase := .operating }) :=
    (congrArg (fun d : Drive => ({ d with phase := .operating } : Drive)) hwake :)
  exact (hphase.trans (grantTransmission_quiet _)).trans
    (((enqueue_quiet _ _ _).trans (enqueueStatus_quiet _)).trans (enqueuePoint_quiet _))

theorem wakeUp_behindGates (order : List Taker) (cause : StartCause) (hs : s.asleep = true) :
    s.BehindGatesKept (wakeUp order cause s) := fun h => by
  have hphase : s.sup.phase = .dormant := by simpa [State.asleep] using hs
  have hop : s.operating = false := by simp [State.operating, hphase]
  have hquiet := wakeSup_quiet cause s
  rw [wakeUp_of_asleep order cause hs]
  refine listenEntry_behindGates ?_ ?_ order true
  · exact (gatesKept_passed.quiet hquiet).behind (h.onSup hop (by simpa [State.operating] using hop) fun _ => by simp)
  · simp [State.operating, hquiet.phase, hphase]

/-- The phase is OPERATING, and GCO's fields are in order for it: all that OPERATING entry needs of the gates. -/
def State.EntersBehindGates (s : State) : Prop :=
  s.sup.phase = .operating ∧ s.sup.mode ≠ .dormant ∧ s.gco.Gated true s.sup.configFault ∧
    s.gco.fuelLow = s.alu.effFuel ∧ s.gco.inhibit = s.alu.effInhibit

theorem State.EntersBehindGates.kept (h : s.EntersBehindGates) (hk : s.GatesKept t) : t.EntersBehindGates := by
  obtain ⟨hphase, hmode, hfault⟩ := hk.phase
  obtain ⟨hfuel, hinhibit⟩ := hk.inputs
  unfold State.EntersBehindGates
  rwa [hphase, hmode, hfault, hfuel, hinhibit, hk.gco]

/-- SDO drives from OPERATING entry on what the state of GCO asks for. -/
theorem sdoOnOperating_behindGates (h : s.EntersBehindGates) : (sdoOnOperating s).DemandBehindGates := by
  obtain ⟨hphase, hmode, hg, hfl, hin⟩ := h
  have hop : s.operating = true := by simp [State.operating, hphase]
  refine (demandBehindGates_iff _).mpr ⟨⟨⟨⟨?_, fun hl => ?_⟩, fun _ => hmode, fun _ => rfl⟩, ?_⟩, hfl, hin⟩
  · exact hop.symm
  · cases hl
  · exact (hop ▸ hg : s.gco.Gated s.operating s.sup.configFault)

theorem operatingTakes_gatesKept (order : List Taker) {y : Taker} (hsdo : y ≠ .sdo) (hgco : y ≠ .gco) (s : State) :
    s.GatesKept (operatingTakes order y s) := by
  cases y with
  | sdo => exact absurd rfl hsdo
  | gco => exact absurd rfl hgco
  | csc => exact gatesKept_byBlocks.cscOnOperating order s
  | cbu => exact gatesKept_byBlocks.cbuOnOperating s
  | alu => exact recomputeRelays_gatesKept s
  | sup => exact gatesKept_passed.trans (onSup_gatesKept rfl rfl rfl) (updateDormantDwell_gatesKept _)
  | _ => exact gatesKept_passed.refl s

theorem enterOperating_behindGates (order : List Taker) (hs : s.sup.phase = .listen ∨ s.sup.phase = .check) :
    s.BehindGatesKept (enterOperating order s) := fun h => by
  have hawake : s.awake = true := by rcases hs with hs | hs <;> simp [State.awake, hs]
  have hop : s.operating = false := by rcases hs with hs | hs <;> simp [State.operating, hs]
  obtain ⟨⟨⟨-, hmode, -⟩, hg⟩, hfl, hin⟩ := (demandBehindGates_iff s).mp h
  rw [hop] at hg
  have henters : (s.onSup fun x => { x with phase := .operating }).EntersBehindGates :=
    ⟨rfl, hmode hawake, hg.of_not_demanding hg.resting _ _, hfl, hin⟩
  have hsettle : ∀ u : State, u.EntersBehindGates → (gcoOnOperating u).EntersBehindGates :=
    fun u ⟨hphase, hmode, hg, hinputs⟩ => ⟨hphase, hmode, hg.congr rfl rfl rfl rfl rfl id rfl rfl, hinputs⟩
  rw [enterOperating_eq]
  refine (fan_establishes order (I := State.EntersBehindGates) (P := fun u => u.DemandBehindGates ∧ u.EntersBehindGates)
    .sdo (by decide) (fun y _ hne u hu => ?_) (fun u hu => ⟨sdoOnOperating_behindGates hu, hu⟩) (fun y _ u hu => ?_) _
    (henters.kept (gatesKept_passed.quiet (operatingNotes_quiet s)))).1
  · by_cases hgco : y = .gco
    · subst hgco; exact hsettle u hu
    · exact hu.kept (operatingTakes_gatesKept order hne hgco u)
  · by_cases hsdo : y = .sdo
    · subst hsdo; exact ⟨sdoOnOperating_behindGates hu.2, hu.2⟩
    · by_cases hgco : y = .gco
      · subst hgco; exact ⟨hu.1.fields rfl rfl rfl rfl rfl id rfl rfl, hsettle u hu.2⟩
      · have hk := operatingTakes_gatesKept order hsdo hgco u
        exact ⟨hu.1.kept hk, hu.2.kept hk⟩

/-! ## DORMANT entry -/

/-- SDO and SUP are asleep, and GCO's fields are in order for a station that was awake or not. -/
def State.FallsAsleepBehindGates (s : State) : Prop :=
  s.sdo.live = false ∧ s.sdo.relays = .start ∧ s.sup.phase = .dormant ∧ s.gco.Gated true s.sup.configFault ∧
    s.gco.fuelLow = s.alu.effFuel ∧ s.gco.inhibit = s.alu.effInhibit

theorem State.FallsAsleepBehindGates.of_parts (h : s.FallsAsleepBehindGates) (hparts : t.gateParts = s.gateParts) :
    t.FallsAsleepBehindGates := by
  obtain ⟨hlive, hrelays, hrest⟩ := h
  simp only [State.gateParts, Prod.mk.injEq, hlive, Bool.false_eq_true, if_false] at hparts
  obtain ⟨hgco, hfuel, hinhibit, hphase, -, hfault, hlive', hrelays'⟩ := hparts
  unfold State.FallsAsleepBehindGates
  rw [hgco, hfuel, hinhibit, hphase, hfault]
  simp only [hlive', Bool.false_eq_true, if_false, Option.some.injEq] at hrelays'
  exact ⟨hlive', hrelays'.trans hrelays, hrest⟩

/-- GCO takes the DORMANT entry: a demand state and a rest end. -/
theorem gcoOnDormant_behindGates (h : s.FallsAsleepBehindGates) (order : List Taker) :
    (gcoOnDormant order s).FallsAsleepBehindGates ∧
      ((gcoOnDormant order s).gco.state = .idle ∨ (gcoOnDormant order s).gco.state = .locked) := by
  obtain ⟨hlive, hrelays, hphase, hg, hinputs⟩ := h
  have hmove : ∀ (f : Gco → Gco) (logs : List (LogKind × Nat × Nat)), (f s.gco).Gated true s.sup.configFault →
      (f s.gco).fuelLow = s.gco.fuelLow → (f s.gco).inhibit = s.gco.inhibit →
      (gcoMove order f logs s).FallsAsleepBehindGates := fun f logs hf hfl hin =>
    State.FallsAsleepBehindGates.of_parts (s := s.onGco f)
      ⟨hlive, hrelays, hphase, hf, hfl.trans hinputs.1, hin.trans hinputs.2⟩
      (gcoHand_relay order s.gco false none logs (s := s.onGco f) fun hl => by rw [State.onGco_sdo, hlive] at hl; cases hl).1
  have hstate := (gcoOnDormant_gco order s).1
  refine ⟨?_, by rw [hstate]; cases s.gco.state <;> simp [GenState.asleep]⟩
  unfold gcoOnDormant
  cases hcase : s.gco.state
  case demandWait | demandRun =>
    exact hmove _ _ (hg.depart_idle (by simp [hcase, GenState.demanding]) _) rfl rfl
  case runRest =>
    exact hmove _ _ (.of_idle rfl (hg.lockSet_of_ne (by simp [hcase])) (hg.demand_of_not (by simp [hcase, GenState.demanding]))
      (hg.startAt_of_ne (by simp [hcase])) rfl) rfl rfl
  all_goals exact ⟨hlive, hrelays, hphase, hg.congr rfl rfl rfl rfl rfl id rfl rfl, hinputs⟩

theorem dormantTakes_gatesKept (order : List Taker) {y : Taker} (hy : y ≠ .gco) (s : State) :
    s.GatesKept (dormantTakes order y s) := by
  have hquiet : ∀ {t : State}, s.Quiet t → s.GatesKept t := gatesKept_passed.quiet
  cases y with
  | gco => exact absurd rfl hy
  | mch => exact gatesKept_passed.trans (hquiet (onMch_quiet _ s)) (takeConditions_gatesKept order _ _)
  | sac => exact hquiet (onSac_quiet _ s)
  | csc => exact hquiet (onCsc_quiet _ s)
  | pli => exact gatesKept_passed.trans (hquiet (onPli_quiet _ s)) (takeCondition_gatesKept order _ _)
  | cbu => exact hquiet (onCbu_quiet _ s)
  | rot =>
    refine gatesKept_passed.trans ?_ (onRot_gatesKept _ _)
    exact Passed.ite (gatesKept_passed.trans (onRot_gatesKept _ s) (rectDrive_gatesKept _)) (enterRect_gatesKept order _ s)
  | alu => exact onAlu_gatesKept rfl rfl
  | _ => exact gatesKept_passed.refl s

theorem fallAsleep_behindGates (order : List Taker) (s : State) : s.BehindGatesKept (fallAsleep order s) := fun h => by
  obtain ⟨⟨-, hg⟩, hfl, hin⟩ := (demandBehindGates_iff s).mp h
  have hgated : s.gco.Gated true s.sup.configFault := by
    cases hop : s.operating with
    | true => rwa [hop] at hg
    | false => rw [hop] at hg; exact hg.of_not_demanding hg.resting _ _
  have hrelays := recomputeRelays_gatesKept (s.onSup (supSleep s.wakeTime))
  have hstart : ((recomputeRelays (s.onSup (supSleep s.wakeTime))).onSdo sdoOnDormant).FallsAsleepBehindGates := by
    obtain ⟨hphase, -, hfault⟩ := hrelays.phase
    obtain ⟨hfuel, hinhibit⟩ := hrelays.inputs
    refine ⟨rfl, rfl, hphase, ?_, ?_, ?_⟩ <;>
      simp only [State.onSdo_gco, State.onSdo_alu, State.onSdo_sup, hrelays.gco, hfault, hfuel, hinhibit]
    · exact hgated
    · exact hfl
    · exact hin
  have hdormant : (dormantEntry order (recomputeRelays (s.onSup (supSleep s.wakeTime)))).DemandBehindGates := by
    rw [dormantEntry_eq]
    have hboth := fan_establishes order (I := State.FallsAsleepBehindGates)
      (P := fun u => u.FallsAsleepBehindGates ∧ (u.gco.state = .idle ∨ u.gco.state = .locked)) .gco (by decide)
      (f := dormantTakes order) (takers := dormantTakers)
      (fun y _ hne u hu => hu.of_parts (dormantTakes_gatesKept order hne u).1)
      (fun u hu => gcoOnDormant_behindGates hu order) (fun y _ u hu => by
        by_cases hne : y = .gco
        · subst hne; exact gcoOnDormant_behindGates hu.1 order
        · have hk := dormantTakes_gatesKept order hne u
          exact ⟨hu.1.of_parts hk.1, by rw [hk.gco]; exact hu.2⟩) _ hstart
    obtain ⟨⟨hlive, hrelays, hphase, hg, hinputs⟩, hrest⟩ := hboth
    exact behindGates_resting (by simp [State.operating, hphase]) hlive hrelays (by simp [State.awake, hphase])
      (hg.of_not_demanding hrest _ _) hinputs.1 hinputs.2
  exact (gatesKept_passed.quiet (triggerWrite_quiet _)).behind hdormant

/-! ## Resets and LOAD -/

theorem resetNow_behindGates (kind : ResetKind) (s : State) : (resetNow kind s).DemandBehindGates := by
  unfold resetNow
  split
  · refine behindGates_resting rfl rfl rfl (fun h => by cases h) ?_ rfl rfl
    cases hlock : s.gco.lockSet with
    | true => exact .of_locked (by simp [warmReset, hlock]) (by simp [warmReset, hlock]) rfl rfl rfl
    | false => exact .of_idle (by simp [warmReset, hlock]) (by simp [warmReset, hlock]) rfl rfl rfl
  · exact behindGates_resting rfl rfl rfl (fun h => by cases h) (.of_idle rfl rfl rfl rfl rfl) rfl rfl

theorem gcoRetained_gated {g : Gco} {fault : Bool} (h : g.Gated false fault) (v : Option Retained) :
    (gcoRetained v g).Gated false fault := by
  have hdemand := h.demand_of_not (by rcases h.resting with hs | hs <;> simp [hs, GenState.demanding])
  have hstart := h.startAt_of_ne (by rcases h.resting with hs | hs <;> simp [hs])
  have hrest := h.restAt_of_ne (by rcases h.resting with hs | hs <;> simp [hs])
  cases v with
  | none => exact .of_idle rfl rfl hdemand hstart hrest
  | some r =>
    cases hlock : r.lockSet with
    | true => exact .of_locked (by simp [gcoRetained, hlock]) hlock hdemand hstart hrest
    | false => exact .of_idle (by simp [gcoRetained, hlock]) hlock hdemand hstart hrest

/-- The settings that LOAD takes: the record's, or the built-in ones. -/
def loadedSettings (found : Nat → Found) : Settings :=
  match found 0 with
  | .inr b => loadSettings b
  | .inl _ => .builtIn

/-- The state with the settings and the retained quantities that LOAD takes. -/
def loadTaken (found : Nat → Found) (s : State) : State :=
  takeRetained (loadedSettings found).sac (retainedFrom (found 13)) (s.onSettings fun _ => loadedSettings found)

theorem takeRetained_changedOnly (a : SacSettings) (v : Option Retained) (s : State) :
    s.ChangedOnly [.sac, .csc, .rot, .gco] (takeRetained a v s) :=
  .ite (.refl s _) ((((onSac_changedOnly _ s).mono rfl).trans ((onCsc_changedOnly _ _).mono rfl)).trans
    (((onRot_changedOnly _ _).mono rfl).trans ((onGco_changedOnly _ _).mono rfl)))

theorem takeRetained_gco (a : SacSettings) (v : Option Retained) (s : State) :
    (takeRetained a v s).gco = if s.sup.resetKind.keepsRam then s.gco else gcoRetained v s.gco := by
  unfold takeRetained; split <;> rfl

theorem loadBlocks_sdo (found : Nat → Found) (s : State) : (loadBlocks found s).sdo = sdoAtLoad found s.sdo :=
  congrArg (sdoAtLoad found) (takeRetained_changedOnly (loadedSettings found).sac (retainedFrom (found 13))
    (s.onSettings fun _ => loadedSettings found)).sdo

theorem loadBlocks_alu (found : Nat → Found) (s : State) :
    (loadBlocks found s).alu = { s.alu with subValues := (loadedSettings found).alu.subs.map fun _ => false } :=
  congrArg (fun a : Alu => ({ a with subValues := (loadedSettings found).alu.subs.map fun _ => false } : Alu))
    (takeRetained_changedOnly (loadedSettings found).sac (retainedFrom (found 13))
      (s.onSettings fun _ => loadedSettings found)).alu

theorem loadBlocks_gco (found : Nat → Found) (s : State) :
    (loadBlocks found s).gco = if s.sup.resetKind.keepsRam then s.gco else gcoRetained (retainedFrom (found 13)) s.gco :=
  takeRetained_gco (loadedSettings found).sac (retainedFrom (found 13)) (s.onSettings fun _ => loadedSettings found)

theorem loadTaken_sup (found : Nat → Found) (s : State) : (loadTaken found s).sup = s.sup :=
  (takeRetained_changedOnly (loadedSettings found).sac (retainedFrom (found 13))
    (s.onSettings fun _ => loadedSettings found)).sup

theorem loadBlocks_phase (found : Nat → Found) (s : State) : (loadBlocks found s).sup.phase = s.sup.phase :=
  Eq.trans (b := (loadTaken found s).sup.phase) rfl (congrArg Sup.phase (loadTaken_sup found s))

theorem loadBlocks_behindGates (found : Nat → Found) (hs : s.sup.phase = .load) :
    s.BehindGatesKept (loadBlocks found s) := fun h => by
  have hop : s.operating = false := by simp [State.operating, hs]
  have hphase := loadBlocks_phase found s
  obtain ⟨⟨⟨hwait, -, -⟩, hg⟩, hfl, hin⟩ := (demandBehindGates_iff s).mp h
  have hlive : s.sdo.live = false := hwait.1.trans hop
  rw [hop] at hg
  have hinputs : ((loadBlocks found s).gco.Gated false s.sup.configFault) ∧
      (loadBlocks found s).gco.fuelLow = s.gco.fuelLow ∧ (loadBlocks found s).gco.inhibit = s.gco.inhibit := by
    rw [loadBlocks_gco]
    split
    · exact ⟨hg, rfl, rfl⟩
    · refine ⟨gcoRetained_gated hg _, ?_, ?_⟩ <;> cases retainedFrom (found 13) <;> rfl
  obtain ⟨hgated, hfl', hin'⟩ := hinputs
  refine behindGates_resting ?_ ?_ ?_ ?_ (hgated.of_not_demanding hgated.resting _ _) ?_ ?_
  · rw [State.operating, hphase, hs]; rfl
  · rw [loadBlocks_sdo]; exact hlive
  · rw [loadBlocks_sdo]; exact hwait.2 hlive
  · rw [State.awake, hphase, hs]; simp
  · rw [hfl', loadBlocks_alu]; exact hfl
  · rw [hin', loadBlocks_alu]; exact hin

/-- The end of LOAD before LISTEN is entered: what LOAD read, the entries, and a write that waited (R176). -/
def loadNotes (programmed : List (Nat × Byte)) (silent : List Nat) (s : State) : State :=
  let s := s.onStore fun m => storeProgram m programmed
  let found := readRecord s.store silent
  let s := loadBlocks found s
  let s := logEntry .start 0 (twoParts s.sup.resetKind.code s.sup.startCause.code) s
  beginPendingWrite ((storeEntries found).foldl (fun s v => logEntry .store 0 v s) s)

theorem endLoad_eq (order : List Taker) (programmed : List (Nat × Byte)) (silent : List Nat) (s : State) :
    endLoad order programmed silent s = listenEntry order false (loadNotes programmed silent s) := rfl

/-- The entries and the write change nothing of what LOAD gave the blocks. -/
theorem endLoad_quiet (programmed : List (Nat × Byte)) (silent : List Nat) (s : State) :
    (loadBlocks (readRecord (storeProgram s.store programmed) silent)
      (s.onStore fun m => storeProgram m programmed)).Quiet (loadNotes programmed silent s) :=
  ((logEntry_quiet _ _ _ _).trans (foldl_quiet (fun _ _ => logEntry_quiet _ _ _ _) _ _)).trans
    (beginPendingWrite_quiet _)

theorem endLoad_behindGates (order : List Taker) (programmed : List (Nat × Byte)) (silent : List Nat)
    (hs : s.sup.phase = .load) : s.BehindGatesKept (endLoad order programmed silent s) := fun h => by
  have hquiet := endLoad_quiet programmed silent s
  have hload := loadBlocks_behindGates (readRecord (storeProgram s.store programmed) silent)
    (s := s.onStore fun m => storeProgram m programmed) hs
  rw [endLoad_eq]
  refine listenEntry_behindGates ((gatesKept_passed.quiet hquiet).behind (hload h)) ?_ order false
  rw [State.operating, hquiet.phase, loadBlocks_phase]
  simp [hs]

theorem behindGates_byAll : CarriedByAll State.BehindGatesKept where
  toCarried := behindGates_carried
  note order station seq n hn _ s := behindGates_carried.takeNote_of_peers onPtb_behindGates order station seq hn s
  age order s := behindGates_carried.ageRecords_of_peers onPtb_behindGates order s
  expire n s := behindGates_carried.expireIntent_of_peers onPtb_behindGates n s
  forget order p s := behindGates_carried.forgetRecord_of_peers onPtb_behindGates order p s
  wake order cause _ hs := wakeUp_behindGates order cause hs
  check hs n h := h.onSup (by simp [State.operating, hs]) rfl fun _ => h.2.2.1 (by simp [State.awake, hs])
  operating order _ hs := enterOperating_behindGates order hs
  dormant order s := by
    refine behindGates_carried.iteRefl (Passed.ite ?_ ?_)
    · exact behindGates_carried.trans (behindGates_carried.quiet (enqueue_quiet _ _ s))
        (onSup_gatesKept rfl rfl rfl).behind
    · exact behindGates_carried.trans (onSup_gatesKept rfl rfl rfl).behind
        (behindGates_carried.takeCondition order (by decide) _)
  tick order s h := h.gcoTick order
  startFailure order _ hs h := h.startFailure hs order
  restEnd order _ hs h := h.restEnd hs order
  settle order s h := h.settle order
  test order _ _ _ ht h := h.test ht
  clear order _ _ ht h := h.clear ht
  ramp order n s := Passed.ite
    (behindGates_carried.trans (onRot_gatesKept _ s).behind (writeTarget_gatesKept _ _ _).behind)
    (behindGates_carried.trans (writeTarget_gatesKept _ _ _).behind (behindGates_carried.rect order _ _))
  sleep order s _ := fallAsleep_behindGates order s
  reset kind s _ := resetNow_behindGates kind s
  straps hs n h := h.onSup (by simp [State.operating, hs]) rfl fun hawake => by cases hawake
  load order programmed silent _ hs := endLoad_behindGates order programmed silent hs

/-- Settles O14: every operation keeps the gates, and with them every step. -/
theorem aDemandStandsOnlyBehindItsGates : Obligations.ADemandStandsOnlyBehindItsGates :=
  fun _ _ h hnext => behindGates_byAll.step hnext h

end Sys2Proof.Machine
end

section
/-! SUPPORT. Relations that GCO's fields do not enter: what every event of GCO carries of them. -/
namespace Sys2Proof.Machine

set_option Elab.async false

variable {s t u : State}

/-- A relation that a changed point carries, that reads no field of GCO, nor the relay of the demand, nor the two inputs of
GCO. -/
structure BlindToGco (R : State → State → Prop) : Prop extends Passed R where
  point (order : List Taker) {id : Nat} (hid : 1 ≤ id) (p : Point) (s : State) : R s (handPoint order id p s)
  onGco (f : Gco → Gco) (s : State) : R s (s.onGco f)
  demand (v : Bool) (s : State) : R s (writeRelay .genDemand v s)
  fuelTaken (fn eff : Bool) (s : State) : R s (s.onAlu fun a => { a with fuelFn := fn, effFuel := eff })
  inhibitTaken (eff : Bool) (s : State) : R s (s.onAlu fun a => { a with effInhibit := eff })

namespace BlindToGco

variable {R : State → State → Prop} (h : BlindToGco R)
include h

theorem takeCondition (order : List Taker) {id : Nat} (hid : 1 ≤ id) (s : State) : R s (takeCondition order id s) :=
  h.iteRefl (h.point order hid _ s)

theorem takeConditions (order : List Taker) {ids : List Nat} (hids : ∀ id ∈ ids, 1 ≤ id) (s : State) :
    R s (takeConditions order ids s) := h.foldl (fun id hid s => h.takeCondition order (hids id hid) s) s

theorem hand (order : List Taker) (old : Gco) (adopted : Bool) (gen : Option (List Byte))
    (logs : List (LogKind × Nat × Nat)) (s : State) : R s (gcoHand order old adopted gen logs s) := by
  rw [gcoHand_eq]
  refine h.fan order (fun x _ u => ?_) s
  cases x with
  | sdo => exact h.reflIte (h.demand _ u)
  | pli => exact h.quiet (gcoTakes_pli_quiet ..)
  | log => exact h.foldl (fun e _ s => h.quiet (logEntry_quiet _ _ _ s)) u
  | alu => exact h.takeConditions order (by decide) u
  | sup => exact h.quiet (gcoTakes_sup_quiet ..)
  | _ => exact h.refl u

/-- GCO's fields changed, and then handed on. -/
theorem change (order : List Taker) (f : Gco → Gco) (old : Gco) (adopted : Bool) (gen : Option (List Byte))
    (logs : List (LogKind × Nat × Nat)) (s : State) : R s (gcoHand order old adopted gen logs (s.onGco f)) :=
  h.trans (h.onGco f s) (h.hand order old adopted gen logs _)

theorem move (order : List Taker) (f : Gco → Gco) (logs : List (LogKind × Nat × Nat)) (s : State) :
    R s (gcoMove order f logs s) := h.change order f _ _ _ _ s

theorem release (order : List Taker) (s : State) : R s (gcoRelease order s) := h.move order _ _ s

theorem raise (order : List Taker) (reason : DemandReason) (e : Option Nat) (s : State) :
    R s (gcoRaiseNow order reason e s) := h.move order _ _ s

theorem view (order : List Taker) (s : State) : R s (gcoOnView order s) := by
  unfold gcoOnView; split
  · exact h.iteRefl (h.release order s)
  · exact h.refl s

theorem hear (order : List Taker) (n : Nat) (b : Bool) (e : Nat) (s : State) : R s (gcoHear order n b e s) :=
  h.iteRefl (h.change order _ _ _ _ _ s)

theorem onFuel (order : List Taker) (s : State) : R s (gcoOnFuel order s) :=
  h.trans (h.onGco _ s) (h.iteRefl (h.release order _))

theorem onInhibit (order : List Taker) (s : State) : R s (gcoOnInhibit order s) :=
  h.trans (h.onGco _ s) (h.iteRefl (h.release order _))

theorem fuel (order : List Taker) (s : State) : R s (recomputeFuel order s) := by
  rw [recomputeFuel_eq]
  refine Passed.ite (h.trans (h.fuelTaken _ _ s) (h.fan order ?_ _)) (h.fuelTaken _ _ s)
  simp only [List.forall_mem_cons]
  exact ⟨h.takeCondition order (by decide), h.onFuel order, fun s => h.quiet (logEntry_quiet _ _ _ s),
    List.forall_mem_nil _⟩

theorem inhibit (order : List Taker) (s : State) : R s (recomputeInhibit order s) := by
  refine Passed.ite (h.trans (h.inhibitTaken _ s) (h.fan order ?_ _)) (h.inhibitTaken _ s)
  simp only [List.forall_mem_cons]
  exact ⟨h.onInhibit order, fun s => h.quiet (logEntry_quiet _ _ _ s), List.forall_mem_nil _⟩

theorem check (order : List Taker) (s : State) : R s (gcoCheck order s) := by
  refine h.trans (h.onGco (gcoDwells s) s) ?_
  unfold gcoCheck; dsimp only
  generalize s.onGco (gcoDwells s) = u
  split
  · split
    · exact h.iteRefl (h.raise order _ _ u)
    · exact h.refl u
  · exact h.iteRefl (h.raise order _ _ u)
  · split
    · exact Passed.ite (h.move order _ _ u) (h.trans (h.onGco _ u) (h.iteRefl (h.release order _)))
    · exact h.refl u
  · exact h.refl u

theorem tick (order : List Taker) (s : State) : R s (gcoTick order s) :=
  h.trans (h.onGco _ s) (h.iteRefl (h.check order _))

theorem startFailure (order : List Taker) (s : State) : R s (gcoStartFailure order s) := by
  unfold gcoStartFailure; exact h.change order _ _ _ _ _ s

theorem onDormant (order : List Taker) (s : State) : R s (gcoOnDormant order s) := by
  unfold gcoOnDormant; split
  · exact h.release order s
  · exact h.release order s
  · exact h.move order _ _ s
  · exact h.onGco _ s

theorem test (order : List Taker) {n : Nat} (ht : gcoTest order n s = .inr t) : R s t := by
  unfold gcoTest at ht
  dsimp only at ht
  split at ht
  · cases ht; exact h.iteRefl (h.release order s)
  · obtain ⟨-, ht⟩ := of_refuseIf ht
    obtain ⟨-, ht⟩ := of_refuseIf ht
    obtain ⟨-, ht⟩ := of_refuseIf ht
    obtain ⟨-, ht⟩ := of_refuseIf ht
    obtain ⟨-, ht⟩ := of_refuseIf ht
    obtain ⟨-, ht⟩ := of_refuseIf ht
    split at ht
    · rw [of_elseRefuse ht]; exact h.onGco _ s
    · cases ht; exact h.raise order _ _ s

theorem clear (order : List Taker) (ht : gcoClear order s = .inr t) : R s t := by
  obtain ⟨-, ht⟩ := of_refuseIf ht
  obtain ⟨-, ht⟩ := of_refuseIf ht
  obtain ⟨-, ht⟩ := of_refuseIf ht
  cases ht
  exact h.change order _ _ _ _ _ s

/-- With the blocks' own work, the mode and the subscriptions, a relation blind to GCO is one that every operation
carries. -/
theorem carried (hblocks : CarriedByBlocks R) (hmode : ∀ {s : State}, s.operating = true → ∀ {m : Mode}, m ≠ .dormant →
      R s (s.onSup fun x => { x with mode := m })) (hsubs : ∀ s, R s (recomputeSubs true s)) : Carried R where
  toCarriedByBlocks := hblocks
  mode := hmode
  subs := hsubs
  fuel := h.fuel
  inhibit := h.inhibit
  gcoView := h.view
  gcoKnowledge order s := h.move order _ _ s
  gcoHear := h.hear

end BlindToGco

end Sys2Proof.Machine
end

section
/-! SUPPORT. The alarm relays (R24, R167, R168, R170, R171, R174, R180): what keeps the demands, the subscriptions and the
relays, and what establishes each. -/
namespace Sys2Proof.Machine

set_option Elab.async false

variable {s t u : State} {w r d v : Prop}

/-! ## The subscriptions (R170) -/

/-- Each subscription holds the value that its sources give now. -/
def State.SubsHeld (s : State) : Prop := s.alu.subValues = s.settings.alu.subs.map s.subValue

theorem peerContributes_iff (sub : Subscription) (p : PeerRecord) :
    peerContributes sub p = true ↔ (p.state ≠ .lost ∧ (sub.tag, true) ∈ p.points) ∨
      (p.state = .lost ∧ ((sub.lostDefault = .on ∧ ∃ x ∈ p.points, x.1 = sub.tag) ∨
        (sub.lostDefault = .hold ∧ (sub.tag, true) ∈ p.points))) := by
  unfold peerContributes
  cases p.state
  case lost => cases sub.lostDefault <;> simp
  all_goals simp

theorem isFunction_eq_false {x : SubTarget} : x.isFunction = false ↔ x ≠ .fuelLowFn ∧ x ≠ .genInhibitFn := by
  cases x <;> simp [SubTarget.isFunction]

theorem subValue_eq_true (s : State) (sub : Subscription) : s.subValue sub = true ↔ sub.IsOn s := by
  have hown : (s.tagStates.any fun x => x.1 == sub.tag && x.2) = true ↔
      ∃ x ∈ s.owned, x.2 = sub.tag ∧ standing (pointGet s.alu.points x.1).state = true := by
    simp [State.tagStates]
  simp only [State.subValue, Bool.or_eq_true, Bool.and_eq_true, Bool.not_eq_true', hown, List.any_eq_true,
    peerContributes_iff, isFunction_eq_false, Subscription.IsOn, and_or_left, exists_or, or_assoc, and_assoc]

theorem subscriptionsHeld_iff (s : State) : s.SubscriptionsHeld ↔ s.SubsHeld := by
  have hvalue : ∀ (sub : Subscription) (b : Bool), (b = true ↔ sub.IsOn s) ↔ b = s.subValue sub := fun sub b => by
    rw [← subValue_eq_true]; exact Bool.eq_iff_iff.symm
  simp only [State.SubscriptionsHeld, State.SubsHeld, hvalue]
  rw [← List.forall₂_eq_eq_eq, List.forall₂_map_right_iff]
  exact ⟨fun h => h.flip, fun h => h.flip⟩

/-- The values of the subscriptions follow the records and the states of the owned tags. -/
theorem subValue_congr (hpeers : ∀ sub, t.ptb.peers.any (peerContributes sub) = s.ptb.peers.any (peerContributes sub))
    (htags : t.tagStates = s.tagStates) : t.subValue = s.subValue := by
  funext sub; rw [State.subValue, State.subValue, hpeers, htags]

theorem State.SubsHeld.length (h : s.SubsHeld) : s.alu.subValues.length = s.settings.alu.subs.length := by
  rw [h, List.length_map]

/-! ## The standing points -/

/-- Which points stand. -/
def standings (ps : List Point) : List Bool := ps.map fun p => standing p.state

theorem standing_pointGet (ps : List Point) (id : Nat) :
    standing (pointGet ps id).state = ((standings ps)[id - 1]?).getD false := by
  unfold pointGet standings
  rw [List.getElem?_map]
  cases ps[id - 1]? <;> rfl

theorem boundStands_eq (s : State) (f : Binding → Bool) :
    s.boundStands f = (s.settings.alu.points.zip (standings s.alu.points)).any fun x => f x.1.binding && x.2 := by
  rw [standings, List.zip_map_right, List.any_map]; rfl

theorem tagStates_eq (s : State) :
    s.tagStates = s.owned.map fun x => (x.2, ((standings s.alu.points)[x.1 - 1]?).getD false) := by
  simp only [State.tagStates, standing_pointGet]

/-- A point that stands as before leaves which points stand. -/
theorem standings_pointSet (ps : List Point) (id : Nat) (p : Point)
    (h : standing (pointGet ps id).state = standing p.state) : standings (pointSet ps id p) = standings ps := by
  rw [standings, pointSet, List.map_set]
  refine List.ext_getElem? fun i => ?_
  rw [List.getElem?_set]
  split
  · next hi =>
    subst hi
    rw [standing_pointGet] at h
    split
    · next hlt =>
      change id - 1 < (standings ps).length at hlt
      rw [List.getElem?_eq_getElem hlt] at h ⊢
      exact congrArg some h.symm
    · next hge => exact (List.getElem?_eq_none (not_lt.mp hge)).symm
  · rfl

/-- The owned tags are of points from the first on. -/
theorem ownedFrom_pos (i : Nat) (seen : List (Nat × Nat)) (ps : List PointConfig) (hi : 1 ≤ i)
    (hseen : ∀ x ∈ seen, 1 ≤ x.1) : ∀ x ∈ ownedFrom i seen ps, 1 ≤ x.1 := by
  induction ps generalizing i seen with
  | nil => exact hseen
  | cons p ps ih =>
    unfold ownedFrom
    split
    · split
      · refine ih (i + 1) _ (by omega) fun x hx => ?_
        rcases List.mem_append.mp hx with hx | hx
        · exact hseen x hx
        · rw [List.mem_singleton.mp hx]; exact hi
      · exact ih (i + 1) seen (by omega) hseen
    · exact ih (i + 1) seen (by omega) hseen

theorem owned_pos (s : State) : ∀ x ∈ s.owned, 1 ≤ x.1 := ownedFrom_pos 1 [] _ (le_refl 1) (by simp)

/-- A point that owns no tag leaves the states of the owned tags. -/
theorem tagStates_pointSet {id : Nat} (hid : 1 ≤ id) (p : Point) (h : s.ownsTag id = false) :
    (s.onAlu fun a => { a with points := pointSet a.points id p }).tagStates = s.tagStates := by
  refine List.map_congr_left fun x hx => ?_
  have hne : x.1 ≠ id := by
    rintro rfl
    simp only [State.ownsTag, List.any_eq_false, beq_iff_eq] at h
    exact h x hx rfl
  have hpos := owned_pos s x hx
  exact congrArg (fun q : Point => (x.2, standing q.state)) (pointGet_pointSet_other p (by omega))

/-! ## The clauses, and what they read -/

/-- The four relays of ALU's stand as it demands. -/
def Relays.FollowsAlu (x : Relays) (a : AluDemands) : Prop :=
  x.rla = a.rla ∧ x.rlb = a.rlb ∧ x.out1 = a.out1 ∧ x.out2 = a.out2

/-- The clauses of O15, of which four can be left out: that SDO drives in OPERATING (`w`), that ALU runs while the station
is awake (`r`), that its demands are those of now (`d`) and that the subscriptions hold their values (`v`). -/
structure State.AlarmsHold (w r d v : Prop) (s : State) : Prop where
  liveOperating : s.sdo.live = true → s.operating = true
  operatingLive : w → s.operating = true → s.sdo.live = true
  start : s.sdo.live = false → s.sdo.relays = .start
  waits : s.WaitsInOperating
  mode : s.awake = true → s.sup.mode ≠ .dormant
  runs : r → s.awake = true → s.alu.running = true
  values : s.starting = false ∨ s.alu.running = true → s.alu.subValues.length = s.settings.alu.subs.length
  held : v → s.alu.running = true → s.SubsHeld
  demands : d → s.alu.running = true → s.alu.demands = s.aluDemandsNow
  follow : s.sdo.live = true → s.sdo.relays.FollowsAlu s.alu.demands

theorem alarmRelaysFollow_iff (s : State) : s.AlarmRelaysFollow ↔ s.AlarmsHold True True True True := by
  constructor
  · rintro ⟨⟨hlive, hstart⟩, hwaits, hawake, hvalues, hrun, hfollow⟩
    exact { liveOperating := fun h => hlive ▸ h, operatingLive := fun _ h => hlive.trans h, start := hstart,
            waits := hwaits, mode := fun h => (hawake h).1, runs := fun _ h => (hawake h).2, values := fun h => h.elim hvalues fun h =>
              ((subscriptionsHeld_iff s).mp (hrun h).1).length,
            held := fun _ h => (subscriptionsHeld_iff s).mp (hrun h).1, demands := fun _ h => (hrun h).2, follow := hfollow }
  · intro h
    exact ⟨⟨Bool.eq_iff_iff.mpr ⟨h.liveOperating, h.operatingLive trivial⟩, h.start⟩, h.waits,
      fun ha => ⟨h.mode ha, h.runs trivial ha⟩, fun hs => h.values (.inl hs),
      fun hr => ⟨(subscriptionsHeld_iff s).mpr (h.held trivial hr), h.demands trivial hr⟩, h.follow⟩

/-- Clauses left out. -/
theorem State.AlarmsHold.mono {w' r' d' v' : Prop} (h : s.AlarmsHold w r d v) (hw : w' → w) (hr : r' → r) (hd : d' → d)
    (hv : v' → v) : s.AlarmsHold w' r' d' v' :=
  { h with operatingLive := fun x => h.operatingLive (hw x), runs := fun x => h.runs (hr x)
           held := fun x => h.held (hv x), demands := fun x => h.demands (hd x) }

/-- What the clauses read of a state; of the relays that SDO drives, ALU's own. -/
structure AlarmView where
  settings : Settings
  peers : List PeerRecord
  points : List Point
  subValues : List Bool
  demands : AluDemands
  running : Bool
  phase : Phase
  mode : Mode
  dormantSince : Option Nat
  entryWait : Option Nat
  live : Bool
  relays : Relays

def State.alarmView (s : State) : AlarmView :=
  { settings := s.settings, peers := s.ptb.peers, points := s.alu.points, subValues := s.alu.subValues
    demands := s.alu.demands, running := s.alu.running, phase := s.sup.phase, mode := s.sup.mode
    dormantSince := s.sup.dormantSince, entryWait := s.sup.entryWait, live := s.sdo.live
    relays := if s.sdo.live then { s.sdo.relays with genDemand := false, rectEn := false } else s.sdo.relays }

theorem State.Quiet.alarmView (h : s.Quiet t) : t.alarmView = s.alarmView := by
  simp only [State.alarmView, h.settings, h.peers, h.points, h.subValues, h.demands, h.running, h.phase, h.mode,
    h.dormantSince, h.entryWait, h.live, h.relays]

/-- The clauses hold where nothing that they read changes. -/
theorem State.AlarmsHold.kept (h : s.AlarmsHold w r d v) (hk : t.alarmView = s.alarmView) : t.AlarmsHold w r d v := by
  simp only [State.alarmView, AlarmView.mk.injEq] at hk
  obtain ⟨hset, hpeers, hpoints, hsubs, hdem, hrun, hphase, hmode, hsince, hwait, hlive, hrelays⟩ := hk
  have hop : t.operating = s.operating := by rw [State.operating, State.operating, hphase]
  have hawake : t.awake = s.awake := by rw [State.awake, State.awake, hphase]
  have hstarting : t.starting = s.starting := by rw [State.starting, State.starting, hphase]
  have hvalue : t.subValue = s.subValue := by
    refine subValue_congr (by simp [hpeers]) ?_
    rw [State.tagStates, State.tagStates, State.owned, State.owned, hset, hpoints]
  have hnow : t.aluDemandsNow = s.aluDemandsNow := by
    simp only [State.aluDemandsNow, State.boundStands, State.configuredPoints, State.targetValue, State.subs, hop, hmode,
      hset, hpoints, hsubs]
  refine ⟨?_, ?_, fun hl => ?_, ?_, ?_, ?_, ?_, ?_, ?_, fun hl => ?_⟩
  · rw [hlive, hop]; exact h.liveOperating
  · rw [hlive, hop]; exact h.operatingLive
  · simp only [hl, hlive ▸ hl, Bool.false_eq_true, if_false] at hrelays
    rw [hrelays]; exact h.start (hlive ▸ hl)
  · rw [State.WaitsInOperating, hop, hsince, hwait]; exact h.waits
  · rw [hawake, hmode]; exact h.mode
  · rw [hawake, hrun]; exact h.runs
  · rw [hstarting, hset, hsubs, hrun]; exact h.values
  · rw [State.SubsHeld, hrun, hset, hsubs, hvalue]; exact h.held
  · rw [hrun, hdem, hnow]; exact h.demands
  · have hs : s.sdo.live = true := hlive ▸ hl
    simp only [hl, hs, if_true, Relays.mk.injEq] at hrelays
    have hf := h.follow hs
    rw [Relays.FollowsAlu] at hf ⊢
    obtain ⟨hrla, hrlb, -, -, hout1, hout2⟩ := hrelays
    simp_all

/-! ## The relays recomputed (R167) -/

/-- One of the four demands handed to SDO when it changes. -/
def driveChange (r : Relay) (old new : Bool) (s : State) : State := if old = new then s else writeRelay r new s

theorem recomputeRelays_eq (s : State) :
    recomputeRelays s =
      driveChange .out2 s.alu.demands.out2 s.aluDemandsNow.out2
        (driveChange .out1 s.alu.demands.out1 s.aluDemandsNow.out1
          (driveChange .rlb s.alu.demands.rlb s.aluDemandsNow.rlb
            (driveChange .rla s.alu.demands.rla s.aluDemandsNow.rla
              (s.onAlu fun a => { a with demands := s.aluDemandsNow })))) := rfl

/-- Of a state a demand handed to SDO changes the relays alone, and none while SDO drives nothing. -/
theorem driveChange_rest (x : Relay) (old new : Bool) (s : State) :
    (driveChange x old new s).alu = s.alu ∧ (driveChange x old new s).sdo.live = s.sdo.live ∧
      (s.sdo.live = false → (driveChange x old new s).sdo.relays = s.sdo.relays) := by
  unfold driveChange
  split
  · exact ⟨rfl, rfl, fun _ => rfl⟩
  · exact ⟨rfl, by rw [writeRelay_sdo], fun hl => by rw [writeRelay_of_not_live x new hl]⟩

theorem relayGet_driveChange_other {x y : Relay} (h : y ≠ x) (old new : Bool) (s : State) :
    relayGet (driveChange x old new s).sdo.relays y = relayGet s.sdo.relays y := by
  unfold driveChange
  split
  · rfl
  · rw [relayGet_writeRelay, if_neg fun hc => h hc.1]

theorem relayGet_driveChange_same {x : Relay} {old : Bool} (hl : s.sdo.live = true) (h : relayGet s.sdo.relays x = old)
    (new : Bool) : relayGet (driveChange x old new s).sdo.relays x = new := by
  unfold driveChange
  split
  · next heq => exact h.trans heq
  · rw [relayGet_writeRelay, if_pos ⟨rfl, hl⟩]

theorem recomputeRelays_rest (s : State) :
    (recomputeRelays s).alu = { s.alu with demands := s.aluDemandsNow } ∧
      (recomputeRelays s).sdo.live = s.sdo.live ∧
      (s.sdo.live = false → (recomputeRelays s).sdo.relays = s.sdo.relays) := by
  rw [recomputeRelays_eq]
  simp only [driveChange_rest, State.onAlu_alu, State.onAlu_sdo, true_and]
  intro hl
  have hstep : ∀ (x : Relay) (old new : Bool) (u : State), u.sdo.live = false →
      (driveChange x old new u).sdo.live = false ∧ (driveChange x old new u).sdo.relays = u.sdo.relays :=
    fun x old new u hu => ⟨(driveChange_rest x old new u).2.1.trans hu, (driveChange_rest x old new u).2.2 hu⟩
  obtain ⟨hl1, h1⟩ := hstep .rla s.alu.demands.rla s.aluDemandsNow.rla (s.onAlu fun a => { a with demands := s.aluDemandsNow }) hl
  obtain ⟨hl2, h2⟩ := hstep .rlb s.alu.demands.rlb s.aluDemandsNow.rlb _ hl1
  obtain ⟨hl3, h3⟩ := hstep .out1 s.alu.demands.out1 s.aluDemandsNow.out1 _ hl2
  exact ((hstep .out2 _ _ _ hl3).2.trans h3).trans (h2.trans h1)

theorem recomputeRelays_follow (h : s.sdo.relays.FollowsAlu s.alu.demands) (hl : s.sdo.live = true) :
    (recomputeRelays s).sdo.relays.FollowsAlu s.aluDemandsNow := by
  obtain ⟨hrla, hrlb, hout1, hout2⟩ := h
  have hlive : ∀ (x : Relay) (old new : Bool) (u : State), u.sdo.live = true → (driveChange x old new u).sdo.live = true :=
    fun x old new u hu => (driveChange_rest x old new u).2.1.trans hu
  rw [recomputeRelays_eq]
  generalize hx : (s.onAlu fun a => { a with demands := s.aluDemandsNow }) = x
  have hxl : x.sdo.live = true := hx ▸ hl
  have hxr : x.sdo.relays = s.sdo.relays := hx ▸ rfl
  have hl1 := hlive .rla s.alu.demands.rla s.aluDemandsNow.rla x hxl
  have hl2 := hlive .rlb s.alu.demands.rlb s.aluDemandsNow.rlb _ hl1
  have hl3 := hlive .out1 s.alu.demands.out1 s.aluDemandsNow.out1 _ hl2
  refine ⟨?_, ?_, ?_, ?_⟩
  · change relayGet _ .rla = _
    rw [relayGet_driveChange_other (by decide), relayGet_driveChange_other (by decide),
      relayGet_driveChange_other (by decide), relayGet_driveChange_same hxl (by rw [hxr]; exact hrla)]
  · change relayGet _ .rlb = _
    rw [relayGet_driveChange_other (by decide), relayGet_driveChange_other (by decide),
      relayGet_driveChange_same hl1 (by rw [relayGet_driveChange_other (by decide), hxr]; exact hrlb)]
  · change relayGet _ .out1 = _
    rw [relayGet_driveChange_other (by decide), relayGet_driveChange_same hl2 (by
      rw [relayGet_driveChange_other (by decide), relayGet_driveChange_other (by decide), hxr]; exact hout1)]
  · change relayGet _ .out2 = _
    rw [relayGet_driveChange_same hl3 (by
      rw [relayGet_driveChange_other (by decide), relayGet_driveChange_other (by decide),
        relayGet_driveChange_other (by decide), hxr]; exact hout2)]

/-- The relays recomputed stand as the points and subscriptions of now demand. -/
theorem State.AlarmsHold.recomputeRelays (h : s.AlarmsHold w r d v) : (recomputeRelays s).AlarmsHold w r True v := by
  have hrest := recomputeRelays_changedOnly s
  obtain ⟨halu, hlive, hrelays⟩ := recomputeRelays_rest s
  have hvalue : (Machine.recomputeRelays s).subValue = s.subValue := by
    refine subValue_congr (by simp [hrest.ptb]) ?_
    rw [State.tagStates, State.tagStates, State.owned, State.owned, hrest.settings, halu]
  have hnow : (Machine.recomputeRelays s).aluDemandsNow = s.aluDemandsNow := by
    simp only [State.aluDemandsNow, State.boundStands, State.configuredPoints, State.targetValue, State.subs,
      State.operating, hrest.sup, hrest.settings, halu]
  refine ⟨?_, ?_, fun hl => ?_, ?_, ?_, ?_, ?_, ?_, fun _ _ => ?_, fun hl => ?_⟩
  · rw [hlive, State.operating, hrest.sup]; exact h.liveOperating
  · rw [hlive, State.operating, hrest.sup]; exact h.operatingLive
  · rw [hrelays (hlive ▸ hl)]; exact h.start (hlive ▸ hl)
  · rw [State.WaitsInOperating, State.operating, hrest.sup]; exact h.waits
  · rw [State.awake, hrest.sup]; exact h.mode
  · rw [State.awake, hrest.sup, halu]; exact h.runs
  · rw [State.starting, hrest.sup, hrest.settings, halu]; exact h.values
  · rw [State.SubsHeld, hvalue, hrest.settings, halu]; exact h.held
  · rw [hnow, halu]
  · rw [halu]; exact recomputeRelays_follow (h.follow (hlive ▸ hl)) (hlive ▸ hl)

/-! ## The subscriptions recomputed (R171) -/

/-- Each subscription of a function of GCO holds the value that its sources give now. -/
def State.FunctionsHeld (s : State) : Prop := ∀ x ∈ s.subs, x.1.target.isFunction = true → x.2 = s.subValue x.1

theorem State.SubsHeld.functions (h : s.SubsHeld) : s.FunctionsHeld := fun x hx _ => by
  rw [State.subs, h, ← List.map_id s.settings.alu.subs, List.map_map, List.zip_map', List.mem_map] at hx
  obtain ⟨sub, -, rfl⟩ := hx
  rfl

theorem newSubValues_held {b : Bool} (hlen : s.alu.subValues.length = s.settings.alu.subs.length)
    (hfun : b = false → s.FunctionsHeld) : s.newSubValues b = s.settings.alu.subs.map s.subValue := by
  have heach : s.newSubValues b = s.subs.map fun x => s.subValue x.1 := by
    refine List.map_congr_left fun x hx => ?_
    split
    · next hc =>
      simp only [Bool.and_eq_true, Bool.not_eq_true'] at hc
      exact hfun hc.2 x hx hc.1
    · rfl
  rw [heach, ← Function.comp_def s.subValue, ← List.map_map, State.subs, List.map_fst_zip (by omega)]

theorem newSubValues_length (s : State) (b : Bool) (hlen : s.alu.subValues.length = s.settings.alu.subs.length) :
    (s.newSubValues b).length = s.settings.alu.subs.length := by
  simp [State.newSubValues, State.subs, hlen]

/-- The subscriptions recomputed hold the values of now; without the functions, when those hold them already. -/
theorem State.AlarmsHold.recomputeSubs (h : s.AlarmsHold w r d False) {b : Bool}
    (hfun : v → s.alu.running = true → b = false → s.FunctionsHeld) :
    (recomputeSubs b s).AlarmsHold w r True v := by
  have hvalues : (s.onAlu fun a => { a with subValues := s.newSubValues b }).AlarmsHold w r False v :=
    { h with
      values := fun hs => newSubValues_length s b (h.values hs)
      held := fun hv hr => newSubValues_held (h.values (.inr hr)) (hfun hv hr)
      demands := False.elim }
  exact (hvalues.kept (logSubChanges_quiet _ _).alarmView).recomputeRelays

end Sys2Proof.Machine
end

section
/-! SUPPORT. What the blocks' own work carries of the clauses of the alarm relays (R164, R167, R170, R171, R180). -/
namespace Sys2Proof.Machine

set_option Elab.async false

variable {s t u : State} {w r d v : Prop}

namespace State.AlarmsHold

theorem quiet (h : s.AlarmsHold w r d v) (hq : s.Quiet t) : t.AlarmsHold w r d v := h.kept hq.alarmView

theorem ofDemands (h : s.AlarmsHold w r True v) : s.AlarmsHold w r d v := { h with demands := fun _ => h.demands trivial }

theorem withoutHeld (h : s.AlarmsHold w r d v) : s.AlarmsHold w r d False := { h with held := False.elim }

theorem withoutDemands (h : s.AlarmsHold w r d v) : s.AlarmsHold w r False v := { h with demands := False.elim }

theorem and (h : s.AlarmsHold w r d False) (g : s.AlarmsHold w r False v) : s.AlarmsHold w r d v :=
  { h with held := g.held }

end State.AlarmsHold

/-! ## A changed point handed on (R164) -/

/-- What each taker of a changed point makes of the state. -/
def pointTakes (n : Nat) (old new : Point) (x : Taker) (s : State) : State :=
  match x with
  | .sdo => if standing old.state != standing new.state then recomputeRelays s else s
  | .pli => if standing old.state != standing new.state && s.ownsTag n then enqueuePoint (recomputeSubs false s) else s
  | .log => if pointLogged old.state new.state then logEntry .point 0 (twoParts n new.state.code) s else s
  | _ => s

theorem handPoint_eq (order : List Taker) (n : Nat) (new : Point) (s : State) :
    handPoint order n new s =
      fan order [.sdo, .pli, .log] (pointTakes n (pointGet s.alu.points n) new)
        (s.onAlu fun a => { a with points := pointSet a.points n new }) := rfl

/-- The takers of a changed point leave the clauses where they hold. -/
theorem State.AlarmsHold.pointTakes (h : s.AlarmsHold w r d v) (n : Nat) (old new : Point) (x : Taker) :
    (pointTakes n old new x s).AlarmsHold w r d v := by
  cases x with
  | sdo => exact Passed.ite (R := fun _ t => t.AlarmsHold w r d v) (s := s) h.recomputeRelays.ofDemands h
  | pli =>
    refine Passed.ite (R := fun _ t => t.AlarmsHold w r d v) (s := s) ?_ h
    have hsubs := h.withoutHeld.recomputeSubs (v := v) (b := false) fun hv hr _ => (h.held hv hr).functions
    exact hsubs.ofDemands.quiet (enqueuePoint_quiet _)
  | log => exact Passed.ite (R := fun _ t => t.AlarmsHold w r d v) (s := s) (h.quiet (logEntry_quiet _ _ _ s)) h
  | _ => exact h

/-- A point that stands as before. -/
theorem State.AlarmsHold.pointSteady (h : s.AlarmsHold w r d v) (n : Nat) (p : Point)
    (hp : standing (pointGet s.alu.points n).state = standing p.state) :
    (s.onAlu fun a => { a with points := pointSet a.points n p }).AlarmsHold w r d v := by
  have hstand := standings_pointSet s.alu.points n p hp
  have hvalue : (s.onAlu fun a => { a with points := pointSet a.points n p }).subValue = s.subValue :=
    subValue_congr (fun _ => rfl) (by
      rw [tagStates_eq, tagStates_eq]
      exact congrArg (fun l : List Bool => s.owned.map fun x => (x.2, (l[x.1 - 1]?).getD false)) hstand)
  have hbound : ∀ f, (s.onAlu fun a => { a with points := pointSet a.points n p }).boundStands f = s.boundStands f :=
    fun f => by
      rw [boundStands_eq, boundStands_eq]
      exact congrArg (fun l : List Bool => (s.settings.alu.points.zip l).any fun x => f x.1.binding && x.2) hstand
  refine { h with held := fun hv hr => ?_, demands := fun hd hr => ?_ }
  · rw [State.SubsHeld, hvalue]; exact h.held hv hr
  · refine (h.demands hd hr).trans ?_
    simp only [State.aluDemandsNow, hbound]; rfl

/-- What the functions of GCO hold by (R170): not the station's own tags. -/
def State.SameFunctions (s t : State) : Prop :=
  t.settings = s.settings ∧ t.ptb.peers = s.ptb.peers ∧ t.alu.subValues = s.alu.subValues ∧ t.alu.running = s.alu.running

theorem State.FunctionsHeld.same (h : s.FunctionsHeld) (hs : s.SameFunctions t) : t.FunctionsHeld := by
  obtain ⟨hset, hpeers, hsubs, -⟩ := hs
  intro x hx hf
  rw [State.subs, hset, hsubs] at hx
  rw [h x hx hf]
  simp [State.subValue, hf, hpeers]

theorem recomputeRelays_sameFunctions (s : State) : s.SameFunctions (recomputeRelays s) := by
  have hrest := recomputeRelays_changedOnly s
  obtain ⟨halu, -, -⟩ := recomputeRelays_rest s
  exact ⟨hrest.settings, by rw [hrest.ptb], by rw [halu], by rw [halu]⟩

/-- A changed point handed on leaves the clauses, whatever it does to the relays and to the owned tag. -/
theorem State.AlarmsHold.handPoint (h : s.AlarmsHold w r d v) (order : List Taker) {n : Nat} (hn : 1 ≤ n) (p : Point) :
    (handPoint order n p s).AlarmsHold w r d v := by
  rw [handPoint_eq]
  by_cases hmoved : standing (pointGet s.alu.points n).state = standing p.state
  · exact fan_induction order (fun x _ u hu => hu.pointTakes n _ p x) _ (h.pointSteady n p hmoved)
  have hmove : (standing (pointGet s.alu.points n).state != standing p.state) = true := by simpa using hmoved
  have hset : (s.onAlu fun a => { a with points := pointSet a.points n p }).AlarmsHold w r False False :=
    { h with held := False.elim, demands := False.elim }
  have hsdo : ∀ u, Machine.pointTakes n (pointGet s.alu.points n) p .sdo u = Machine.recomputeRelays u := fun u => if_pos hmove
  refine State.AlarmsHold.ofDemands (.and ?_ ?_)
  · exact fan_establishes order (I := State.AlarmsHold w r False False) .sdo (by decide)
      (fun x _ _ u hu => hu.pointTakes n _ p x) (fun u hu => by rw [hsdo]; exact hu.recomputeRelays)
      (fun x _ u hu => hu.pointTakes n _ p x) _ hset
  by_cases howns : s.ownsTag n = true
  · refine fan_establishes order (I := fun u => u.AlarmsHold w r False False ∧ s.SameFunctions u) .pli (by decide)
      (fun x _ hne u hu => ⟨hu.1.pointTakes n _ p x, ?_⟩) (fun u hu => ?_) (fun x _ u hu => hu.pointTakes n _ p x) _
      ⟨hset, rfl, rfl, rfl, rfl⟩
    · obtain ⟨hset, hpeers, hsubs, hrun⟩ := hu.2
      have hsame : u.SameFunctions (Machine.pointTakes n (pointGet s.alu.points n) p x u) := by
        cases x with
        | sdo => rw [hsdo]; exact recomputeRelays_sameFunctions u
        | pli => exact absurd rfl hne
        | log =>
          have hq : u.Quiet (Machine.pointTakes n (pointGet s.alu.points n) p .log u) :=
            .ite (logEntry_quiet _ _ _ u) (.refl u)
          exact ⟨hq.settings, hq.peers, hq.subValues, hq.running⟩
        | _ => exact ⟨rfl, rfl, rfl, rfl⟩
      obtain ⟨hset', hpeers', hsubs', hrun'⟩ := hsame
      exact ⟨hset'.trans hset, hpeers'.trans hpeers, hsubs'.trans hsubs, hrun'.trans hrun⟩
    · have hpli : Machine.pointTakes n (pointGet s.alu.points n) p .pli u = enqueuePoint (Machine.recomputeSubs false u) := by
        refine if_pos ?_
        rw [hmove, State.ownsTag, State.owned, hu.2.1]
        exact howns
      rw [hpli]
      have hsubs := hu.1.recomputeSubs (v := v) (b := false) fun hv hr _ =>
        (h.held hv (hu.2.2.2.2 ▸ hr)).functions.same hu.2
      exact hsubs.withoutDemands.quiet (enqueuePoint_quiet _)
  · refine fan_induction order (fun x _ u hu => hu.pointTakes n _ p x) _ ?_
    refine { h with held := fun hv hr => ?_, demands := False.elim }
    have hvalue : (s.onAlu fun a => { a with points := pointSet a.points n p }).subValue = s.subValue :=
      subValue_congr (fun _ => rfl) (tagStates_pointSet hn p (by simpa using howns))
    rw [State.SubsHeld, hvalue]
    exact h.held hv hr

/-! ## What the blocks' work and the operations carry -/

/-- The clauses hold after where they hold before. -/
def AlarmsCarried (w r d v : Prop) (s t : State) : Prop := s.AlarmsHold w r d v → t.AlarmsHold w r d v

theorem alarms_passed : Passed (AlarmsCarried w r d v) where
  trans h g hs := g (h hs)
  quiet hq h := h.quiet hq

theorem writeTarget_alarmView (x : Dac) (n : Nat) (s : State) : (writeTarget x n s).alarmView = s.alarmView := by
  have hlive : (writeTarget x n s).sdo.live = s.sdo.live := by rw [writeTarget_sdo]
  have hrelays : (writeTarget x n s).sdo.relays = s.sdo.relays := by rw [writeTarget_sdo]
  simp only [State.alarmView, hlive, hrelays]; rfl

/-- The relays of the other blocks are none of ALU's. -/
theorem writeRelay_alarmView {x : Relay} (hx : x = .genDemand ∨ x = .rectEn) (b : Bool) (s : State) :
    (writeRelay x b s).alarmView = s.alarmView := by
  cases hl : s.sdo.live
  · rw [writeRelay_of_not_live x b hl]
  · rcases hx with rfl | rfl <;> simp [State.alarmView, writeRelay, relaySet, hl]

theorem rectDrive_alarmView (s : State) : (rectDrive s).alarmView = s.alarmView :=
  (writeTarget_alarmView _ _ _).trans (writeRelay_alarmView (.inr rfl) _ s)

theorem updateDormantDwell_alarms (s : State) : AlarmsCarried w r d v s (updateDormantDwell s) := fun h => by
  unfold updateDormantDwell
  by_cases hrun : s.dormantDwellRuns = true
  · simp only [hrun, if_true]
    have hop : s.operating = true := by
      simp only [State.dormantDwellRuns, Bool.and_eq_true] at hrun; exact hrun.1.1
    exact { h with waits := ⟨fun _ => hop, h.waits.2⟩ }
  · simp only [hrun, Bool.false_eq_true, if_false]
    exact { h with waits := ⟨fun hs => (by cases hs), h.waits.2⟩ }

theorem takeCondition_alarms (order : List Taker) {n : Nat} (hn : 1 ≤ n) (s : State) :
    AlarmsCarried w r d v s (takeCondition order n s) := alarms_passed.iteRefl fun h => h.handPoint order hn _

theorem enterRect_alarms (order : List Taker) (x : RectState) (s : State) :
    AlarmsCarried w r d v s (enterRect order x s) := by
  refine alarms_passed.trans (t := s.onRot (rectEntry x s.now)) (fun h => h.kept rfl) (alarms_passed.fan order ?_ _)
  simp only [List.forall_mem_cons]
  exact ⟨fun s h => h.kept (rectDrive_alarmView s), fun s => alarms_passed.quiet (requestStatus_quiet s),
    fun s => alarms_passed.quiet (logEntry_quiet _ _ _ s), takeCondition_alarms order (by decide), List.forall_mem_nil _⟩

theorem alarms_byBlocks : CarriedByBlocks (AlarmsCarried w r d v) where
  toPassed := alarms_passed
  target _ n s h := h.kept (writeTarget_alarmView _ n s)
  relays _ h := h.recomputeRelays.ofDemands
  point order _ hn p _ h := h.handPoint order hn p
  rect := enterRect_alarms
  dwell := updateDormantDwell_alarms
  unwait _ h := { h with waits := ⟨fun hs => (by cases hs), fun hs => (by cases hs)⟩ }

theorem alarms_blind : BlindToGco (AlarmsCarried w r d v) where
  toPassed := alarms_passed
  point := alarms_byBlocks.point
  onGco _ _ h := h.kept rfl
  demand b s h := h.kept (writeRelay_alarmView (.inl rfl) b s)
  fuelTaken _ _ _ h := h.kept rfl
  inhibitTaken _ _ h := h.kept rfl

/-- Among the modes in which the station is awake the demands do not tell one from another (R167). -/
theorem aluDemandsNow_mode (hop : s.operating = true) (hs : s.sup.mode ≠ .dormant) {m : Mode} (hm : m ≠ .dormant) :
    (s.onSup fun x => { x with mode := m }).aluDemandsNow = s.aluDemandsNow := by
  have hbefore : (s.operating && s.sup.mode != .dormant) = true := by simp [hop, hs]
  have hafter : ((s.onSup fun x => { x with mode := m }).operating &&
      (s.onSup fun x => { x with mode := m }).sup.mode != .dormant) = true := by
    exact Bool.and_eq_true_iff.mpr ⟨hop, by simpa using hm⟩
  simp only [State.aluDemandsNow, hbefore, hafter]; rfl

theorem awake_of_operating (hop : s.operating = true) : s.awake = true := by
  rw [State.operating, beq_iff_eq] at hop
  rw [State.awake, hop]

theorem alarms_carried : Carried (AlarmsCarried w r d v) :=
  alarms_blind.carried alarms_byBlocks
    (fun hop _ hm h =>
      { h with
        mode := fun _ => hm
        demands := fun hd hr => (h.demands hd hr).trans
          (aluDemandsNow_mode hop (h.mode (awake_of_operating hop)) hm).symm })
    (fun _ h => (h.withoutHeld.recomputeSubs fun _ _ hc => by cases hc).ofDemands)

end Sys2Proof.Machine
end

section
/-! SUPPORT. The peer table and the phases as the clauses of the alarm relays see them (R98, R101, R102, R170, R174, R178),
and O15. -/
namespace Sys2Proof.Machine

set_option Elab.async false

variable {s t u : State} {w r d v : Prop}

/-! ## The peer table (R92 to R102) -/

/-- The subscriptions recomputed with their effects hold the values of now. -/
theorem aluRecompute_alarms (h : s.AlarmsHold w r d False) (order : List Taker) :
    (aluRecompute order s).AlarmsHold w r d v := by
  unfold aluRecompute
  split
  · have hsubs : (recomputeSubs true s).AlarmsHold w r True v := h.recomputeSubs fun _ _ hc => by cases hc
    exact alarms_blind.inhibit order _ (alarms_blind.fuel order _ hsubs.ofDemands)
  · next hrun => exact { h with held := fun _ hr => absurd hr hrun }

/-- The takers of what records bring about, where the rest takes what leaves the clauses. -/
theorem peerHand_alarms (order : List Taker) (logs : List (Nat × Nat)) (subs views : Bool)
    {also : Taker → State → State}
    (halso : ∀ (v' : Prop) (x : Taker) (s : State), AlarmsCarried w r d v' s (also x s))
    (hs : s.AlarmsHold w r d False) (hv : subs = false → s.AlarmsHold w r d v) :
    (peerHand order logs subs views also s).AlarmsHold w r d v := by
  cases subs with
  | false => exact alarms_carried.peerHand order logs false views (halso v) s (hv rfl)
  | true =>
    have hlog : ∀ (v' : Prop) (u : State), AlarmsCarried w r d v' u (logs.foldl (fun s e => logEntry .peer e.1 e.2 s) u) :=
      fun v' u => alarms_passed.foldl (fun e _ s => alarms_passed.quiet (logEntry_quiet _ _ _ s)) u
    have hviews : ∀ (v' : Prop) (u : State), AlarmsCarried w r d v' u (if views then recomputeViews order u else u) :=
      fun v' u => alarms_passed.iteRefl (alarms_carried.recomputeViews order u)
    have halu : ∀ u : State, u.AlarmsHold w r d False →
        (aluRecompute order (takeConditions order [15, 18] u)).AlarmsHold w r d v := fun u hu =>
      aluRecompute_alarms (alarms_blind.takeConditions order (by decide) u hu) order
    refine fan_establishes order (I := State.AlarmsHold w r d False) .alu (by decide) (fun x hx hne u hu => ?_)
      (fun u hu => halu u hu) (fun x hx u hu => ?_) s hs
    · simp only [List.mem_cons, List.not_mem_nil, or_false] at hx
      rcases hx with rfl | rfl | rfl | rfl | rfl | rfl
      · exact hlog _ u hu
      · exact absurd rfl hne
      · exact hviews _ u hu
      all_goals exact halso _ _ u hu
    · simp only [List.mem_cons, List.not_mem_nil, or_false] at hx
      rcases hx with rfl | rfl | rfl | rfl | rfl | rfl
      · exact hlog _ u hu
      · exact halu u hu.withoutHeld
      · exact hviews _ u hu
      all_goals exact halso _ _ u hu

theorem onPtb_alarms (f : Ptb → Ptb) (h : s.AlarmsHold w r d v) : (s.onPtb f).AlarmsHold w r d False :=
  { h with held := False.elim }

/-- A change of the table that leaves what the records give the subscriptions. -/
theorem onPtb_contributions {f : Ptb → Ptb} (h : s.AlarmsHold w r d v)
    (hp : ∀ sub, (f s.ptb).peers.any (peerContributes sub) = s.ptb.peers.any (peerContributes sub)) :
    (s.onPtb f).AlarmsHold w r d v :=
  { h with
    held := fun hv hr => by
      rw [State.SubsHeld, subValue_congr (t := s.onPtb f) (s := s) hp rfl]
      exact h.held hv hr }

/-- A record that contributes as the one of its number does, put in its place. -/
theorem any_putPeer {f : PeerRecord → Bool} {p q : PeerRecord} {ps : List PeerRecord} (hp : findPeer ps q.station = some p)
    (hf : f q = f p) : (putPeer q ps).any f = ps.any f := by
  induction ps with
  | nil => cases hp
  | cons x ps ih =>
    unfold findPeer at hp ih
    unfold putPeer
    by_cases hx : x.station = q.station
    · obtain rfl : x = p := by simpa [List.find?_cons, hx] using hp
      simp [hx, hf]
    · rw [List.find?_cons, show (x.station == q.station) = false by simpa using hx] at hp
      split
      · have hmem := List.mem_of_find?_eq_some hp
        have hany : f p = true → ps.any f = true := fun h => List.any_eq_true.mpr ⟨p, hmem, h⟩
        simp only [List.any_cons, hf]
        cases hfp : f p
        · rfl
        · simp [hany hfp]
      · rw [if_neg (Ne.symm hx), List.any_cons, List.any_cons, ih hp]

theorem peerContributes_congr (sub : Subscription) {p q : PeerRecord} (hstate : q.state = p.state)
    (hpoints : q.points = p.points) : peerContributes sub q = peerContributes sub p := by
  unfold peerContributes; rw [hstate, hpoints]

theorem takeNote_alarms (order : List Taker) (station seq : Nat) {n : NoteContent} (hn : n.Handed) (hp : n.LeavesPoints)
    (s : State) : AlarmsCarried w r d v s (takeNote order station seq n s) := by
  refine alarms_passed.reflIte fun h => ?_
  refine peerHand_alarms order _ _ _ (fun v' x u => ?_) (onPtb_alarms _ h) fun hsame => onPtb_contributions h fun sub => ?_
  · split
    · exact alarms_passed.iteRefl (alarms_passed.quiet ((requestStatus_quiet u).trans (enqueuePoint_quiet _)))
    · exact (hn _ alarms_carried u).1
    · exact (hn _ alarms_carried u).2
    · exact alarms_passed.refl u
  · simp only [Bool.or_eq_false_iff, decide_eq_false_iff_not, not_not, beq_eq_false_iff_ne] at hsame
    obtain ⟨⟨hstate, hkind⟩, -⟩ := hsame
    cases hold : findPeer s.ptb.peers station with
    | none => rw [hold] at hstate; cases hstate
    | some p =>
      rw [hold] at hstate
      obtain ⟨hstation, -, hpoints⟩ := hp (touchRecord n.kind seq s.now true p)
      simp only [Option.isNone_some, Bool.false_eq_true, false_and, if_false, Option.getD_some, Option.isSome_some]
      have hnumber : p.station = station := by simpa using List.find?_some hold
      refine any_putPeer (p := p) (by rw [hstation]; exact hnumber ▸ hold) (peerContributes_congr sub ?_ ?_)
      · exact (Option.some.inj hstate).symm
      · exact hpoints hkind

theorem ageRecord_points (now : Nat) (p : PeerRecord) : (ageRecord now p).points = p.points := by
  unfold ageRecord; dsimp only
  split
  · split
    · rfl
    · split <;> rfl
  · split <;> rfl
  · rfl

theorem ageRecords_alarms (order : List Taker) (s : State) : AlarmsCarried w r d v s (ageRecords order s) := fun h => by
  refine peerHand_alarms order _ _ _ (fun _ _ u => alarms_passed.refl u) (onPtb_alarms _ h) fun hsame =>
    onPtb_contributions h fun sub => ?_
  have hstate : ∀ p ∈ s.ptb.peers, (ageRecord s.now p).state = p.state := fun p hp => by
    have hpair : (p, ageRecord s.now p) ∈ s.ptb.peers.zip (s.ptb.peers.map (ageRecord s.now)) := by
      rw [← List.map_id s.ptb.peers, List.map_map, List.zip_map', List.mem_map]
      exact ⟨p, hp, rfl⟩
    have hsteady : ∀ a b, (a, b) ∈ s.ptb.peers.zip (s.ptb.peers.map (ageRecord s.now)) → a.state = b.state := by
      simpa using hsame
    exact (hsteady _ _ hpair).symm
  rw [Bool.eq_iff_iff, List.any_map, List.any_eq_true, List.any_eq_true]
  refine exists_congr fun p => and_congr_right fun hp => ?_
  rw [Function.comp_apply, peerContributes_congr sub (hstate p hp) (ageRecord_points s.now p)]

theorem expireIntent_alarms (n : Nat) (s : State) : AlarmsCarried w r d v s (expireIntent n s) := by
  unfold expireIntent
  split
  · next p hp =>
    split
    · refine alarms_passed.iteRefl fun h => onPtb_contributions h fun sub => ?_
      have hnumber : p.station = n := by simpa using List.find?_some hp
      exact any_putPeer (p := p) (q := { p with intent := none }) (hnumber ▸ hp) (peerContributes_congr sub rfl rfl)
    · exact alarms_passed.refl s
  · exact alarms_passed.refl s

theorem forgetRecord_alarms (order : List Taker) (p : PeerRecord) (s : State) :
    AlarmsCarried w r d v s (forgetRecord order p s) := fun h =>
  peerHand_alarms order _ _ _ (fun _ _ u => alarms_passed.refl u) (onPtb_alarms _ h) fun hc => by cases hc

theorem clearPeers_alarms (order : List Taker) (s : State) : AlarmsCarried w r d v s (clearPeers order s) := fun h =>
  peerHand_alarms order _ _ _ (fun _ _ u => alarms_passed.refl u) (onPtb_alarms _ h) fun hc => by cases hc

/-! ## LISTEN entry (R174, R178) -/

/-- What each taker of LISTEN entry makes of the state. -/
def listenTakes (order : List Taker) (wake : Bool) (x : Taker) (s : State) : State :=
  match x with
  | .mch => s.onMch (mchOnListen s.wired)
  | .pli => pliOnListen s
  | .ptb => if wake then clearPeers order s else s
  | .rot => if wake then s else rectDrive s
  | .alu => aluOnListen order s
  | _ => s

theorem listenEntry_takes (order : List Taker) (wake : Bool) (s : State) :
    listenEntry order wake s = fan order listenTakers (listenTakes order wake)
      (s.onSup fun x => { x with phase := .listen, mode := .full, listenEnd := s.now + 3000, found := false }) := rfl

theorem listenTakes_alarms (order : List Taker) (wake : Bool) {x : Taker} (hx : x ≠ .alu) (s : State) :
    AlarmsCarried w r d v s (listenTakes order wake x s) := by
  cases x with
  | mch => exact alarms_passed.quiet (onMch_quiet _ s)
  | pli => exact alarms_passed.quiet (onPli_quiet _ s)
  | ptb => exact alarms_passed.iteRefl (clearPeers_alarms order s)
  | rot => exact alarms_passed.reflIte fun h => h.kept (rectDrive_alarmView s)
  | alu => exact absurd rfl hx
  | _ => exact alarms_passed.refl s

theorem listenTakes_phase (order : List Taker) (wake : Bool) (x : Taker) (s : State) :
    (listenTakes order wake x s).sup.phase = s.sup.phase := by
  have hphase : ∀ {l : List Aspect} {t : State}, .schedule ∉ l → s.KeepsBut l t → t.sup.phase = s.sup.phase :=
    fun hl hk => (hk .schedule hl).2.1
  cases x with
  | ptb =>
    exact Passed.ite (R := fun s t : State => t.sup.phase = s.sup.phase) (s := s)
      (hphase (by decide) (clearPeers_keepsBut order s)) rfl
  | rot => exact Passed.ite (R := fun s t : State => t.sup.phase = s.sup.phase) (s := s) rfl (rectDrive_gatesKept s).phase.1
  | alu => exact hphase (by decide) (aluOnListen_keepsBut order s)
  | _ => rfl

/-- ALU starts: whatever of its own clauses held before, they hold then. -/
theorem aluOnListen_alarms (h : s.AlarmsHold w False False False) (hstart : s.starting = false) (order : List Taker) :
    (aluOnListen order s).AlarmsHold w True True True := by
  have hruns : (s.onAlu fun a => { a with running := true }).AlarmsHold w True False False :=
    { h with runs := fun _ _ => rfl, values := fun _ => h.values (.inl hstart), held := False.elim, demands := False.elim }
  have htaken : (takeConditions order pointIds (s.onAlu fun a => { a with running := true })).AlarmsHold w True False False :=
    alarms_blind.takeConditions order (by unfold pointIds; simp) _ hruns
  have hrun : (takeConditions order pointIds (s.onAlu fun a => { a with running := true })).alu.running = true :=
    Eq.trans (takeConditions_keeps order pointIds _ .running (by decide)) rfl
  rw [aluOnListen]
  generalize takeConditions order pointIds _ = x at htaken hrun
  rw [aluRecompute, if_pos hrun]
  exact alarms_blind.inhibit order _ (alarms_blind.fuel order _ (htaken.recomputeSubs fun _ _ hc => by cases hc))

/-- LISTEN entered by a station that was not in OPERATING: every clause holds from then on. -/
theorem listenEntry_alarms (hlive : s.sdo.live = false) (hrelays : s.sdo.relays = .start)
    (hsince : s.sup.dormantSince = none) (hwait : s.sup.entryWait = none)
    (hvalues : s.alu.subValues.length = s.settings.alu.subs.length) (order : List Taker) (wake : Bool) :
    (listenEntry order wake s).AlarmsHold True True True True := by
  rw [listenEntry_takes]
  have hentry : (s.onSup fun x => { x with phase := .listen, mode := .full, listenEnd := s.now + 3000, found := false }).AlarmsHold
      True False False False :=
    { liveOperating := fun hl => absurd (hlive.symm.trans hl) (by decide)
      operatingLive := fun _ hop => by cases hop
      start := fun _ => hrelays
      waits := ⟨fun hs => by simp [hsince] at hs, fun hs => by simp [hwait] at hs⟩
      mode := fun _ => by simp
      runs := False.elim
      values := fun _ => hvalues
      held := False.elim
      demands := False.elim
      follow := fun hl => absurd (hlive.symm.trans hl) (by decide) }
  have halu : ∀ u : State, u.AlarmsHold True False False False ∧ u.sup.phase = .listen →
      (listenTakes order wake .alu u).AlarmsHold True True True True ∧
        (listenTakes order wake .alu u).sup.phase = .listen := fun u hu =>
    ⟨aluOnListen_alarms hu.1 (by simp [State.starting, hu.2]) order, (listenTakes_phase order wake .alu u).trans hu.2⟩
  refine (fan_establishes order (I := fun u => u.AlarmsHold True False False False ∧ u.sup.phase = .listen)
    (P := fun u => u.AlarmsHold True True True True ∧ u.sup.phase = .listen) .alu (by decide) (fun x _ hne u hu => ?_) halu
    (fun x _ u hu => ?_) _ ⟨hentry, rfl⟩).1
  · exact ⟨listenTakes_alarms order wake hne u hu.1, (listenTakes_phase order wake x u).trans hu.2⟩
  · by_cases hne : x = .alu
    · subst hne
      exact halu u ⟨hu.1.mono id False.elim False.elim False.elim, hu.2⟩
    · exact ⟨listenTakes_alarms order wake hne u hu.1, (listenTakes_phase order wake x u).trans hu.2⟩

/-! ## Wake, OPERATING entry and sleep -/

theorem wakeUp_alarms (order : List Taker) (cause : StartCause) (hs : s.asleep = true)
    (h : s.AlarmsHold True True True True) : (wakeUp order cause s).AlarmsHold True True True True := by
  have hphase : s.sup.phase = .dormant := by simpa [State.asleep] using hs
  have hop : ¬ s.operating = true := by simp [State.operating, hphase]
  have hlive : s.sdo.live = false := by
    by_contra hl; exact hop (h.liveOperating (by simpa using hl))
  have hnone : ∀ {t : Option Nat}, (t.isSome = true → s.operating = true) → t = none := fun {t} ht => by
    by_contra hc; exact hop (ht (Option.isSome_iff_ne_none.mpr hc))
  have hq := wakeSup_quiet cause s
  rw [wakeUp_of_asleep order cause hs]
  refine listenEntry_alarms (hq.live.trans hlive) (hq.relays.trans (h.start hlive)) (hq.dormantSince.trans (hnone h.waits.1))
    (hq.entryWait.trans (hnone h.waits.2)) ?_ order true
  rw [hq.subValues, hq.settings]
  exact h.values (.inl (by simp [State.starting, hphase]))

theorem operatingTakes_phase (order : List Taker) (y : Taker) (s : State) :
    (operatingTakes order y s).sup.phase = s.sup.phase := by
  by_cases hsdo : y = .sdo
  · subst hsdo; rfl
  · by_cases hgco : y = .gco
    · subst hgco; rfl
    · exact (operatingTakes_gatesKept order hsdo hgco s).phase.1

/-- The takers of OPERATING entry leave the clauses where they hold; SDO in OPERATING has them drive. -/
theorem operatingTakes_alarms (order : List Taker) (y : Taker) (hop : s.operating = true) (h : s.AlarmsHold w r d v) :
    (operatingTakes order y s).AlarmsHold w r d v := by
  cases y with
  | sdo =>
    exact { h with liveOperating := fun _ => hop, operatingLive := fun _ _ => rfl, start := fun hl => by cases hl
                   follow := fun _ => ⟨rfl, rfl, rfl, rfl⟩ }
  | csc => exact alarms_carried.cscOnOperating order s h
  | cbu => exact alarms_carried.cbuOnOperating s h
  | gco => exact h.kept rfl
  | alu => exact h.recomputeRelays.ofDemands
  | sup => exact updateDormantDwell_alarms _ (h.kept rfl)
  | _ => exact h

theorem enterOperating_alarms (order : List Taker) (hs : s.sup.phase = .listen ∨ s.sup.phase = .check)
    (h : s.AlarmsHold True True True True) : (enterOperating order s).AlarmsHold True True True True := by
  have hawake : s.awake = true := by rcases hs with hs | hs <;> simp [State.awake, hs]
  have hop : ¬ s.operating = true := by rcases hs with hs | hs <;> simp [State.operating, hs]
  have hlive : ¬ s.sdo.live = true := fun hl => hop (h.liveOperating hl)
  have hrun := h.runs trivial hawake
  have hentry : (s.onSup fun x => { x with phase := .operating }).AlarmsHold False True False True :=
    { liveOperating := fun _ => rfl
      operatingLive := False.elim
      start := h.start
      waits := ⟨fun _ => rfl, fun _ => rfl⟩
      mode := fun _ => h.mode hawake
      runs := fun _ _ => hrun
      values := fun _ => h.values (.inr hrun)
      held := h.held
      demands := False.elim
      follow := fun hl => absurd hl hlive }
  have hnotes := hentry.quiet (operatingNotes_quiet s)
  have hphase : (operatingNotes s).sup.phase = .operating := (operatingNotes_quiet s).phase
  have hkeep : ∀ (w d : Prop) (y : Taker) (u : State), u.AlarmsHold w True d True ∧ u.sup.phase = .operating →
      (operatingTakes order y u).AlarmsHold w True d True ∧ (operatingTakes order y u).sup.phase = .operating :=
    fun w d y u hu => ⟨operatingTakes_alarms order y (by simp [State.operating, hu.2]) hu.1,
      (operatingTakes_phase order y u).trans hu.2⟩
  rw [enterOperating_eq]
  have hsdo := fan_establishes order (I := fun u => u.AlarmsHold False True False True ∧ u.sup.phase = .operating)
    (P := fun u => u.AlarmsHold True True False True ∧ u.sup.phase = .operating) (f := operatingTakes order)
    (takers := [.sdo, .csc, .cbu, .gco, .alu, .sup]) .sdo (by decide) (fun y _ _ u => hkeep _ _ y u)
    (fun u hu => ⟨{ (hkeep _ _ .sdo u hu).1 with operatingLive := fun _ _ => rfl }, hu.2⟩) (fun y _ u => hkeep _ _ y u) _
    ⟨hnotes, hphase⟩
  have halu := fan_establishes order (I := fun u => u.AlarmsHold False True False True ∧ u.sup.phase = .operating)
    (P := fun u => u.AlarmsHold False True True True ∧ u.sup.phase = .operating) (f := operatingTakes order)
    (takers := [.sdo, .csc, .cbu, .gco, .alu, .sup]) .alu (by decide) (fun y _ _ u => hkeep _ _ y u)
    (fun u hu => ⟨hu.1.recomputeRelays, (operatingTakes_phase order .alu u).trans hu.2⟩) (fun y _ u => hkeep _ _ y u) _
    ⟨hnotes, hphase⟩
  exact { hsdo.1 with demands := halu.1.demands }

theorem dormantTakes_alarms (order : List Taker) (y : Taker) (s : State) :
    AlarmsCarried w False False False s (dormantTakes order y s) := by
  have hquiet : ∀ {t : State}, s.Quiet t → AlarmsCarried w False False False s t := alarms_passed.quiet
  cases y with
  | mch => exact alarms_passed.trans (hquiet (onMch_quiet _ s)) (alarms_blind.takeConditions order (by decide) _)
  | sac => exact hquiet (onSac_quiet _ s)
  | csc => exact hquiet (onCsc_quiet _ s)
  | pli => exact alarms_passed.trans (hquiet (onPli_quiet _ s)) (takeCondition_alarms order (by decide) _)
  | cbu => exact hquiet (onCbu_quiet _ s)
  | rot =>
    have hentry : AlarmsCarried w False False False s (if s.rot.state = .noInput then
        rectDrive (s.onRot (rectEntry .noInput s.now)) else enterRect order .noInput s) :=
      Passed.ite (fun h => (h.kept (t := s.onRot (rectEntry .noInput s.now)) rfl).kept (rectDrive_alarmView _))
        (enterRect_alarms order _ s)
    exact fun h => (hentry h).kept rfl
  | gco => exact alarms_blind.onDormant order s
  | alu =>
    exact fun h => { h with runs := False.elim, held := False.elim, demands := False.elim
                            values := fun hs => h.values (hs.elim .inl fun hr => by cases hr) }
  | _ => exact alarms_passed.refl s

theorem fallAsleep_alarms (order : List Taker) (hs : s.sup.phase = .check ∨ s.sup.entryWait.isSome = true)
    (h : s.AlarmsHold True True True True) : (fallAsleep order s).AlarmsHold True True True True := by
  have hstarting : s.starting = false := by
    rcases hs with hs | hs
    · simp [State.starting, hs]
    · have hop := h.waits.2 hs
      rw [State.operating, beq_iff_eq] at hop
      simp [State.starting, hop]
  have hphase := (fallAsleep_sup order s).1
  have hrun : (fallAsleep order s).alu.running = false :=
    (triggerWrite_quiet _).running.trans (dormantEntry_running order _)
  have hbefore : ((recomputeRelays (s.onSup (supSleep s.wakeTime))).onSdo sdoOnDormant).AlarmsHold True False False False := by
    have hrest := recomputeRelays_changedOnly (s.onSup (supSleep s.wakeTime))
    obtain ⟨halu, -, -⟩ := recomputeRelays_rest (s.onSup (supSleep s.wakeTime))
    generalize recomputeRelays (s.onSup (supSleep s.wakeTime)) = x at hrest halu
    have hxphase : x.sup.phase = .dormant := congrArg Sup.phase hrest.sup
    exact
      { liveOperating := fun hl => by cases hl
        operatingLive := fun _ hop => by simp [State.operating, hxphase] at hop
        start := fun _ => rfl
        waits := ⟨fun hc => by simp [hrest.sup, supSleep] at hc, fun hc => by simp [hrest.sup, supSleep] at hc⟩
        mode := fun hawake => by simp [State.awake, hxphase] at hawake
        runs := False.elim
        values := fun _ => by simpa [halu, hrest.settings] using h.values (.inl hstarting)
        held := False.elim
        demands := False.elim
        follow := fun hl => by cases hl }
  have hentry : (fallAsleep order s).AlarmsHold True False False False :=
    State.AlarmsHold.quiet (fan_induction order (fun y _ u hu => dormantTakes_alarms order y u hu) _ hbefore)
      (triggerWrite_quiet _)
  exact { hentry with
          runs := fun _ ha => by simp [State.awake, hphase] at ha
          held := fun _ hr => by rw [hrun] at hr; cases hr
          demands := fun _ hr => by rw [hrun] at hr; cases hr }

/-! ## Resets and LOAD -/

theorem resetNow_alarms (kind : ResetKind) (s : State) : (resetNow kind s).AlarmsHold True True True True := by
  have hreset : (resetNow kind s).sup.phase = .held ∧ (resetNow kind s).sup.dormantSince = none ∧
      (resetNow kind s).sup.entryWait = none ∧ (resetNow kind s).sdo.live = false ∧
      (resetNow kind s).sdo.relays = .start ∧ (resetNow kind s).alu.running = false := by
    unfold resetNow; split <;> exact ⟨rfl, rfl, rfl, rfl, rfl, rfl⟩
  obtain ⟨hphase, hsince, hwait, hlive, hrelays, hrun⟩ := hreset
  exact
    { liveOperating := fun hl => by simp [hlive] at hl
      operatingLive := fun _ hop => by simp [State.operating, hphase] at hop
      start := fun _ => hrelays
      waits := ⟨fun hc => by simp [hsince] at hc, fun hc => by simp [hwait] at hc⟩
      mode := fun hawake => by simp [State.awake, hphase] at hawake
      runs := fun _ hawake => by simp [State.awake, hphase] at hawake
      values := fun hs => by simp [State.starting, hphase, hrun] at hs
      held := fun _ hr => by simp [hrun] at hr
      demands := fun _ hr => by simp [hrun] at hr
      follow := fun hl => by simp [hlive] at hl }

theorem loadTaken_settings (found : Nat → Found) (s : State) : (loadTaken found s).settings = loadedSettings found :=
  (takeRetained_changedOnly (loadedSettings found).sac (retainedFrom (found 13))
    (s.onSettings fun _ => loadedSettings found)).settings

theorem loadBlocks_settings (found : Nat → Found) (s : State) : (loadBlocks found s).settings = loadedSettings found :=
  Eq.trans (b := (loadTaken found s).settings) rfl (loadTaken_settings found s)

theorem loadBlocks_waits (found : Nat → Found) (s : State) :
    (loadBlocks found s).sup.dormantSince = s.sup.dormantSince ∧ (loadBlocks found s).sup.entryWait = s.sup.entryWait :=
  ⟨Eq.trans (b := (loadTaken found s).sup.dormantSince) rfl (congrArg Sup.dormantSince (loadTaken_sup found s)),
    Eq.trans (b := (loadTaken found s).sup.entryWait) rfl (congrArg Sup.entryWait (loadTaken_sup found s))⟩

/-- Nothing waits, and nothing is driven, in a station that is not in OPERATING. -/
theorem State.AlarmsHold.resting (h : s.AlarmsHold w r d v) (hop : s.operating = false) :
    s.sdo.live = false ∧ s.sup.dormantSince = none ∧ s.sup.entryWait = none := by
  have hnone : ∀ {t : Option Nat}, (t.isSome = true → s.operating = true) → t = none := fun {t} ht => by
    by_contra hc
    exact absurd (hop.symm.trans (ht (Option.isSome_iff_ne_none.mpr hc))) (by decide)
  refine ⟨?_, hnone h.waits.1, hnone h.waits.2⟩
  by_contra hl
  exact absurd (hop.symm.trans (h.liveOperating (by simpa using hl))) (by decide)

theorem endLoad_alarms (order : List Taker) (programmed : List (Nat × Byte)) (silent : List Nat)
    (hs : s.sup.phase = .load) (h : s.AlarmsHold True True True True) :
    (endLoad order programmed silent s).AlarmsHold True True True True := by
  obtain ⟨hlive, hsince, hwait⟩ := h.resting (by simp [State.operating, hs])
  have hq := endLoad_quiet programmed silent s
  obtain ⟨hbsince, hbwait⟩ := loadBlocks_waits (readRecord (storeProgram s.store programmed) silent)
    (s.onStore fun m => storeProgram m programmed)
  rw [endLoad_eq]
  refine listenEntry_alarms ?_ ?_ (hq.dormantSince.trans (hbsince.trans hsince)) (hq.entryWait.trans (hbwait.trans hwait))
    ?_ order false
  · rw [hq.live, loadBlocks_sdo]; exact hlive
  · rw [hq.relays, loadBlocks_sdo]; exact h.start hlive
  · rw [hq.subValues, hq.settings, loadBlocks_alu, loadBlocks_settings]; exact List.length_map _

theorem tryDormant_alarms (order : List Taker) (s : State) : AlarmsCarried w r d v s (tryDormant order s) := by
  unfold tryDormant
  split
  · next hdwell =>
    refine Passed.ite (fun h => ?_) (alarms_passed.trans
      (t := s.onSup fun x => { x with configPart := true, dormantHeld := true }) (fun h => h.kept rfl)
      (takeCondition_alarms order (by decide) _))
    have hop : s.operating = true := h.waits.1 (by
      have hc := hdwell.1
      unfold State.dormantComplete at hc
      cases hd : s.sup.dormantSince with
      | none => rw [hd] at hc; cases hc
      | some _ => rfl)
    have hq := enqueue_quiet .quiet [BitVec.ofNat 8 QuietReason.dormant.code] s
    have hop' : (enqueue .quiet [BitVec.ofNat 8 QuietReason.dormant.code] s).operating = true := by
      rw [State.operating, hq.phase]; exact hop
    exact { h.quiet hq with waits := ⟨(h.quiet hq).waits.1, fun _ => hop'⟩ }
  · exact alarms_passed.refl s

/-- Out of OPERATING the demands do not tell one phase from another (R167). -/
theorem aluDemandsNow_resting {f : Sup → Sup} (hs : s.operating = false) (hf : (s.onSup f).operating = false) :
    (s.onSup f).aluDemandsNow = s.aluDemandsNow := by
  simp only [State.aluDemandsNow, hs, hf, Bool.false_and]; rfl

/-! ## Every command -/

theorem alarms_byAll : CarriedByAll (AlarmsCarried True True True True) where
  toCarried := alarms_carried
  note order station seq _ hn hp s := takeNote_alarms order station seq hn hp s
  age := ageRecords_alarms
  expire := expireIntent_alarms
  forget := forgetRecord_alarms
  wake order cause _ hs h := wakeUp_alarms order cause hs h
  check hs n h :=
    { h with
      liveOperating := fun hl => by
        have hop := h.liveOperating hl
        simp [State.operating, hs] at hop
      operatingLive := fun _ hop => by cases hop
      waits := by
        obtain ⟨-, hsince, hwait⟩ := h.resting (by simp [State.operating, hs])
        exact ⟨fun hc => by simp [hsince] at hc, fun hc => by simp [hwait] at hc⟩
      mode := fun _ => h.mode (by simp [State.awake, hs])
      runs := fun _ _ => h.runs trivial (by simp [State.awake, hs])
      values := fun _ => h.values (.inl (by simp [State.starting, hs]))
      demands := fun _ hr => (h.demands trivial hr).trans
        (aluDemandsNow_resting (by simp [State.operating, hs]) rfl).symm }
  operating order _ hs h := enterOperating_alarms order hs h
  dormant := tryDormant_alarms
  tick order s := alarms_blind.tick order s
  startFailure order s _ := alarms_blind.startFailure order s
  restEnd order _ _ := alarms_blind.move order _ _ _
  settle order s := alarms_blind.move order _ _ s
  test order _ _ _ ht := alarms_blind.test order ht
  clear order _ _ ht := alarms_blind.clear order ht
  ramp order n s := by
    have htarget : ∀ (n : Nat) (u : State), AlarmsCarried True True True True u (writeTarget .rectIlim n u) := fun n u h =>
      h.kept (writeTarget_alarmView _ n u)
    exact Passed.ite (alarms_passed.trans (t := s.onRot fun r => { r with ramp := some (n + 1) }) (fun h => h.kept rfl)
      (htarget _ _)) (alarms_passed.trans (htarget _ s) (enterRect_alarms order _ _))
  sleep order _ hs h := fallAsleep_alarms order hs h
  reset kind s _ := resetNow_alarms kind s
  straps hs n h := by
    obtain ⟨hlive, hsince, hwait⟩ := h.resting (by simp [State.operating, hs])
    exact
      { h with
        liveOperating := fun hl => absurd (hlive.symm.trans hl) (by decide)
        operatingLive := fun _ hop => by cases hop
        waits := ⟨fun hc => by simp [hsince] at hc, fun hc => by simp [hwait] at hc⟩
        mode := fun hawake => by cases hawake
        runs := fun _ hawake => by cases hawake
        values := fun hc => h.values (.inr (hc.elim (fun hc => by cases hc) id))
        demands := fun _ hr => (h.demands trivial hr).trans
          (aluDemandsNow_resting (by simp [State.operating, hs]) rfl).symm }
  load order programmed silent _ hs h := endLoad_alarms order programmed silent hs h

/-- Settles O15: every operation keeps the clauses, and with them every step. -/
theorem theAlarmRelaysFollowTheAlarms : Obligations.TheAlarmRelaysFollowTheAlarms := fun s t h hnext =>
  (alarmRelaysFollow_iff t).mpr (alarms_byAll.step hnext ((alarmRelaysFollow_iff s).mp h))

end Sys2Proof.Machine
end

section
/-! SUPPORT. What waits while SDO drives nothing (R20, R23 to R25, R53, R122), and O26. -/
namespace Sys2Proof.Machine

set_option Elab.async false

variable {s t u : State}

/-! ## Owners' writes wait -/

/-- An output holds its target and its code, and a target that waits. -/
def Output.Waits (o p : Output) : Prop :=
  p.target = o.target ∧ p.code = o.code ∧ (o.waiting.isSome = true → p.waiting.isSome = true)

/-- If SDO drives nothing after, it drove nothing before, and no relay and no output is driven anew. -/
def State.WaitsOn (s t : State) : Prop :=
  t.sdo.live = false → s.sdo.live = false ∧ t.settings = s.settings ∧ t.sdo.relays = s.sdo.relays ∧
    ∀ d, (dacGet s.sdo.outputs d).Waits (dacGet t.sdo.outputs d)

/-- If SDO drives nothing after, the limit of the rectifier's state waits, or the state and what waits are as before. -/
def State.RectWaits (s t : State) : Prop :=
  t.sdo.live = false →
    (t.rot.state = s.rot.state ∧ t.sdo.outputs.rectIlim.waiting = s.sdo.outputs.rectIlim.waiting) ∨
      t.sdo.outputs.rectIlim.waiting = some (rectTarget t.settings.rot t.rot.state)

/-- Nothing is driven, and what the owners write waits. -/
def State.Undriven (s t : State) : Prop := s.WaitsOn t ∧ s.RectWaits t

theorem State.WaitsOn.trans (h : s.WaitsOn t) (g : t.WaitsOn u) : s.WaitsOn u := fun hl => by
  obtain ⟨htl, hset, hrelays, hout⟩ := g hl
  obtain ⟨hsl, hset', hrelays', hout'⟩ := h htl
  refine ⟨hsl, hset.trans hset', hrelays.trans hrelays', fun d => ?_⟩
  obtain ⟨htarget, hcode, hwaiting⟩ := hout d
  obtain ⟨htarget', hcode', hwaiting'⟩ := hout' d
  exact ⟨htarget.trans htarget', hcode.trans hcode', fun hw => hwaiting (hwaiting' hw)⟩

/-- Nothing changes of the settings and of SDO's outputs. -/
theorem State.WaitsOn.of_eq (hlive : t.sdo.live = s.sdo.live) (hset : t.settings = s.settings)
    (hrelays : t.sdo.relays = s.sdo.relays) (hout : t.sdo.outputs = s.sdo.outputs) : s.WaitsOn t := fun hl =>
  ⟨hlive ▸ hl, hset, hrelays, fun d => by rw [hout]; exact ⟨rfl, rfl, id⟩⟩

theorem State.Undriven.of_eq (hlive : t.sdo.live = s.sdo.live) (hset : t.settings = s.settings)
    (hrelays : t.sdo.relays = s.sdo.relays) (hout : t.sdo.outputs = s.sdo.outputs) (hrect : t.rot.state = s.rot.state) :
    s.Undriven t := ⟨.of_eq hlive hset hrelays hout, fun _ => .inl ⟨hrect, by rw [hout]⟩⟩

theorem State.Undriven.of_live (hl : t.sdo.live = true) : s.Undriven t :=
  ⟨fun h => absurd (hl.symm.trans h) (by decide), fun h => absurd (hl.symm.trans h) (by decide)⟩

theorem waitsOn_passed : Passed State.WaitsOn where
  trans := State.WaitsOn.trans
  quiet h := .of_eq h.live h.settings h.relays h.outputs

theorem undriven_passed : Passed State.Undriven where
  trans := fun {s t u} ⟨hw, hr⟩ ⟨gw, gr⟩ => by
    refine ⟨hw.trans gw, fun hl => ?_⟩
    obtain ⟨htl, hset, -, -⟩ := gw hl
    rcases gr hl with ⟨hstate, hwaiting⟩ | hwaiting
    · rcases hr htl with ⟨hstate', hwaiting'⟩ | hwaiting'
      · exact .inl ⟨hstate.trans hstate', hwaiting.trans hwaiting'⟩
      · exact .inr (by rw [hwaiting, hwaiting', hset, hstate])
    · exact .inr hwaiting
  quiet h := .of_eq h.live h.settings h.relays h.outputs h.rect

theorem writeTarget_waitsOn (d : Dac) (v : Nat) (s : State) : s.WaitsOn (writeTarget d v s) := fun hl => by
  have hlive : s.sdo.live = false := by rwa [writeTarget_sdo] at hl
  refine ⟨hlive, rfl, by rw [writeTarget_sdo], fun x => ?_⟩
  rw [dacGet_writeTarget, hlive]
  split
  · next hx => subst hx; exact ⟨rfl, rfl, fun _ => rfl⟩
  · exact ⟨rfl, rfl, id⟩

theorem writeTarget_undriven {d : Dac} (hd : d ≠ .rectIlim) (v : Nat) (s : State) : s.Undriven (writeTarget d v s) :=
  ⟨writeTarget_waitsOn d v s, fun _ =>
    .inl ⟨rfl, congrArg Output.waiting ((dacGet_writeTarget d .rectIlim v s).trans (if_neg hd.symm))⟩⟩

theorem writeRelay_undriven (r : Relay) (v : Bool) (s : State) : s.Undriven (writeRelay r v s) := by
  by_cases hl : s.sdo.live = true
  · exact .of_live (by rw [writeRelay_sdo]; exact hl)
  · rw [writeRelay_of_not_live r v (by simpa using hl)]; exact undriven_passed.refl s

theorem onAlu_undriven (f : Alu → Alu) (s : State) : s.Undriven (s.onAlu f) := .of_eq rfl rfl rfl rfl rfl

theorem onSup_undriven (f : Sup → Sup) (s : State) : s.Undriven (s.onSup f) := .of_eq rfl rfl rfl rfl rfl

theorem recomputeRelays_undriven (s : State) : s.Undriven (recomputeRelays s) :=
  undriven_passed.recomputeRelays (fun _ => onAlu_undriven _) (fun _ _ v => writeRelay_undriven _ v) s

theorem recomputeSubs_undriven (b : Bool) (s : State) : s.Undriven (recomputeSubs b s) :=
  undriven_passed.recomputeSubs (fun _ => onAlu_undriven _) recomputeRelays_undriven b s

theorem handPoint_undriven (order : List Taker) (n : Nat) (p : Point) (s : State) : s.Undriven (handPoint order n p s) :=
  undriven_passed.handPoint (fun _ => onAlu_undriven _) recomputeRelays_undriven (recomputeSubs_undriven false) order n p s

theorem rectDrive_waitsOn (s : State) : s.WaitsOn (rectDrive s) :=
  (writeRelay_undriven _ _ s).1.trans (writeTarget_waitsOn _ _ _)

/-- A rectifier state entered leaves its limit waiting (R122). -/
theorem enterRect_undriven (order : List Taker) (x : RectState) (s : State) : s.Undriven (enterRect order x s) := by
  refine ⟨.trans (t := s.onRot (rectEntry x s.now)) (.of_eq rfl rfl rfl rfl) (waitsOn_passed.fan order ?_ _), fun hl => ?_⟩
  · simp only [List.forall_mem_cons]
    exact ⟨rectDrive_waitsOn, fun s => waitsOn_passed.quiet (requestStatus_quiet s),
      fun s => waitsOn_passed.quiet (logEntry_quiet _ _ _ s),
      fun s => waitsOn_passed.iteRefl (handPoint_undriven order 8 _ s).1, List.forall_mem_nil _⟩
  · obtain ⟨hstate, -, -, hwaiting⟩ := enterRect_inRectState order x s
    exact .inr (by rw [hstate]; exact hwaiting hl)

theorem undriven_byBlocks : CarriedByBlocks State.Undriven where
  toPassed := undriven_passed
  target := writeTarget_undriven
  relays := recomputeRelays_undriven
  point order _ _ := handPoint_undriven order _
  rect := enterRect_undriven
  dwell s := onSup_undriven _ s
  unwait s := onSup_undriven _ s

theorem undriven_blind : BlindToGco State.Undriven where
  toPassed := undriven_passed
  point := undriven_byBlocks.point
  onGco _ _ := .of_eq rfl rfl rfl rfl rfl
  demand := writeRelay_undriven _
  fuelTaken _ _ := onAlu_undriven _
  inhibitTaken _ := onAlu_undriven _

theorem undriven_carried : Carried State.Undriven :=
  undriven_blind.carried undriven_byBlocks (fun {s} _ _ _ => onSup_undriven _ s) (recomputeSubs_undriven true)

theorem onPtb_undriven (f : Ptb → Ptb) (s : State) : s.Undriven (s.onPtb f) := .of_eq rfl rfl rfl rfl rfl

theorem aluOnListen_undriven (order : List Taker) (s : State) : s.Undriven (aluOnListen order s) := by
  rw [aluOnListen]
  have hrun := onAlu_undriven (fun a => { a with running := true }) s
  generalize (s.onAlu fun a => { a with running := true }) = x at hrun ⊢
  exact undriven_passed.trans (undriven_passed.trans hrun
    (undriven_carried.takeConditions order (by unfold pointIds; simp) x)) (undriven_carried.aluRecompute order _)

/-- LISTEN entry of a station that wakes. -/
theorem wakeEntry_undriven (order : List Taker) (s : State) : s.Undriven (listenEntry order true s) := by
  rw [listenEntry_takes]
  refine undriven_passed.trans (onSup_undriven _ s) (undriven_passed.fan order (fun x _ u => ?_) _)
  cases x with
  | mch => exact undriven_passed.quiet (onMch_quiet _ u)
  | pli => exact undriven_passed.quiet (onPli_quiet _ u)
  | ptb => exact undriven_carried.clearPeers_of_peers onPtb_undriven order u
  | alu => exact aluOnListen_undriven order u
  | _ => exact undriven_passed.refl u

theorem wakeUp_undriven (order : List Taker) (cause : StartCause) (hs : s.asleep = true) :
    s.Undriven (wakeUp order cause s) := by
  rw [wakeUp_of_asleep order cause hs]
  exact undriven_passed.trans (undriven_passed.trans (onSup_undriven _ s) (undriven_passed.quiet (wakeSup_quiet cause s)))
    (wakeEntry_undriven order _)

theorem enterOperating_live (order : List Taker) (s : State) : (enterOperating order s).sdo.live = true := by
  rw [enterOperating_eq]
  refine fan_establishes order (I := fun _ => True) (P := fun u => u.sdo.live = true) .sdo (by decide)
    (fun _ _ _ _ _ => trivial) (fun _ _ => rfl) (fun y _ u hu => ?_) _ trivial
  by_cases hsdo : y = .sdo
  · subst hsdo; rfl
  · by_cases hgco : y = .gco
    · subst hgco; exact hu
    · exact (operatingTakes_gatesKept order hsdo hgco u).live.trans hu

theorem tryDormant_undriven (order : List Taker) (s : State) : s.Undriven (tryDormant order s) :=
  undriven_passed.iteRefl (Passed.ite
    (undriven_passed.trans (undriven_passed.quiet (enqueue_quiet _ _ s)) (onSup_undriven _ _))
    (undriven_passed.trans (onSup_undriven _ s) (undriven_carried.takeCondition order (by decide) _)))

theorem undriven_byCommands : CarriedByCommands State.Undriven where
  toCarried := undriven_carried
  note order station seq _ hn _ s := undriven_carried.takeNote_of_peers onPtb_undriven order station seq hn s
  age order s := undriven_carried.ageRecords_of_peers onPtb_undriven order s
  expire n s := undriven_carried.expireIntent_of_peers onPtb_undriven n s
  forget order p s := undriven_carried.forgetRecord_of_peers onPtb_undriven order p s
  wake order cause _ hs := wakeUp_undriven order cause hs
  check {s} _ _ := onSup_undriven _ s
  operating order s _ := .of_live (enterOperating_live order s)
  dormant := tryDormant_undriven
  tick := undriven_blind.tick
  startFailure order s _ := undriven_blind.startFailure order s
  restEnd order s _ := undriven_blind.move order _ _ s
  settle order s := undriven_blind.move order _ _ s
  test order _ _ _ ht := undriven_blind.test order ht
  clear order _ _ ht := undriven_blind.clear order ht

end Sys2Proof.Machine
end

section
/-! SUPPORT. O26: the commands by which a station can fall asleep, the ramp, and the charge target at a set. -/
namespace Sys2Proof.Machine

set_option Elab.async false

variable {s t u : State}

/-! ## The commands judged alone -/

theorem leaveCheck_of_phase (order : List Taker) (h : s.sup.phase ≠ .check) : leaveCheck order s = s :=
  leaveCheck_of_steady order fun hc => absurd hc h

/-- A command whose body drives nothing, or else falls asleep where the step does not. -/
theorem command_undriven {w : Moment} {body : State → State} (hnext : command w body s = .next t)
    (hsleep : t.sup.phase = .dormant → s.sup.phase = .dormant)
    (hbody : (s.upTo w).Undriven (body (s.upTo w)) ∨
      (body (s.upTo w)).sup.phase = .dormant ∧ s.sup.phase ≠ .dormant) : s.Undriven t := by
  cases hnext
  rcases hbody with hbody | ⟨hphase, hs⟩
  · exact undriven_passed.trans (undriven_passed.trans (undriven_passed.quiet (advance_quiet w.elapsed s)) hbody)
      (undriven_byCommands.leaveCheck w.order _)
  · change (body (advance w.elapsed s)).sup.phase = .dormant at hphase
    rw [leaveCheck_of_phase _ (by simp [hphase])] at hsleep
    exact absurd (hsleep hphase) hs

theorem stopStation_phase (order : List Taker) (s : State) : (stopStation order s).sup.phase = .dormant :=
  (fallAsleep_sup order _).1

theorem completeFrame_undriven (order : List Taker) (s : State) :
    s.Undriven (completeFrame order s) ∨
      (completeFrame order s).sup.phase = .dormant ∧ s.sup.entryWait.isSome = true := by
  have hslot : s.Undriven (s.onPli completeSlot) := undriven_passed.quiet (onPli_quiet _ s)
  unfold completeFrame
  split
  · unfold handCompletion
    split
    · exact .inl (undriven_passed.trans hslot (undriven_passed.quiet (rotOnSent_quiet _ _)))
    · exact .inl (undriven_passed.trans hslot (undriven_passed.quiet (rotOnSent_quiet _ _)))
    · unfold quietCompleted
      split
      · next hwait => exact .inr ⟨stopStation_phase order _, hwait.2⟩
      · exact .inl (undriven_passed.trans hslot (undriven_passed.iteRefl (onSup_undriven _ _)))
    · exact .inl hslot
  · exact .inl (undriven_passed.refl s)

/-- What O26 says of the relays, the outputs and the rectifier's limit. -/
def State.OutputsWait (s t : State) : Prop :=
  s.WaitsOn t ∧ (t.sdo.live = false → t.rot.state ≠ s.rot.state →
    t.sdo.outputs.rectIlim.waiting = some (rectTarget t.settings.rot t.rot.state))

theorem State.Undriven.outputsWait (h : s.Undriven t) : s.OutputsWait t :=
  ⟨h.1, fun hl hne => (h.2 hl).resolve_left fun hs => hne hs.1⟩

/-- A step of the ramp leaves the rectifier in its state, or enters RUN. -/
theorem rotRamp_outputsWait (order : List Taker) (n : Nat) (s : State) :
    s.Undriven (rotRamp order n s) ∨ s.WaitsOn (rotRamp order n s) ∧ (rotRamp order n s).rot.state = s.rot.state := by
  unfold rotRamp
  split
  · exact .inr ⟨.trans (t := s.onRot fun r => { r with ramp := some (n + 1) }) (.of_eq rfl rfl rfl rfl)
      (writeTarget_waitsOn _ _ _), rfl⟩
  · refine .inl ⟨(writeTarget_waitsOn _ _ s).trans (enterRect_undriven order _ _).1, fun hl => ?_⟩
    obtain ⟨hstate, -, -, hwaiting⟩ := enterRect_inRectState order .run (writeTarget .rectIlim (rampTarget s.settings.rot 10) s)
    exact .inr (by rw [hstate]; exact hwaiting hl)

theorem rampStep_outputsWait {w : Moment} (hnext : execRampStep w s = .next t) : s.OutputsWait t := by
  have hbefore : s.Undriven (s.upTo w) := undriven_passed.quiet (advance_quiet w.elapsed s)
  have hcommand : ∀ {b : State}, ((s.upTo w).Undriven b ∨ (s.upTo w).WaitsOn b ∧ b.rot.state = (s.upTo w).rot.state) →
      s.OutputsWait (leaveCheck w.order b) := fun {b} hb => by
    have hafter := undriven_byCommands.leaveCheck w.order b
    rcases hb with hb | ⟨hwaits, hstate⟩
    · exact (undriven_passed.trans (undriven_passed.trans hbefore hb) hafter).outputsWait
    · refine ⟨(hbefore.1.trans hwaits).trans hafter.1, fun hl hne => ?_⟩
      refine (hafter.2 hl).resolve_left fun hs => hne (hs.1.trans (hstate.trans ?_))
      rw [upTo_rot]
  rw [execRampStep, command_eq] at hnext
  cases hnext
  refine hcommand ?_
  split
  · split
    · exact rotRamp_outputsWait w.order _ _
    · exact .inl (undriven_passed.refl _)
  · exact .inl (undriven_passed.refl _)

/-- Every command that is no reset and not the end of LOAD, and by which the station does not fall asleep. -/
theorem exec_outputsWait {c : Instr} (hnext : exec c s = .next t) (hwait : s.sup.entryWait.isSome = true → s.operating = true)
    (hload : c.isLoadEnd = false) (hreset : c.canReset = false) (hsleep : t.sup.phase = .dormant → s.sup.phase = .dormant) :
    s.OutputsWait t := by
  have hawake : s.sup.entryWait.isSome = true → s.sup.phase ≠ .dormant := fun h hc => by
    have hop := hwait h
    simp [State.operating, hc] at hop
  by_cases hc : judgedAlone c = false
  · exact (undriven_byCommands.exec hnext hc).outputsWait
  unfold exec at hnext
  cases c <;> dsimp only at hnext
  case powerOn _ | pin _ | brownOut _ | restartReset _ => cases hreset
  case loadEnd _ _ _ => cases hload
  case heldEnd w straps =>
    refine (command_undriven hnext hsleep (.inl ?_)).outputsWait
    exact undriven_passed.iteRefl (onSup_undriven _ _)
  case checkEnd w =>
    refine (command_undriven hnext hsleep ?_).outputsWait
    split
    · next hend =>
      rw [upTo_sup] at hend
      exact .inr ⟨(fallAsleep_sup _ _).1, by simp [hend.1]⟩
    · exact .inl (undriven_passed.refl _)
  case entryWaitTimeout w =>
    refine (command_undriven hnext hsleep ?_).outputsWait
    split
    · next hdue =>
      rw [upTo_sup] at hdue
      exact .inr ⟨stopStation_phase _ _, hawake (isSome_of_due hdue)⟩
    · exact .inl (undriven_passed.refl _)
  case frameComplete w =>
    refine (command_undriven hnext hsleep ?_).outputsWait
    exact (completeFrame_undriven w.order _).imp_right fun h => ⟨h.1, hawake (by simpa using h.2)⟩
  case rampStep w => exact rampStep_outputsWait hnext
  all_goals exact absurd rfl hc

/-! ## The charge target at a set (R23, R53) -/

/-- An output and whether SDO drives are as before. -/
def State.SameOutput (d : Dac) (s t : State) : Prop :=
  t.sdo.live = s.sdo.live ∧ dacGet t.sdo.outputs d = dacGet s.sdo.outputs d

theorem writeRelay_outputs (r : Relay) (v : Bool) (s : State) :
    (writeRelay r v s).sdo.live = s.sdo.live ∧ (writeRelay r v s).sdo.outputs = s.sdo.outputs := by
  rw [writeRelay_sdo]; exact ⟨rfl, rfl⟩

section
variable {d : Dac}

theorem sameOutput_passed : Passed (State.SameOutput d) where
  trans h g := ⟨g.1.trans h.1, g.2.trans h.2⟩
  quiet h := ⟨h.live, by rw [h.outputs]⟩

theorem writeRelay_sameOutput (r : Relay) (v : Bool) (s : State) : State.SameOutput d s (writeRelay r v s) :=
  ⟨(writeRelay_outputs r v s).1, by rw [(writeRelay_outputs r v s).2]⟩

theorem writeTarget_sameOutput {x : Dac} (hx : d ≠ x) (v : Nat) (s : State) : State.SameOutput d s (writeTarget x v s) :=
  ⟨by rw [writeTarget_sdo], (dacGet_writeTarget x d v s).trans (if_neg hx)⟩

theorem recomputeRelays_sameOutput (s : State) : State.SameOutput d s (recomputeRelays s) :=
  sameOutput_passed.recomputeRelays (fun _ _ => ⟨rfl, rfl⟩) (fun _ _ v => writeRelay_sameOutput _ v) s

theorem sameOutput_blind : BlindToGco (State.SameOutput d) where
  toPassed := sameOutput_passed
  point order n _ p s := sameOutput_passed.handPoint (fun _ _ => ⟨rfl, rfl⟩) recomputeRelays_sameOutput
    (sameOutput_passed.recomputeSubs (fun _ _ => ⟨rfl, rfl⟩) recomputeRelays_sameOutput false) order n p s
  onGco _ _ := ⟨rfl, rfl⟩
  demand := writeRelay_sameOutput _
  fuelTaken _ _ _ := ⟨rfl, rfl⟩
  inhibitTaken _ _ := ⟨rfl, rfl⟩

theorem sacOnSet_sameOutput (order : List Taker) (p : Nat) (s : State) : State.SameOutput d s (sacOnSet order p s) :=
  sameOutput_passed.trans (t := s.onSac _) ⟨rfl, rfl⟩ (sameOutput_blind.takeCondition order (by decide) _)

theorem sacOnAbsorbEnd_sameOutput (order : List Taker) (s : State) : State.SameOutput d s (sacOnAbsorbEnd order s) := by
  unfold sacOnAbsorbEnd; split
  · exact sameOutput_passed.iteRefl
      (sameOutput_passed.trans (t := s.onSac _) ⟨rfl, rfl⟩ (sameOutput_blind.takeCondition order (by decide) _))
  · exact sameOutput_passed.refl s

theorem applyLimit_sameOutput (hd : d ≠ .strIlim) (n : Nat) (s : State) : State.SameOutput d s (applyLimit n s) :=
  Passed.ite (R := State.SameOutput d) ⟨rfl, rfl⟩
    (sameOutput_passed.trans (t := s.onCbu _) ⟨rfl, rfl⟩ (writeTarget_sameOutput hd n _))

theorem cbuOnEvent_sameOutput (hd : d ≠ .strIlim) (s : State) : State.SameOutput d s (cbuOnEvent s) :=
  sameOutput_passed.iteRefl (sameOutput_passed.trans (t := s.onCbu _) ⟨rfl, rfl⟩ (applyLimit_sameOutput hd _ _))

theorem cbuOnSet_sameOutput (hd : d ≠ .strIlim) (p n : Nat) (s : State) : State.SameOutput d s (cbuOnSet p n s) :=
  sameOutput_passed.iteRefl (Passed.ite (R := State.SameOutput d) ⟨rfl, rfl⟩
    (sameOutput_passed.trans (t := s.onCbu _) ⟨rfl, rfl⟩ (applyLimit_sameOutput hd _ _)))

theorem aluOnSet_sameOutput (order : List Taker) (s : State) : State.SameOutput d s (aluOnSet order s) :=
  sameOutput_passed.iteRefl (sameOutput_passed.trans
    (sameOutput_passed.trans (t := s.onAlu _) ⟨rfl, rfl⟩ (sameOutput_blind.takeConditions order (by decide) _))
    (sameOutput_blind.fuel order _))

end

/-- SDO drives, or the charge target of CSC waits for it. -/
def State.ChargeTargetWaits (s : State) : Prop :=
  s.sdo.live = false → s.sdo.outputs.strVref.waiting = some s.csc.target

theorem State.ChargeTargetWaits.kept (h : s.ChargeTargetWaits) (hout : State.SameOutput .strVref s t)
    (hcsc : t.csc = s.csc) : t.ChargeTargetWaits := fun hl => by
  have hstr : t.sdo.outputs.strVref = s.sdo.outputs.strVref := hout.2
  rw [hstr, hcsc]
  exact h (hout.1 ▸ hl)

/-- What each taker of CSC's hand-off makes of the state. -/
def cscTakes (order : List Taker) (old new : Csc) (manual : Option Direction) (x : Taker) (s : State) : State :=
  match x with
  | .sdo => writeTarget .strVref new.target (match newCommand old new with | some d => contactorCommand d s | none => s)
  | .alu => takeConditions order [4, 5, 6, 7, 24] s
  | .log =>
    let s := if old.stage ≠ new.stage then logEntry .stage 0 (twoParts old.stage.code new.stage.code) s else s
    match manual with
    | some d => logEntry .contactor 0 (manualValue d) s
    | none => s
  | .sac => if old.stage = .absorb ∧ new.stage = .float then sacOnAbsorbEnd order s else s
  | .cbu => if old.stage ≠ new.stage ∨ old.hot ≠ new.hot then cbuOnEvent s else s
  | .pli => if old.stage ≠ new.stage then requestStatus s else s
  | .sup => if old.stage ≠ new.stage then supOnStage s else s
  | _ => s

theorem cscHand_eq (order : List Taker) (old : Csc) (manual : Option Direction) (s : State) :
    cscHand order old manual s =
      fan order [.sdo, .alu, .log, .sac, .cbu, .pli, .sup] (cscTakes order old s.csc manual) s := rfl

/-- The log's part of CSC's hand-off is quiet. -/
theorem cscTakes_log_quiet (order : List Taker) (old new : Csc) (manual : Option Direction) (s : State) :
    s.Quiet (cscTakes order old new manual .log s) := by
  have hstage : s.Quiet (if old.stage ≠ new.stage then logEntry .stage 0 (twoParts old.stage.code new.stage.code) s else s) :=
    .ite (logEntry_quiet _ _ _ s) (.refl s)
  cases manual with
  | none => exact hstage
  | some d => exact hstage.trans (logEntry_quiet _ _ _ _)

/-- Of the takers of CSC's hand-off SAC alone changes the accountant. -/
theorem cscTakes_changedOnly_of_ne (order : List Taker) (old new : Csc) (manual : Option Direction) {x : Taker}
    (hx : x ≠ .sac) (s : State) : s.ChangedOnly [.sdo, .alu, .pli, .cbu, .sup] (cscTakes order old new manual x s) := by
  cases x with
  | sdo =>
    refine State.ChangedOnly.trans (t := match newCommand old new with | some d => contactorCommand d s | none => s) ?_
      ((writeTarget_changedOnly _ _ _).mono rfl)
    split
    · exact (contactorCommand_changedOnly _ s).mono rfl
    · exact .refl s _
  | alu => exact (takeConditions_changedOnly _ _ s).mono rfl
  | log =>
    have hstage : s.ChangedOnly [.sdo, .alu, .pli, .cbu, .sup]
        (if old.stage ≠ new.stage then logEntry .stage 0 (twoParts old.stage.code new.stage.code) s else s) :=
      .ite ((logEntry_changedOnly _ _ _ s).mono rfl) (.refl s _)
    cases manual with
    | none => exact hstage
    | some d => exact hstage.trans ((logEntry_changedOnly _ _ _ _).mono rfl)
  | sac => exact absurd rfl hx
  | cbu => exact .ite ((cbuOnEvent_changedOnly s).mono rfl) (.refl s _)
  | pli => exact .ite ((requestStatus_changedOnly s).mono rfl) (.refl s _)
  | sup => exact .ite ((supOnStage_changedOnly s).mono rfl) (.refl s _)
  | _ => exact .refl s _

theorem cscTakes_changedOnly (order : List Taker) (old new : Csc) (manual : Option Direction) (x : Taker) (s : State) :
    s.ChangedOnly [.sdo, .alu, .pli, .sac, .cbu, .sup] (cscTakes order old new manual x s) := by
  by_cases hx : x = .sac
  · subst hx; exact .ite ((sacOnAbsorbEnd_changedOnly _ s).mono rfl) (.refl s _)
  · exact (cscTakes_changedOnly_of_ne order old new manual hx s).mono rfl

/-- Of the takers of CSC's hand-off SDO alone writes the outputs, but for the string's current limit. -/
theorem cscTakes_sameOutput {d : Dac} (hd : d ≠ .strIlim) (order : List Taker) (old new : Csc) (manual : Option Direction)
    {x : Taker} (hx : x ≠ .sdo) (s : State) : State.SameOutput d s (cscTakes order old new manual x s) := by
  cases x with
  | sdo => exact absurd rfl hx
  | alu => exact sameOutput_blind.takeConditions order (by decide) s
  | log => exact sameOutput_passed.quiet (cscTakes_log_quiet ..)
  | sac => exact sameOutput_passed.iteRefl (sacOnAbsorbEnd_sameOutput order s)
  | cbu => exact sameOutput_passed.iteRefl (cbuOnEvent_sameOutput hd s)
  | pli => exact sameOutput_passed.iteRefl (sameOutput_passed.quiet (requestStatus_quiet s))
  | sup =>
    refine sameOutput_passed.iteRefl ?_
    have hsdo := (supOnStage_changedOnly s).sdo
    exact ⟨by rw [hsdo], by rw [hsdo]⟩
  | _ => exact sameOutput_passed.refl s

/-- CSC's hand-off leaves its target waiting (R53). -/
theorem cscHand_chargeTargetWaits (order : List Taker) (old : Csc) (manual : Option Direction) (s : State) :
    (cscHand order old manual s).ChargeTargetWaits := by
  rw [cscHand_eq]
  have hcsc : ∀ (x : Taker) (u : State), (cscTakes order old s.csc manual x u).csc = u.csc := fun x u =>
    (cscTakes_changedOnly order old s.csc manual x u).csc
  have hsdo : ∀ u : State, u.csc = s.csc → (cscTakes order old s.csc manual .sdo u).ChargeTargetWaits := fun u hu hl => by
    rw [hcsc, hu]
    unfold cscTakes at hl ⊢
    dsimp only at hl ⊢
    generalize (match newCommand old s.csc with | some d => contactorCommand d u | none => u) = y at hl ⊢
    rw [writeTarget_sdo] at hl
    have hwritten := dacGet_writeTarget .strVref .strVref s.csc.target y
    rw [if_pos rfl, show y.sdo.live = false from hl] at hwritten
    exact congrArg Output.waiting hwritten
  refine (fan_establishes order (I := fun u => u.csc = s.csc) (P := fun u => u.ChargeTargetWaits ∧ u.csc = s.csc) .sdo
    (by decide) (fun x _ _ u hu => (hcsc x u).trans hu) (fun u hu => ⟨hsdo u hu, (hcsc .sdo u).trans hu⟩)
    (fun x _ u hu => ⟨?_, (hcsc x u).trans hu.2⟩) s rfl).1
  by_cases hx : x = .sdo
  · subst hx; exact hsdo u hu.2
  · exact hu.1.kept (cscTakes_sameOutput (by decide) order old s.csc manual hx u) (hcsc x u)

/-- A set delivered leaves the target of the charge stage waiting. -/
theorem deliverSet_chargeTargetWaits (order : List Taker) (p n : Nat) (s : State) :
    (deliverSet order p n s).ChargeTargetWaits := by
  refine fan_establishes order (I := fun _ => True) .csc (by decide) (fun _ _ _ _ _ => trivial)
    (fun u _ => cscHand_chargeTargetWaits order _ _ _) (fun x hx u hu => ?_) s trivial
  simp only [List.mem_cons, List.not_mem_nil, or_false] at hx
  rcases hx with rfl | rfl | rfl | rfl | rfl
  · exact hu.kept (sameOutput_blind.takeCondition order (by decide) u) (takeCondition_changedOnly _ _ u).csc
  · exact hu.kept (sacOnSet_sameOutput order p u) (sacOnSet_changedOnly order p u).csc
  · exact cscHand_chargeTargetWaits order _ _ _
  · exact hu.kept (cbuOnSet_sameOutput (by decide) p n u) (cbuOnSet_changedOnly p n u).csc
  · exact hu.kept (aluOnSet_sameOutput order u) (aluOnSet_changedOnly order u).csc

theorem measurementSet_chargeTargetWaits {w : Moment} {sums : PerChannel Nat} (hnext : exec (.measurementSet w sums) s = .next t)
    (hawake : s.awake = true) (hperiod : s.mch.period.isSome = true) : t.ChargeTargetWaits := fun hl => by
  unfold exec at hnext
  dsimp only at hnext
  rw [execMeasurementSet] at hnext
  split at hnext
  · rw [command_eq] at hnext
    cases hnext
    have hset : (endPeriod w.order sums (s.upTo w)).ChargeTargetWaits := by
      obtain ⟨p, hp⟩ := Option.isSome_iff_exists.mp hperiod
      unfold endPeriod
      rw [upTo_mch, hp]
      dsimp only
      rw [if_pos (by simpa using hawake)]
      exact deliverSet_chargeTargetWaits _ _ _ _
    generalize endPeriod w.order sums (s.upTo w) = x at hset hl
    unfold leaveCheck at hl ⊢
    split
    · next hfound => rw [if_pos hfound, enterOperating_live] at hl; cases hl
    · next hfound => rw [if_neg hfound] at hl; exact hset hl
  · cases hnext

/-- Settles O26: the operations drive nothing while SDO does not, and what the owners write waits. -/
theorem outputsAreNotDrivenBeforeOperating : Obligations.OutputsAreNotDrivenBeforeOperating := by
  intro c s t hnext hwait hs ht hload hreset hsleep
  obtain ⟨hwaits, hrect⟩ := exec_outputsWait hnext hwait hload hreset hsleep
  obtain ⟨-, -, hrelays, hout⟩ := hwaits ht
  refine ⟨hrelays, hout, hrect ht, fun hset hawake hperiod => ?_⟩
  cases c with
  | measurementSet w sums => exact measurementSet_chargeTargetWaits hnext hawake hperiod ht
  | _ => cases hset

end Sys2Proof.Machine
end

section
/-! SUPPORT. LISTEN entry at a start, as LOAD's findings and the lockout record see it, and O30 (R176 to R178). -/
namespace Sys2Proof.Machine

set_option Elab.async false

variable {s t u : State}

/-! ## What LISTEN entry leaves of the lockout record and of the findings of LOAD -/

/-- The findings and the kind of the start, the lockout record and, of a generator that is not demanded, the state and the
exercise counter. -/
structure State.StartKept (s t : State) : Prop where
  retainLost : t.sup.retainLost = s.sup.retainLost
  resetKind : t.sup.resetKind = s.sup.resetKind
  lockSet : t.gco.lockSet = s.gco.lockSet
  epoch : t.gco.epoch = s.gco.epoch
  unsettled : t.gco.unsettled = s.gco.unsettled
  resting : s.gco.state.demanding = false →
    t.gco.state = s.gco.state ∧ t.gco.exMinutes = s.gco.exMinutes ∧ t.gco.exSeconds = s.gco.exSeconds

namespace State.StartKept

theorem of_eq (hsup : t.sup = s.sup) (hgco : t.gco = s.gco) : s.StartKept t := by
  constructor <;> simp [hsup, hgco]

theorem refl (s : State) : s.StartKept s := .of_eq rfl rfl

theorem trans (h : s.StartKept t) (g : t.StartKept u) : s.StartKept u where
  retainLost := g.retainLost.trans h.retainLost
  resetKind := g.resetKind.trans h.resetKind
  lockSet := g.lockSet.trans h.lockSet
  epoch := g.epoch.trans h.epoch
  unsettled := g.unsettled.trans h.unsettled
  resting hd := by
    obtain ⟨hstate, hminutes, hseconds⟩ := h.resting hd
    obtain ⟨hstate', hminutes', hseconds'⟩ := g.resting (hstate ▸ hd)
    exact ⟨hstate'.trans hstate, hminutes'.trans hminutes, hseconds'.trans hseconds⟩

/-- An operation of other parts than SUP's and GCO's. -/
theorem of_changedOnly {parts : List Part} (h : s.ChangedOnly parts t) (hsup : .sup ∉ parts := by decide)
    (hgco : .gco ∉ parts := by decide) : s.StartKept t := .of_eq (h.sup hsup) (h.gco hgco)

theorem fan (order : List Taker) {takers : List Taker} {f : Taker → State → State}
    (hf : ∀ x ∈ takers, ∀ s, State.StartKept s (f x s)) (s : State) : s.StartKept (fan order takers f s) :=
  fan_induction order (P := State.StartKept s) (fun x hx _ ht => ht.trans (hf x hx _)) s (.refl s)

theorem ite {c : Prop} [Decidable c] (h : s.StartKept t) (g : s.StartKept u) : s.StartKept (if c then t else u) := by
  split <;> assumption

end State.StartKept

theorem beginWrite_startKept (s : State) : s.StartKept (beginWrite s) := ⟨rfl, rfl, rfl, rfl, rfl, fun _ => ⟨rfl, rfl, rfl⟩⟩

theorem triggerWrite_startKept (s : State) : s.StartKept (triggerWrite s) :=
  .ite ⟨rfl, rfl, rfl, rfl, rfl, fun _ => ⟨rfl, rfl, rfl⟩⟩ (beginWrite_startKept s)

theorem beginPendingWrite_startKept (s : State) : s.StartKept (beginPendingWrite s) :=
  .ite ((beginWrite_startKept s).trans ⟨rfl, rfl, rfl, rfl, rfl, fun _ => ⟨rfl, rfl, rfl⟩⟩) (.refl s)

theorem takeCondition_startKept (order : List Taker) (n : Nat) (s : State) : s.StartKept (takeCondition order n s) :=
  .of_changedOnly (takeCondition_changedOnly order n s)

theorem takeConditions_startKept (order : List Taker) (ns : List Nat) (s : State) :
    s.StartKept (takeConditions order ns s) := .of_changedOnly (takeConditions_changedOnly order ns s)

theorem gcoTakes_pli_changedOnly (order : List Taker) (old new : Gco) (adopted : Bool) (gen : Option (List Byte))
    (logs : List (LogKind × Nat × Nat)) (s : State) : s.ChangedOnly [.pli] (gcoTakes order old new adopted gen logs .pli s) := by
  have hreq : ∀ (c : Prop) [Decidable c] (x : State), x.ChangedOnly [.pli] (if c then x else requestStatus x) := fun c _ x =>
    .ite (.refl x _) (requestStatus_changedOnly x)
  have hreq' : ∀ (c : Prop) [Decidable c] (x : State), x.ChangedOnly [.pli] (if c then requestStatus x else x) :=
    fun c _ x => .ite (requestStatus_changedOnly x) (.refl x _)
  cases gen with
  | none => exact (hreq _ s).trans (hreq' _ _)
  | some p => exact ((enqueue_changedOnly _ _ s).trans (hreq _ _)).trans (hreq' _ _)

theorem gcoHand_startKept (order : List Taker) (old : Gco) (adopted : Bool) (gen : Option (List Byte))
    (logs : List (LogKind × Nat × Nat)) (s : State) : s.StartKept (gcoHand order old adopted gen logs s) := by
  rw [gcoHand_eq]
  refine .fan order (fun x _ u => ?_) s
  cases x with
  | sdo => exact .ite (.refl u) (.of_eq rfl rfl)
  | pli => exact .of_changedOnly (gcoTakes_pli_changedOnly order old s.gco adopted gen logs u)
  | log => exact .of_changedOnly (foldl_changedOnly (fun u _ => logEntry_changedOnly _ _ _ u) logs u)
  | alu => exact takeConditions_startKept order _ u
  | sup => exact .trans (.ite (beginPendingWrite_startKept u) (.refl u)) (.ite (triggerWrite_startKept _) (.refl _))
  | _ => exact .refl u

/-- A release keeps the lockout record. -/
theorem gcoRelease_startKept (order : List Taker) (hd : s.gco.state.demanding = true) : s.StartKept (gcoRelease order s) :=
  .trans (t := s.onGco (gcoDepart .idle s.now)) ⟨rfl, rfl, rfl, rfl, rfl, fun h => absurd (hd.symm.trans h) (by decide)⟩
    (gcoHand_startKept order s.gco false none (releaseLog s.gco) _)

theorem gcoOnFuel_startKept (order : List Taker) (s : State) : s.StartKept (gcoOnFuel order s) := by
  have hinput : s.StartKept (s.onGco fun g => { g with fuelLow := s.alu.effFuel }) :=
    ⟨rfl, rfl, rfl, rfl, rfl, fun _ => ⟨rfl, rfl, rfl⟩⟩
  unfold gcoOnFuel; dsimp only
  split
  · next hends => exact hinput.trans (gcoRelease_startKept order hends.2)
  · exact hinput

theorem gcoOnInhibit_startKept (order : List Taker) (s : State) : s.StartKept (gcoOnInhibit order s) := by
  have hinput : s.StartKept (s.onGco fun g => { g with inhibit := s.alu.effInhibit }) :=
    ⟨rfl, rfl, rfl, rfl, rfl, fun _ => ⟨rfl, rfl, rfl⟩⟩
  unfold gcoOnInhibit; dsimp only
  split
  · next hends => exact hinput.trans (gcoRelease_startKept order hends.2)
  · exact hinput

theorem recomputeFuel_startKept (order : List Taker) (s : State) : s.StartKept (recomputeFuel order s) := by
  rw [recomputeFuel_eq]
  refine .ite (.trans (t := s.onAlu _) (.of_eq rfl rfl) (.fan order (fun x _ u => ?_) _)) (.of_eq rfl rfl)
  cases x with
  | alu => exact takeCondition_startKept order 14 u
  | gco => exact gcoOnFuel_startKept order u
  | log => exact .of_changedOnly (logEntry_changedOnly _ _ _ u)
  | _ => exact .refl u

theorem recomputeInhibit_startKept (order : List Taker) (s : State) : s.StartKept (recomputeInhibit order s) := by
  refine .ite (.trans (t := s.onAlu fun a => { a with effInhibit := s.targetValue .genInhibitFn }) (.of_eq rfl rfl)
    (.fan order ?_ _)) (.of_eq rfl rfl)
  simp only [List.forall_mem_cons]
  exact ⟨gcoOnInhibit_startKept order, fun u => .of_changedOnly (logEntry_changedOnly _ _ _ u), List.forall_mem_nil _⟩

theorem aluOnListen_startKept (order : List Taker) (s : State) : s.StartKept (aluOnListen order s) := by
  have hrun : s.StartKept (s.onAlu fun a => { a with running := true }) := .of_eq rfl rfl
  rw [aluOnListen]
  generalize (s.onAlu fun a => { a with running := true }) = x at hrun ⊢
  refine (hrun.trans (takeConditions_startKept order _ x)).trans (.ite ?_ (.refl _))
  exact (State.StartKept.of_changedOnly (recomputeSubs_changedOnly true _)).trans
    ((recomputeFuel_startKept order _).trans (recomputeInhibit_startKept order _))

/-! ## LISTEN entry at a start -/

theorem startTakes_changedOnly (order : List Taker) (x : Taker) (s : State) :
    s.ChangedOnly [.mch, .pli, .sdo, .alu, .gco, .sup] (listenTakes order false x s) := by
  cases x with
  | mch => exact (onMch_changedOnly _ s).mono rfl
  | pli => exact (onPli_changedOnly _ s).mono rfl
  | rot => exact (rectDrive_changedOnly s).mono rfl
  | alu => exact (aluOnListen_changedOnly order s).mono rfl
  | _ => exact .refl s _

theorem startEntry_changedOnly (order : List Taker) (s : State) :
    s.ChangedOnly [.mch, .pli, .sdo, .alu, .gco, .sup] (listenEntry order false s) := by
  rw [listenEntry_takes]
  exact ((onSup_changedOnly _ s).mono rfl).trans (fan_changedOnly order _ (startTakes_changedOnly order) _)

theorem startEntry_startKept (order : List Taker) (s : State) : s.StartKept (listenEntry order false s) := by
  rw [listenEntry_takes]
  refine .trans (t := s.onSup fun x => { x with phase := .listen, mode := .full, listenEnd := s.now + 3000, found := false })
    ⟨rfl, rfl, rfl, rfl, rfl, fun _ => ⟨rfl, rfl, rfl⟩⟩ (.fan order (fun x _ u => ?_) _)
  cases x with
  | rot => exact .of_changedOnly (rectDrive_changedOnly u)
  | alu => exact aluOnListen_startKept order u
  | _ => exact .of_eq rfl rfl

theorem startEntry_running (order : List Taker) (s : State) : (listenEntry order false s).alu.running = true := by
  rw [listenEntry_takes]
  refine fan_part order (fun s : State => s.alu.running) (fun _ => true) .alu (by decide) (fun _ => rfl)
    (fun u => ?_) (fun y _ hy u => ?_) _
  · rw [show listenTakes order false .alu u = aluOnListen order u from rfl, aluOnListen_running]
  · cases y with
    | alu => exact absurd rfl hy
    | rot => exact congrArg Alu.running (rectDrive_changedOnly u).alu
    | _ => rfl

/-- ROT's own demand waits from LISTEN entry on (R122). -/
theorem startEntry_rectWaits (order : List Taker) (hlive : s.sdo.live = false) (hrot : s.rot.state = .noInput) :
    (listenEntry order false s).sdo.outputs.rectIlim.waiting = some 0 := by
  have hkept : ∀ (x : Taker), x ≠ .rot → ∀ u : State, u.RectOutKept (listenTakes order false x u) := fun x hx u => by
    cases x with
    | rot => exact absurd rfl hx
    | alu => exact aluOnListen_keepsBut order u .rectOut (by decide)
    | _ => exact ⟨rfl, rfl, rfl⟩
  have hdrive : ∀ u : State, u.sdo.live = false ∧ u.rot.state = .noInput →
      (rectDrive u).sdo.live = false ∧ (rectDrive u).rot.state = .noInput ∧
        (rectDrive u).sdo.outputs.rectIlim.waiting = some 0 := fun u hu => by
    have hl : (rectDrive u).sdo.live = false := (rectDrive_live u).trans hu.1
    have hstate : (rectDrive u).rot.state = .noInput := (congrArg Rot.state (rectDrive_changedOnly u).rot).trans hu.2
    refine ⟨hl, hstate, ?_⟩
    have hwaiting := (rectDrive_rectDriven u).2 hl
    rwa [hstate] at hwaiting
  rw [listenEntry_takes]
  generalize hx : (s.onSup fun x => { x with phase := .listen, mode := .full, listenEnd := s.now + 3000, found := false }) = y
  have hy : y.sdo.live = false ∧ y.rot.state = .noInput := by rw [← hx]; exact ⟨hlive, hrot⟩
  refine (fan_establishes order (f := listenTakes order false) (takers := listenTakers)
    (I := fun u => u.sdo.live = false ∧ u.rot.state = .noInput)
    (P := fun u => u.sdo.live = false ∧ u.rot.state = .noInput ∧ u.sdo.outputs.rectIlim.waiting = some 0) .rot (by decide)
    (fun x _ hne u hu => ?_) (fun u hu => hdrive u hu) (fun x _ u hu => ?_) y hy).2.2
  · exact ⟨(hkept x hne u).1.trans hu.1,
      (congrArg Rot.state (startTakes_changedOnly order x u).rot).trans hu.2⟩
  · by_cases hne : x = .rot
    · subst hne; exact hdrive u ⟨hu.1, hu.2.1⟩
    · obtain ⟨hl, -, hilim⟩ := hkept x hne u
      exact ⟨hl.trans hu.1, (congrArg Rot.state (startTakes_changedOnly order x u).rot).trans hu.2.1,
        (congrArg Output.waiting hilim).trans hu.2.2⟩

end Sys2Proof.Machine
end

section
/-! SUPPORT. The end of LOAD (R36, R47, R58, R122, R138, R158, R176 to R178, R183), and O30. -/
namespace Sys2Proof.Machine

set_option Elab.async false

variable {s t u : State}

/-! ## What LOAD gives each block -/

theorem takeRetained_sac (a : SacSettings) (v : Option Retained) (s : State) :
    (takeRetained a v s).sac = if s.sup.resetKind.keepsRam then s.sac else sacRetained a v s.sac := by
  unfold takeRetained; split <;> rfl

theorem takeRetained_csc (a : SacSettings) (v : Option Retained) (s : State) :
    (takeRetained a v s).csc = if s.sup.resetKind.keepsRam then s.csc else cscRetained v s.csc := by
  unfold takeRetained; split <;> rfl

theorem takeRetained_rot (a : SacSettings) (v : Option Retained) (s : State) :
    (takeRetained a v s).rot = if s.sup.resetKind.keepsRam then s.rot else rotRetained v s.rot := by
  unfold takeRetained; split <;> rfl

theorem loadBlocks_sac (found : Nat → Found) (s : State) :
    (loadBlocks found s).sac = sacAtLoad (loadedSettings found).sac (if s.sup.resetKind.keepsRam then s.sac
      else sacRetained (loadedSettings found).sac (retainedFrom (found 13)) s.sac) :=
  congrArg (sacAtLoad (loadedSettings found).sac)
    (takeRetained_sac (loadedSettings found).sac (retainedFrom (found 13)) (s.onSettings fun _ => loadedSettings found))

theorem loadBlocks_csc (found : Nat → Found) (s : State) :
    (loadBlocks found s).csc =
      if s.sup.resetKind.keepsRam then s.csc else cscRetained (retainedFrom (found 13)) s.csc :=
  takeRetained_csc (loadedSettings found).sac (retainedFrom (found 13)) (s.onSettings fun _ => loadedSettings found)

theorem loadBlocks_rot (found : Nat → Found) (s : State) :
    (loadBlocks found s).rot =
      if s.sup.resetKind.keepsRam then s.rot else rotRetained (retainedFrom (found 13)) s.rot :=
  takeRetained_rot (loadedSettings found).sac (retainedFrom (found 13)) (s.onSettings fun _ => loadedSettings found)

/-- SUP's fields that LOAD gives; which finding makes the CONFIG condition is left open. -/
theorem loadBlocks_sup (found : Nat → Found) (s : State) :
    ∃ part, (loadBlocks found s).sup =
      { s.sup with configFault := foundBad (found 0), digest := plantDigest (loadedSettings found), configPart := part
                   retainLost := foundBad (found 13), periodicAt := some (s.now + 900000) } := by
  have hsup := loadTaken_sup found s
  have hclock : (loadTaken found s).clock = s.clock :=
    (takeRetained_changedOnly (loadedSettings found).sac (retainedFrom (found 13))
      (s.onSettings fun _ => loadedSettings found)).clock
  have hblocks : ∃ part, (loadBlocks found s).sup =
      { (loadTaken found s).sup with
        configFault := foundBad (found 0), digest := plantDigest (loadedSettings found), configPart := part
        retainLost := foundBad (found 13), periodicAt := some ((loadTaken found s).now + 900000) } := ⟨_, rfl⟩
  obtain ⟨part, hpart⟩ := hblocks
  exact ⟨part, by rw [hpart, hsup, State.now, hclock]; rfl⟩

theorem loadBlocks_changedOnly (found : Nat → Found) (s : State) :
    s.ChangedOnly [.settings, .mch, .sdo, .sac, .csc, .rot, .gco, .alu, .sup] (loadBlocks found s) := by
  have htaken : s.ChangedOnly [.settings, .mch, .sdo, .sac, .csc, .rot, .gco, .alu, .sup] (loadTaken found s) :=
    ((onSettings_changedOnly _ s).mono rfl).trans ((takeRetained_changedOnly _ _ _).mono rfl)
  exact ((htaken.trans ((onMch_changedOnly _ _).mono rfl)).trans ((onSdo_changedOnly _ _).mono rfl)).trans
    (((onSac_changedOnly _ _).mono rfl).trans (((onAlu_changedOnly _ _).mono rfl).trans ((onSup_changedOnly _ _).mono rfl)))

/-! ## The end of LOAD -/

/-- What LOAD reads of the store with the cells that were programmed. -/
def loadFound (programmed : List (Nat × Byte)) (silent : List Nat) (s : State) : Nat → Found :=
  readRecord (storeProgram s.store programmed) silent

/-- The state that LOAD gives the blocks before the entries are made. -/
def loaded (programmed : List (Nat × Byte)) (silent : List Nat) (s : State) : State :=
  loadBlocks (loadFound programmed silent s) (s.onStore fun m => storeProgram m programmed)

/-- What LOAD gives of SUP, with what the start left (R36, R176, R177, R183). -/
theorem loaded_sup (programmed : List (Nat × Byte)) (silent : List Nat) (s : State) :
    (loaded programmed silent s).sup.number = s.sup.number ∧ (loaded programmed silent s).sup.resetKind = s.sup.resetKind ∧
      (loaded programmed silent s).sup.configFault = (loadFound programmed silent s 0).isLeft ∧
      (loaded programmed silent s).sup.digest = plantDigest (loadedSettings (loadFound programmed silent s)) ∧
      (loaded programmed silent s).sup.retainLost = (loadFound programmed silent s 13).isLeft := by
  obtain ⟨part, hsup⟩ := loadBlocks_sup (loadFound programmed silent s) (s.onStore fun m => storeProgram m programmed)
  simp only [loaded, hsup, foundBad, State.onStore_sup, and_self]

theorem loaded_calDefault (programmed : List (Nat × Byte)) (silent : List Nat) (s : State) :
    (loaded programmed silent s).mch.calDefault =
      (List.range 12).any fun i => foundBad (loadFound programmed silent s (i + 1)) := by
  obtain ⟨c, hmch⟩ := loadBlocks_mch (loadFound programmed silent s) (s.onStore fun m => storeProgram m programmed)
  rw [loaded, hmch]
  rfl

theorem loadNotes_changedOnly (programmed : List (Nat × Byte)) (silent : List Nat) (s : State) :
    (loaded programmed silent s).ChangedOnly [.alu, .sup] (loadNotes programmed silent s) :=
  (((logEntry_changedOnly _ _ _ _).mono rfl).trans
    (foldl_changedOnly (fun _ _ => (logEntry_changedOnly _ _ _ _).mono rfl) _ _)).trans
      ((beginPendingWrite_changedOnly _).mono rfl)

theorem loadNotes_keeps (programmed : List (Nat × Byte)) (silent : List Nat) (s : State) :
    (loaded programmed silent s).KeepsBut [] (loadNotes programmed silent s) :=
  ((logEntry_keeps _ _ _ _).trans (foldl_keepsBut (fun _ _ => logEntry_keeps _ _ _ _) _ _)).trans
    (beginPendingWrite_keeps _)

theorem loadNotes_startKept (programmed : List (Nat × Byte)) (silent : List Nat) (s : State) :
    (loaded programmed silent s).StartKept (loadNotes programmed silent s) := by
  have hlogs : ∀ (xs : List Nat) (x : State), x.StartKept (xs.foldl (fun s v => logEntry .store 0 v s) x) := fun xs x =>
    .of_changedOnly (foldl_changedOnly (l := [.alu]) (fun _ _ => logEntry_changedOnly _ _ _ _) xs x)
  exact ((State.StartKept.of_changedOnly (logEntry_changedOnly _ _ _ _)).trans (hlogs _ _)).trans
    (beginPendingWrite_startKept _)

/-- The end of LOAD leaves the retained quantities, the settings and the findings that LOAD gave. -/
theorem endLoad_loaded (order : List Taker) (programmed : List (Nat × Byte)) (silent : List Nat) (s : State) :
    (loaded programmed silent s).StartKept (endLoad order programmed silent s) ∧
      (loaded programmed silent s).ChangedOnly [.mch, .pli, .sdo, .alu, .gco, .sup] (endLoad order programmed silent s) := by
  rw [endLoad_eq]
  exact ⟨(loadNotes_startKept programmed silent s).trans (startEntry_startKept order _),
    ((loadNotes_changedOnly programmed silent s).mono rfl).trans (startEntry_changedOnly order _)⟩

theorem endLoad_phase (order : List Taker) (programmed : List (Nat × Byte)) (silent : List Nat) (s : State) :
    (endLoad order programmed silent s).sup.phase = .listen :=
  (listenEntry_keepsBut order false (loadNotes programmed silent s) .schedule (by decide)).2.1

theorem exec_loadEnd (w : Moment) (programmed : List (Nat × Byte)) (silent : List Nat) (hs : s.sup.phase = .load) :
    exec (.loadEnd w programmed silent) s = .next (endLoad w.order programmed silent (s.upTo w)) := by
  have hload : (s.upTo w).sup.phase = .load := by rw [upTo_sup, hs]
  change execLoadEnd w programmed silent s = _
  rw [execLoadEnd, command_eq, if_pos hload, leaveCheck_of_phase _ (by rw [endLoad_phase]; decide)]

theorem endLoad_changedOnly (order : List Taker) (programmed : List (Nat × Byte)) (silent : List Nat) (s : State) :
    s.ChangedOnly [.settings, .mch, .sdo, .sac, .csc, .rot, .gco, .alu, .sup, .pli, .store]
      (endLoad order programmed silent s) :=
  (((onStore_changedOnly _ s).mono rfl).trans ((loadBlocks_changedOnly _ _).mono rfl)).trans
    ((endLoad_loaded order programmed silent s).2.mono rfl)

/-- LISTEN lasts 3 s in FULL from the end of LOAD, and the periodic write timer runs (R178, R183). -/
theorem endLoad_schedule (order : List Taker) (programmed : List (Nat × Byte)) (silent : List Nat) (hs : s.sup.phase = .load) :
    (endLoad order programmed silent s).sup.mode = .full ∧
      (endLoad order programmed silent s).sup.listenEnd = s.now + 3000 ∧
      (endLoad order programmed silent s).sup.startCause = s.sup.startCause ∧
      (endLoad order programmed silent s).sup.periodicAt = some (s.now + 900000) := by
  obtain ⟨part, hsup⟩ := loadBlocks_sup (loadFound programmed silent s) (s.onStore fun m => storeProgram m programmed)
  change (loaded programmed silent s).sup = _ at hsup
  have hclock : (loaded programmed silent s).clock = s.clock :=
    (((onStore_changedOnly _ s).mono rfl).trans ((loadBlocks_changedOnly _ _).mono
      (m := [.settings, .mch, .sdo, .sac, .csc, .rot, .gco, .alu, .sup, .store]) rfl)).clock
  obtain ⟨nclock, nphase, ncause, -, -, -, nperiodic⟩ := loadNotes_keeps programmed silent s .schedule (by decide)
  have hentry := listenEntry_keepsBut order false (loadNotes programmed silent s)
  obtain ⟨-, -, tcause, -, tlisten, -, tperiodic⟩ := hentry .schedule (by decide)
  obtain ⟨-, tmode, -⟩ := hentry .idle (by decide) rfl
  have hnow : (loadNotes programmed silent s).now = s.now := by rw [State.now, State.now, nclock, hclock]
  have hperiodic : (loadNotes programmed silent s).sup.periodicAt = some (s.now + 900000) := by
    rcases nperiodic with h | h
    · rw [h, hsup]; rfl
    · rw [h, hsup, periodicFrom]; dsimp only; rw [State.onStore_sup, hs]; rfl
  rw [endLoad_eq]
  refine ⟨tmode, tlisten.trans (congrArg (· + 3000) hnow), tcause.trans (ncause.trans (by rw [hsup]; rfl)), ?_⟩
  rcases tperiodic with h | h
  · exact h.trans hperiodic
  · exact h.trans (congrArg (fun n => some (n + 900000)) hnow)

/-- The settings, the digest and the findings of LOAD, and the number of the straps (R36, R176, R177). -/
theorem endLoad_config (order : List Taker) (programmed : List (Nat × Byte)) (silent : List Nat) (s : State) :
    (loaded programmed silent s).ConfigKept (endLoad order programmed silent s) ∧
      (endLoad order programmed silent s).sup.number = (loaded programmed silent s).sup.number := by
  have hnotes := loadNotes_keeps programmed silent s
  have hentry := listenEntry_keepsBut order false (loadNotes programmed silent s)
  have hphase : (loadNotes programmed silent s).ConfigKept ((loadNotes programmed silent s).onSup fun x =>
      { x with phase := .listen, mode := .full, listenEnd := (loadNotes programmed silent s).now + 3000, found := false }) :=
    ⟨rfl, rfl, rfl, rfl, fun _ => rfl, fun _ => rfl⟩
  have hconfig : (loaded programmed silent s).ConfigKept (endLoad order programmed silent s) := by
    obtain ⟨n1, n2, n3, n4, n5, n6⟩ := hnotes .config (by decide)
    obtain ⟨t1, t2, t3, t4, t5, t6⟩ := hentry .config (by decide)
    exact ⟨Eq.trans t1 n1, Eq.trans t2 n2, Eq.trans t3 n3, Eq.trans t4 n4, fun ch => Eq.trans (t5 ch) (n5 ch),
      fun d => Eq.trans (t6 d) (n6 d)⟩
  exact ⟨hconfig, Eq.trans (hentry .number (by decide)) (hnotes .number (by decide))⟩

theorem loadedSettings_inr {found : Nat → Found} {b : List Byte} (h : found 0 = .inr b) :
    loadedSettings found = loadSettings b := by rw [loadedSettings, h]

theorem loadedSettings_isLeft {found : Nat → Found} (h : (found 0).isLeft = true) : loadedSettings found = .builtIn := by
  cases hf : found 0 with
  | inl e => rw [loadedSettings, hf]
  | inr b => rw [hf] at h; cases h

theorem retainedFrom_isLeft {f : Found} (h : f.isLeft = true) : retainedFrom f = none := by
  cases f with
  | inl e => rfl
  | inr b => cases h

/-- A calibration record that failed makes CAL_DEFAULT (R177). -/
theorem calDefault_iff (found : Nat → Found) :
    ((List.range 12).any fun i => foundBad (found (i + 1))) = true ↔ ∃ n, 1 ≤ n ∧ n ≤ 12 ∧ (found n).isLeft = true := by
  simp only [List.any_eq_true, List.mem_range, foundBad]
  constructor
  · rintro ⟨i, hi, h⟩; exact ⟨i + 1, by omega, by omega, h⟩
  · rintro ⟨n, h1, h12, h⟩; exact ⟨n - 1, by omega, by rwa [Nat.sub_add_cancel h1]⟩

/-! ## The parts of O30 -/

theorem heldEnd_effect (w : Moment) (straps : BitVec 4) (hs : s.sup.phase = .held) :
    exec (.heldEnd w straps) s = .next ((s.upTo w).onSup fun x => { x with phase := .load, number := straps.toNat }) := by
  have hheld : (s.upTo w).sup.phase = .held := by rw [upTo_sup, hs]
  change execHeldEnd w straps s = _
  rw [execHeldEnd, command_eq, if_pos hheld, leaveCheck_of_phase _ (by simp)]

theorem loadEnd_effect (w : Moment) (programmed : List (Nat × Byte)) (silent : List Nat) (hs : s.sup.phase = .load) :
    ∃ t, exec (.loadEnd w programmed silent) s = .next t ∧
      (t.sup.phase = .listen ∧ t.sup.mode = .full ∧ t.sup.listenEnd = (s.upTo w).now + 3000) ∧
      t.store = storeProgram s.store programmed ∧
      (∀ b, readRecord t.store silent 0 = .inr b → t.settings = loadSettings b ∧ t.sup.configFault = false) ∧
      ((readRecord t.store silent 0).isLeft = true → t.settings = .builtIn ∧ t.sup.configFault = true) ∧
      t.sup.digest = plantDigest t.settings ∧
      (t.mch.calDefault = true ↔ ∃ r, 1 ≤ r ∧ r ≤ 12 ∧ (readRecord t.store silent r).isLeft = true) ∧
      t.sup.retainLost = (readRecord t.store silent 13).isLeft ∧
      (t.sup.number = s.sup.number ∧ t.sup.resetKind = s.sup.resetKind ∧ t.sup.startCause = s.sup.startCause) ∧
      t.sup.periodicAt = some ((s.upTo w).now + 900000) ∧
      t.alu.running = true ∧
      (t.sac.frozen = false ∧ t.sac.resyncDwell = 0) ∧
      (s.sdo.live = false → s.rot.state = .noInput → t.sdo.outputs.rectIlim.waiting = some 0) ∧
      (s.upTo w).ChangedOnly [.settings, .mch, .sdo, .sac, .csc, .rot, .gco, .alu, .sup, .pli, .store] t := by
  have hload : (s.upTo w).sup.phase = .load := by rw [upTo_sup, hs]
  refine ⟨_, exec_loadEnd w programmed silent hs, ?_⟩
  have hfound : loadFound programmed silent (s.upTo w) = readRecord (storeProgram s.store programmed) silent := by
    rw [loadFound, upTo_store]
  have hrot : s.sdo.live = false → s.rot.state = .noInput →
      (endLoad w.order programmed silent (s.upTo w)).sdo.outputs.rectIlim.waiting = some 0 := fun hl hr => by
    have hquiet := endLoad_quiet programmed silent (s.upTo w)
    rw [endLoad_eq]
    refine startEntry_rectWaits w.order (hquiet.live.trans ?_) (hquiet.rect.trans ?_)
    · rw [loadBlocks_sdo, State.onStore_sdo, upTo_sdo]; exact hl
    · rw [loadBlocks_rot]
      split
      · rw [State.onStore_rot, upTo_rot]; exact hr
      · rw [State.onStore_rot, upTo_rot]; exact hr
  have hsac : (endLoad w.order programmed silent (s.upTo w)).sac.frozen = false ∧
      (endLoad w.order programmed silent (s.upTo w)).sac.resyncDwell = 0 := by
    rw [(endLoad_loaded w.order programmed silent (s.upTo w)).2.sac, loaded, loadBlocks_sac]
    exact ⟨rfl, rfl⟩
  have hrunning : (endLoad w.order programmed silent (s.upTo w)).alu.running = true := startEntry_running w.order _
  have hphase := endLoad_phase w.order programmed silent (s.upTo w)
  obtain ⟨hmode, hlisten, hcause, hperiodic⟩ := endLoad_schedule w.order programmed silent hload
  obtain ⟨hstart, hrest⟩ := endLoad_loaded w.order programmed silent (s.upTo w)
  obtain ⟨⟨hset, hfault, hdigest, hcal, -, -⟩, hnumber⟩ := endLoad_config w.order programmed silent (s.upTo w)
  have hchanged := endLoad_changedOnly w.order programmed silent (s.upTo w)
  generalize endLoad w.order programmed silent (s.upTo w) = t at *
  have hstore : t.store = storeProgram s.store programmed := by
    refine hrest.store.trans ((loadBlocks_changedOnly _ _).store.trans ?_)
    rw [State.onStore_store, upTo_store]
  have hfound : readRecord t.store silent = loadFound programmed silent (s.upTo w) := by
    rw [loadFound, upTo_store, hstore]
  obtain ⟨lnumber, lkind, lfault, ldigest, llost⟩ := loaded_sup programmed silent (s.upTo w)
  have hsettings : t.settings = loadedSettings (loadFound programmed silent (s.upTo w)) :=
    hset.trans (loadBlocks_settings _ _)
  rw [upTo_sup] at lnumber lkind hcause
  rw [hfound]
  refine ⟨⟨hphase, hmode, hlisten⟩, hstore, fun b hb => ⟨?_, ?_⟩, fun hl => ⟨?_, ?_⟩, ?_, ?_, ?_,
    ⟨hnumber.trans lnumber, hstart.resetKind.trans lkind, hcause⟩, hperiodic, hrunning, hsac, hrot, hchanged⟩
  · rw [hsettings, loadedSettings_inr hb]
  · rw [hfault, lfault, hb]; rfl
  · rw [hsettings, loadedSettings_isLeft hl]
  · rw [hfault, lfault, hl]
  · rw [hdigest, ldigest, hsettings]
  · rw [hcal, loaded_calDefault, calDefault_iff]
  · rw [hstart.retainLost, llost]

/-! ### The retained quantities (R47, R58, R138, R158) -/

theorem sacDerive_count (x : Sac) :
    (sacDerive x).q = x.q ∧ (sacDerive x).r = x.r ∧ (sacDerive x).synced = x.synced := ⟨rfl, rfl, rfl⟩

theorem sacCapacity_count (a : SacSettings) (d : Int) (x : Sac) :
    (sacCapacity a d x).q = x.q ∧ (sacCapacity a d x).r = x.r ∧ (sacCapacity a d x).synced = x.synced := ⟨rfl, rfl, rfl⟩

theorem sacAtLoad_count (a : SacSettings) (x : Sac) :
    (sacAtLoad a x).q = min (cRated a) x.q ∧ (sacAtLoad a x).r = x.r ∧ (sacAtLoad a x).synced = x.synced := by
  obtain ⟨dq, dr, ds⟩ := sacDerive_count (sacCapacity a 250 { x with q := min (cRated a) x.q, frozen := false, resyncDwell := 0 })
  obtain ⟨cq, cr, cs⟩ := sacCapacity_count a 250 { x with q := min (cRated a) x.q, frozen := false, resyncDwell := 0 }
  exact ⟨dq.trans cq, dr.trans cr, ds.trans cs⟩

/-- The retained values give the generator's lockout with its state. -/
theorem gcoRetained_state (v : Option Retained) (g : Gco) :
    (gcoRetained v g).state = (if (gcoRetained v g).lockSet then .locked else .idle) ∧
      (gcoRetained v g).state.demanding = false ∧ (gcoRetained v g).exSeconds = 0 := by
  cases v with
  | none => exact ⟨rfl, rfl, rfl⟩
  | some r =>
    refine ⟨rfl, ?_, rfl⟩
    change (if r.lockSet then GenState.locked else GenState.idle).demanding = false
    cases r.lockSet <;> rfl

/-- What is left at the end of LOAD of a start that has kept RAM or not: the blocks as LOAD gave them. -/
theorem endLoad_blocks (w : Moment) (programmed : List (Nat × Byte)) (silent : List Nat) (s : State) :
    (endLoad w.order programmed silent (s.upTo w)).sac = (loaded programmed silent (s.upTo w)).sac ∧
      (endLoad w.order programmed silent (s.upTo w)).csc = (loaded programmed silent (s.upTo w)).csc ∧
      (endLoad w.order programmed silent (s.upTo w)).rot = (loaded programmed silent (s.upTo w)).rot ∧
      (endLoad w.order programmed silent (s.upTo w)).settings =
        loadedSettings (loadFound programmed silent (s.upTo w)) ∧
      readRecord (endLoad w.order programmed silent (s.upTo w)).store silent = loadFound programmed silent (s.upTo w) := by
  have hrest := (endLoad_loaded w.order programmed silent (s.upTo w)).2
  have hstore : (endLoad w.order programmed silent (s.upTo w)).store = storeProgram (s.upTo w).store programmed :=
    hrest.store.trans ((loadBlocks_changedOnly _ _).store.trans (by rw [State.onStore_store]))
  exact ⟨hrest.sac, hrest.csc, hrest.rot, hrest.settings.trans (loadBlocks_settings _ _), by rw [hstore, loadFound]⟩

theorem loadEnd_cold_effect (w : Moment) (programmed : List (Nat × Byte)) (silent : List Nat) (hs : s.sup.phase = .load)
    (hk : s.sup.resetKind.keepsRam = false) :
    ∃ t, exec (.loadEnd w programmed silent) s = .next t ∧
      (∀ b, readRecord t.store silent 13 = .inr b → t.sac.q = min (cRated t.settings.sac) (u32At b 0) ∧ t.sac.r = byteAt b 4 ∧ t.sac.synced = (byteAt b 5 == 1) ∧ t.rot.runMinutes = u32At b 6 ∧ t.gco.lockSet = (byteAt b 10 == 1) ∧ t.gco.epoch = byteAt b 11 ∧ t.gco.unsettled = false ∧ t.csc.eqDays = u16At b 12 ∧ t.gco.exMinutes = u16At b 14) ∧
      ((readRecord t.store silent 13).isLeft = true → t.sac.q = cRated t.settings.sac / 2 ∧ t.sac.r = 0 ∧ t.sac.synced = false ∧ t.rot.runMinutes = 0 ∧ t.gco.lockSet = false ∧ t.gco.epoch = 0 ∧ t.gco.unsettled = true ∧ t.csc.eqDays = 0 ∧ t.gco.exMinutes = 0) ∧
      (t.rot.runSeconds = 0 ∧ t.csc.dayClock = 0 ∧ t.csc.eqDue = false ∧ t.gco.exSeconds = 0) ∧
      (t.gco.state = if t.gco.lockSet then .locked else .idle) := by
  refine ⟨_, exec_loadEnd w programmed silent hs, ?_⟩
  obtain ⟨hsac, hcsc, hrot, hset, hfound⟩ := endLoad_blocks w programmed silent s
  have hstart := (endLoad_loaded w.order programmed silent (s.upTo w)).1
  generalize endLoad w.order programmed silent (s.upTo w) = t at *
  have hkind : ((s.upTo w).onStore fun m => storeProgram m programmed).sup.resetKind.keepsRam = false := by
    rw [State.onStore_sup, upTo_sup, hk]
  rw [loaded, loadBlocks_sac, hkind, if_neg (by decide), ← hset] at hsac
  rw [loaded, loadBlocks_csc, hkind, if_neg (by decide)] at hcsc
  rw [loaded, loadBlocks_rot, hkind, if_neg (by decide)] at hrot
  have hgco : (loaded programmed silent (s.upTo w)).gco = gcoRetained
      (retainedFrom (loadFound programmed silent (s.upTo w) 13)) (s.upTo w).gco := by
    rw [loaded, loadBlocks_gco, hkind, if_neg (by decide), State.onStore_gco]
  rw [hfound]
  obtain ⟨hstate, hdemanding, hseconds⟩ := gcoRetained_state (retainedFrom (loadFound programmed silent (s.upTo w) 13))
    (s.upTo w).gco
  obtain ⟨-, -, hlock, hepoch, huns, hresting⟩ := hstart
  rw [hgco] at hlock hepoch huns hresting
  obtain ⟨htstate, htminutes, htseconds⟩ := hresting hdemanding
  obtain ⟨hq, hr, hsynced⟩ := sacAtLoad_count t.settings.sac (sacRetained t.settings.sac
    (retainedFrom (loadFound programmed silent (s.upTo w) 13)) (s.upTo w).sac)
  rw [hsac, hcsc, hrot, hlock, hepoch, huns, htminutes]
  refine ⟨fun b hb => ?_, fun hl => ?_, ⟨rfl, rfl, rfl, htseconds.trans hseconds⟩, htstate.trans hstate⟩
  · rw [State.onStore_sac, hq, hr, hsynced, hb]
    simp only [retainedFrom, decodeRetained, sacRetained, rotRetained, cscRetained, gcoRetained, and_self]
  · rw [State.onStore_sac, hq, hr, hsynced, retainedFrom_isLeft hl]
    have hhalf : min (cRated t.settings.sac) (cRated t.settings.sac / 2) = cRated t.settings.sac / 2 :=
      min_eq_right (Nat.div_le_self _ _)
    simp only [sacRetained, rotRetained, cscRetained, gcoRetained, hhalf, and_self]

theorem loadEnd_warm_effect (w : Moment) (programmed : List (Nat × Byte)) (silent : List Nat) (hs : s.sup.phase = .load)
    (hk : s.sup.resetKind.keepsRam = true) :
    ∃ t, exec (.loadEnd w programmed silent) s = .next t ∧
      (t.sac.q = min (cRated t.settings.sac) s.sac.q ∧ t.sac.r = s.sac.r ∧ t.sac.synced = s.sac.synced) ∧
      (t.rot.runMinutes = s.rot.runMinutes ∧ t.rot.runSeconds = s.rot.runSeconds) ∧
      (t.gco.lockSet = s.gco.lockSet ∧ t.gco.epoch = s.gco.epoch ∧ t.gco.unsettled = s.gco.unsettled) ∧
      (t.csc.eqDays = s.csc.eqDays ∧ t.csc.dayClock = s.csc.dayClock ∧ t.csc.eqDue = s.csc.eqDue) := by
  refine ⟨_, exec_loadEnd w programmed silent hs, ?_⟩
  obtain ⟨hsac, hcsc, hrot, hset, -⟩ := endLoad_blocks w programmed silent s
  have hstart := (endLoad_loaded w.order programmed silent (s.upTo w)).1
  generalize endLoad w.order programmed silent (s.upTo w) = t at *
  have hkind : ((s.upTo w).onStore fun m => storeProgram m programmed).sup.resetKind.keepsRam = true := by
    rw [State.onStore_sup, upTo_sup, hk]
  rw [loaded, loadBlocks_sac, hkind, if_pos rfl, ← hset, State.onStore_sac, upTo_sac] at hsac
  rw [loaded, loadBlocks_csc, hkind, if_pos rfl, State.onStore_csc, upTo_csc] at hcsc
  rw [loaded, loadBlocks_rot, hkind, if_pos rfl, State.onStore_rot, upTo_rot] at hrot
  have hgco : (loaded programmed silent (s.upTo w)).gco = s.gco := by
    rw [loaded, loadBlocks_gco, hkind, if_pos rfl, State.onStore_gco, upTo_gco]
  obtain ⟨-, -, hlock, hepoch, huns, -⟩ := hstart
  rw [hgco] at hlock hepoch huns
  rw [hsac, hcsc, hrot]
  exact ⟨sacAtLoad_count _ _, ⟨rfl, rfl⟩, ⟨hlock, hepoch, huns⟩, rfl, rfl, rfl⟩

/-- Settles O30, its four parts in order. -/
theorem strapsAndLoadConfigureTheStation : Obligations.StrapsAndLoadConfigureTheStation :=
  ⟨fun w _ straps hs => heldEnd_effect w straps hs, fun w _ programmed silent hs => loadEnd_effect w programmed silent hs,
    fun w _ programmed silent hs hk => loadEnd_cold_effect w programmed silent hs hk,
    fun w _ programmed silent hs hk => loadEnd_warm_effect w programmed silent hs hk⟩

end Sys2Proof.Machine
end

section
/-! SUPPORT. OPERATING entry at the end of LISTEN (R24, R67, R73, R86, R156, R178, R182), and O31. -/
namespace Sys2Proof.Machine

set_option Elab.async false

variable {s t u : State}

/-! ## What is queued (R73) -/

/-- Transmission is granted, with HELLO, STATUS and POINT queued in that order and no STATUS due within the spacing. -/
structure State.Announces (s : State) (tx : TxState) (hello : List Byte) : Prop where
  granted : s.pli.granted = true
  tx : s.pli.tx = tx
  spaced : ∃ e, s.pli.spacingEnd = some e ∧ s.now < e
  queue : ∃ x y z, s.pli.queue = [x, y, z] ∧ (x.kind = .hello ∧ x.payload = hello) ∧ y.kind = .status ∧ z.kind = .point

section
variable {tx : TxState} {hello : List Byte}

theorem State.Announces.kinds (h : s.Announces tx hello) : s.pli.kinds = [.hello, .status, .point] := by
  obtain ⟨x, y, z, hq, ⟨hx, -⟩, hy, hz⟩ := h.queue
  simp [Pli.kinds, hq, hx, hy, hz]

theorem State.Announces.holds (h : s.Announces tx hello) : s.pli.Holds .hello hello := by
  obtain ⟨x, y, z, hq, hx, -, -⟩ := h.queue
  exact ⟨x, by simp [hq], hx⟩

theorem State.Announces.congr (h : s.Announces tx hello) (hpli : t.pli = s.pli) (hclock : t.clock = s.clock) :
    t.Announces tx hello := by
  obtain ⟨hg, htx, hs, hq⟩ := h
  constructor <;> simpa only [hpli, State.now, hclock]

theorem State.Announces.kept {parts : List Part} (h : s.Announces tx hello) (hc : s.ChangedOnly parts t)
    (hpli : .pli ∉ parts := by decide) (hclock : .clock ∉ parts := by decide) : t.Announces tx hello :=
  h.congr (hc.pli hpli) (hc.clock hclock)

theorem State.Announces.ite {c : Prop} [Decidable c] (ht : t.Announces tx hello) (hu : u.Announces tx hello) :
    (if c then t else u).Announces tx hello := by
  split <;> assumption

/-- A POINT takes the slot of the one that waits. -/
theorem State.Announces.enqueuePoint (h : s.Announces tx hello) (htx : tx ≠ .empty) :
    (enqueuePoint s).Announces tx hello := by
  obtain ⟨hg, hs, hspaced, x, y, z, hq, hx, hy, hz⟩ := h
  refine ⟨?_, ?_, ?_, ?_⟩ <;> simp only [Machine.enqueuePoint, enqueue, hg, if_true, State.onAlu_pli, State.onPli_pli]
  · exact (if_neg (by rwa [hs])).trans hs
  · exact hspaced
  · refine ⟨x, y, { z with payload := s.pointPayload, replaced := z.replaced || false }, ?_, hx, hy, hz⟩
    simp [enqueueSlot, hq, hx.1, hy, hz]

/-- A STATUS requested within the spacing is deferred (R89). -/
theorem State.Announces.requestStatus (h : s.Announces tx hello) : (requestStatus s).Announces tx hello := by
  obtain ⟨hg, hs, ⟨e, he, hnow⟩, hq⟩ := h
  rw [Machine.requestStatus, if_pos hg, he]
  dsimp only
  rw [if_pos hnow]
  exact ⟨hg, hs, ⟨e, he, hnow⟩, hq⟩

theorem State.Announces.takeCondition (h : s.Announces tx hello) (htx : tx ≠ .empty) (order : List Taker) (n : Nat) :
    (takeCondition order n s).Announces tx hello := by
  refine .ite (fan_induction order (P := fun u => u.Announces tx hello) (fun x _ u hu => ?_) _ (h.congr rfl rfl)) h
  cases x with
  | sdo => exact .ite (hu.kept (recomputeRelays_changedOnly u)) hu
  | pli => exact .ite ((hu.kept (recomputeSubs_changedOnly false u)).enqueuePoint htx) hu
  | log => exact .ite (hu.kept (logEntry_changedOnly _ _ _ u)) hu
  | _ => exact hu

theorem State.Announces.takeConditions (htx : tx ≠ .empty) (order : List Taker) (ns : List Nat) {s : State}
    (h : s.Announces tx hello) : (takeConditions order ns s).Announces tx hello := by
  induction ns generalizing s with
  | nil => exact h
  | cons n ns ih => exact ih (h.takeCondition htx order n)

theorem State.Announces.cscTakes (h : s.Announces tx hello) (htx : tx ≠ .empty) (order : List Taker) (old new : Csc)
    (manual : Option Direction) (x : Taker) : (cscTakes order old new manual x s).Announces tx hello := by
  cases x with
  | sdo =>
    refine State.Announces.kept (s := match newCommand old new with | some d => contactorCommand d s | none => s) ?_
      (writeTarget_changedOnly _ _ _)
    split
    · exact h.kept (contactorCommand_changedOnly _ s)
    · exact h
  | alu => exact h.takeConditions htx order _
  | log =>
    have hstage : State.Announces
        (if old.stage ≠ new.stage then logEntry .stage 0 (twoParts old.stage.code new.stage.code) s else s) tx hello :=
      .ite (h.kept (logEntry_changedOnly _ _ _ s)) h
    cases manual with
    | none => exact hstage
    | some d => exact hstage.kept (logEntry_changedOnly _ _ _ _)
  | sac =>
    refine .ite ?_ h
    unfold sacOnAbsorbEnd; split
    · exact .ite (State.Announces.takeCondition (s := s.onSac sacResync) (h.congr rfl rfl) htx order _) h
    · exact h
  | cbu => exact .ite (h.kept (cbuOnEvent_changedOnly s)) h
  | pli => exact .ite h.requestStatus h
  | sup => exact .ite (h.kept (supOnStage_changedOnly s)) h
  | _ => exact h

theorem State.Announces.operatingTakes (h : s.Announces tx hello) (htx : tx ≠ .empty) (order : List Taker) (x : Taker) :
    (operatingTakes order x s).Announces tx hello := by
  cases x with
  | sdo => exact h.congr rfl rfl
  | csc =>
    refine .ite ?_ (h.congr rfl rfl)
    rw [cscHand_eq]
    exact fan_induction order (P := fun u => u.Announces tx hello)
      (fun x _ u hu => hu.cscTakes htx order _ _ none x) _ (h.congr rfl rfl)
  | cbu => exact h.kept (cbuOnOperating_changedOnly s)
  | gco => exact h.congr rfl rfl
  | alu => exact h.kept (recomputeRelays_changedOnly s)
  | sup => exact h.kept ((updateLeanDwell_changedOnly s).trans (updateDormantDwell_changedOnly _))
  | _ => exact h

end

/-- OPERATING entry grants transmission and queues the three notes (R73, R86). -/
theorem operatingNotes_announces (hq : s.pli.queue = []) :
    (operatingNotes s).Announces (if s.sup.number = 0 ∨ s.pli.dup = true then .off else .wait)
      (leBytes 2 s.sup.digest ++ [BitVec.ofNat 8 s.sup.startCause.code]) := by
  have hwake : s.ChangedOnly [.alu] (if s.sup.startCause = .wakeTimer then logWake s else s) :=
    .ite (logWake_changedOnly s) (.refl s _)
  unfold operatingNotes; dsimp only
  generalize (if s.sup.startCause = .wakeTimer then logWake s else s) = x at hwake
  rw [← hwake.pli] at hq ⊢
  rw [← hwake.sup]
  by_cases hoff : x.sup.number = 0 ∨ x.pli.dup = true
  · constructor <;> simp [enqueuePoint, enqueueStatus, enqueueHello, enqueue, grantTransmission, enqueueSlot, hq, hoff,
      State.now]
  · constructor <;>
      simp [enqueuePoint, enqueueStatus, enqueueHello, enqueue, grantTransmission, enqueueSlot, hq, hoff, idleTx,
        State.now]

/-! ## What SDO drives, and what the other blocks make of the entry -/

theorem cscTakes_rectVref (order : List Taker) (old new : Csc) (manual : Option Direction) (x : Taker) (s : State) :
    State.SameOutput .rectVref s (cscTakes order old new manual x s) := by
  by_cases hx : x = .sdo
  · subst hx
    refine sameOutput_passed.trans (t := match newCommand old new with | some d => contactorCommand d s | none => s) ?_
      (writeTarget_sameOutput (by decide) _ _)
    split
    · exact sameOutput_passed.quiet (contactorCommand_quiet _ s)
    · exact sameOutput_passed.refl s
  · exact cscTakes_sameOutput (by decide) order old new manual hx s

theorem cscOnOperating_rectVref (order : List Taker) (s : State) : State.SameOutput .rectVref s (cscOnOperating order s) := by
  refine Passed.ite (R := State.SameOutput .rectVref) ?_ ⟨rfl, rfl⟩
  rw [cscHand_eq]
  exact fan_induction order (P := State.SameOutput .rectVref s)
    (fun x _ u hu => sameOutput_passed.trans hu (cscTakes_rectVref order _ _ none x u)) _ ⟨rfl, rfl⟩

theorem cbuOnOperating_rectVref (s : State) : State.SameOutput .rectVref s (cbuOnOperating s) := by
  refine Passed.ite (R := State.SameOutput .rectVref)
    (sameOutput_passed.trans (t := s.onCbu _) ⟨rfl, rfl⟩ (writeTarget_sameOutput (by decide) _ _)) ?_
  exact sameOutput_passed.trans (t := s.onCbu _) ⟨rfl, rfl⟩ (writeTarget_sameOutput (by decide) _ _)

theorem operatingTakes_rectVref (order : List Taker) {x : Taker} (hx : x ≠ .sdo) (s : State) :
    State.SameOutput .rectVref s (operatingTakes order x s) := by
  cases x with
  | sdo => exact absurd rfl hx
  | csc => exact cscOnOperating_rectVref order s
  | cbu => exact cbuOnOperating_rectVref s
  | alu => exact recomputeRelays_sameOutput s
  | _ => exact ⟨rfl, rfl⟩

/-- SDO drives the plant's voltage and the relays of the rectifier's and the generator's states (R24). -/
theorem enterOperating_driven (order : List Taker) (s : State) :
    (enterOperating order s).sdo.outputs.rectVref.target = s.settings.busFloatMV ∧
      (enterOperating order s).sdo.relays.rectEn = s.rot.state.enables ∧
      (enterOperating order s).sdo.relays.genDemand = s.gco.state.demanding := by
  have hnotes := operatingNotes_changedOnly s
  have hdriven := fan_part order (takers := [.sdo, .csc, .cbu, .gco, .alu, .sup]) (f := operatingTakes order)
    (fun u : State => ((u.settings.busFloatMV, u.rot.state.enables, u.gco.state.demanding),
      (u.sdo.outputs.rectVref.target, u.sdo.relays.rectEn, u.sdo.relays.genDemand)))
    (fun p => (p.1, p.1)) .sdo (by decide) (fun _ => rfl) (fun _ => rfl) (fun x _ hx u => ?_) (operatingNotes s)
  · rw [← enterOperating_eq, hnotes.settings, hnotes.rot, hnotes.gco] at hdriven
    simpa only [Prod.mk.injEq] using (congrArg Prod.snd hdriven :)
  · have hparts := operatingTakes_changedOnly order x u
    have hvref : (operatingTakes order x u).sdo.outputs.rectVref = u.sdo.outputs.rectVref :=
      (operatingTakes_rectVref order hx u).2
    have hgen : (operatingTakes order x u).gco.state = u.gco.state ∧
        (operatingTakes order x u).sdo.relays.genDemand = u.sdo.relays.genDemand := by
      by_cases hgco : x = .gco
      · subst hgco; exact ⟨rfl, rfl⟩
      · have hgates := operatingTakes_gatesKept order hx hgco u
        exact ⟨by rw [hgates.gco], hgates.2⟩
    rw [hparts.settings, hparts.rot, hvref, (operatingTakes_rectOutKept order hx u).2.1, hgen.1, hgen.2]

/-- An unsettled epoch gets its 10 s (R156). -/
theorem enterOperating_settleAt (order : List Taker) (s : State) :
    (enterOperating order s).gco.settleAt = if s.gco.unsettled then some (s.now + 10000) else none := by
  have hnotes := operatingNotes_changedOnly s
  have hgco := fan_part order (takers := [.sdo, .csc, .cbu, .gco, .alu, .sup]) (f := operatingTakes order)
    (fun u : State => (u.clock, u.gco))
    (fun p => (p.1, { p.2 with settleAt := if p.2.unsettled then some (p.1 / 1000 + 10000) else none })) .gco (by decide)
    (fun _ => rfl) (fun _ => rfl) (fun x _ hx u => ?_) (operatingNotes s)
  · rw [← enterOperating_eq, hnotes.clock, hnotes.gco] at hgco
    exact congrArg Gco.settleAt (congrArg Prod.snd hgco)
  · rw [(operatingTakes_changedOnly order x u).clock]
    by_cases hsdo : x = .sdo
    · subst hsdo; rfl
    · rw [(operatingTakes_gatesKept order hsdo hx u).gco]

/-- The stage at OPERATING entry: DISCHARGE is decided afresh (R67). -/
def State.entryStage (s : State) : Stage := if s.csc.stage = .discharge then s.decidedStage else s.csc.stage

/-- CSC's taking of OPERATING entry leaves the accountant, as no stage is left but DISCHARGE. -/
theorem cscOnOperating_effect (order : List Taker) (s : State) :
    (cscOnOperating order s).csc.stage = s.entryStage ∧ (cscOnOperating order s).sac = s.sac := by
  unfold cscOnOperating State.entryStage
  dsimp only
  split
  · next hdischarge =>
    rw [cscHand_eq]
    refine fan_induction order (P := fun u => u.csc.stage = s.decidedStage ∧ u.sac = s.sac) (fun x _ u hu => ?_) _ ⟨rfl, rfl⟩
    refine ⟨(congrArg Csc.stage (cscTakes_changedOnly _ _ _ _ x u).csc).trans hu.1, Eq.trans ?_ hu.2⟩
    by_cases hx : x = .sac
    · subst hx
      exact congrArg State.sac (if_neg fun h => by rw [hdischarge] at h; cases h.1)
    · exact (cscTakes_changedOnly_of_ne _ _ _ _ hx u).sac
  · exact ⟨rfl, rfl⟩

theorem operatingTakes_changedOnly_of_ne (order : List Taker) {x : Taker} (hx : x ≠ .csc) (s : State) :
    s.ChangedOnly [.sup, .sdo, .alu, .cbu, .gco] (operatingTakes order x s) := by
  cases x with
  | csc => exact absurd rfl hx
  | sdo => exact (onSdo_changedOnly _ s).mono rfl
  | cbu => exact (cbuOnOperating_changedOnly s).mono rfl
  | gco => exact (onGco_changedOnly _ s).mono rfl
  | alu => exact (recomputeRelays_changedOnly s).mono rfl
  | sup => exact ((updateLeanDwell_changedOnly s).trans (updateDormantDwell_changedOnly _)).mono rfl
  | _ => exact .refl s _

theorem State.decidedStage_congr (hptb : t.ptb = s.ptb) (hset : t.settings = s.settings) (hsac : t.sac = s.sac) :
    t.decidedStage = s.decidedStage := by unfold State.decidedStage; rw [hptb, hset, hsac]

theorem enterOperating_stage (order : List Taker) (s : State) :
    (enterOperating order s).csc.stage = s.entryStage ∧ (enterOperating order s).sac = s.sac := by
  have hnotes := operatingNotes_changedOnly s
  have hstage := fan_part order (takers := [.sdo, .csc, .cbu, .gco, .alu, .sup]) (f := operatingTakes order)
    (fun u : State => (u.csc.stage, u.decidedStage, u.sac))
    (fun p => (if p.1 = .discharge then p.2.1 else p.1, p.2)) .csc (by decide) (fun p => ?_) (fun u => ?_)
    (fun x _ hx u => ?_) (operatingNotes s)
  · rw [← enterOperating_eq, hnotes.csc, hnotes.sac, State.decidedStage_congr hnotes.ptb hnotes.settings hnotes.sac] at hstage
    simp only [Prod.mk.injEq] at hstage
    exact ⟨hstage.1, hstage.2.2⟩
  · dsimp only
    split <;> simp_all
  · obtain ⟨hentry, hsac⟩ := cscOnOperating_effect order u
    have hparts := operatingTakes_changedOnly order .csc u
    rw [State.decidedStage_congr hparts.ptb hparts.settings hsac, show operatingTakes order .csc u = cscOnOperating order u from rfl,
      hentry, hsac]
    rfl
  · have hparts := operatingTakes_changedOnly_of_ne order hx u
    rw [hparts.csc, hparts.sac, State.decidedStage_congr hparts.ptb hparts.settings hparts.sac]

theorem enterOperating_phase (order : List Taker) (s : State) : (enterOperating order s).sup.phase = .operating := by
  rw [enterOperating_eq]
  exact fan_induction order (P := fun u => u.sup.phase = .operating)
    (fun x _ u hu => (operatingTakes_phase order x u).trans hu) _ (operatingNotes_quiet s).phase

theorem enterOperating_announces (order : List Taker) (hq : s.pli.queue = []) :
    (enterOperating order s).Announces (if s.sup.number = 0 ∨ s.pli.dup = true then .off else .wait)
      (leBytes 2 s.sup.digest ++ [BitVec.ofNat 8 s.sup.startCause.code]) := by
  have htx : (if s.sup.number = 0 ∨ s.pli.dup = true then TxState.off else .wait) ≠ .empty := by split <;> decide
  rw [enterOperating_eq]
  exact fan_induction order (P := fun u => u.Announces _ _) (fun x _ u hu => hu.operatingTakes htx order x) _
    (operatingNotes_announces hq)

/-! ## The parts of O31 -/

theorem listenEnd_operates (w : Moment) (hphase : s.sup.phase = .listen) (hend : s.sup.listenEnd ≤ (s.upTo w).now)
    (hfound : s.sup.startCause ≠ .wakeTimer ∨ s.sup.found = true) :
    exec (.listenEnd w) s = .next (enterOperating w.order (s.upTo w)) := by
  change execListenEnd w s = _
  rw [execListenEnd, command_eq, if_pos (by rw [upTo_sup]; exact ⟨hphase, hend⟩),
    if_neg (by rw [upTo_sup]; rcases hfound with h | h <;> simp [h]),
    leaveCheck_of_phase _ (by rw [enterOperating_phase]; decide)]

theorem listenEnd_checks (w : Moment) (hphase : s.sup.phase = .listen) (hend : s.sup.listenEnd ≤ (s.upTo w).now)
    (hcause : s.sup.startCause = .wakeTimer) (hfound : s.sup.found = false) :
    exec (.listenEnd w) s =
      .next ((s.upTo w).onSup fun x => { x with phase := .check, checkEnd := (s.upTo w).now + 60000 }) := by
  change execListenEnd w s = _
  rw [execListenEnd, command_eq, if_pos (by rw [upTo_sup]; exact ⟨hphase, hend⟩),
    if_pos (by rw [upTo_sup]; exact ⟨hcause, hfound⟩), leaveCheck_of_steady _ fun _ => ?_]
  rw [State.onSup_sup, upTo_sup]
  exact hfound

/-- Settles O31: LISTEN ends in OPERATING with its owners driven and three notes queued, or in CHECK. -/
theorem listenEndsInOperatingOrCheck : Obligations.ListenEndsInOperatingOrCheck := by
  refine ⟨fun w s hphase hend hfound hq _ => ⟨_, listenEnd_operates w hphase hend hfound, ?_⟩,
    fun w s hphase hend => listenEnd_checks w hphase hend⟩
  have hannounces := enterOperating_announces (s := s.upTo w) w.order (by rw [upTo_pli]; exact hq)
  have hdriven := enterOperating_driven w.order (s.upTo w)
  have hsettle := enterOperating_settleAt w.order (s.upTo w)
  obtain ⟨hstage, hsac⟩ := enterOperating_stage w.order (s.upTo w)
  have hparts := enterOperating_changedOnly w.order (s.upTo w)
  simp only [upTo_sup, upTo_pli, upTo_settings, upTo_rot, upTo_gco, State.entryStage, State.decidedStage, upTo_csc,
    upTo_ptb, upTo_sac] at hannounces hdriven hsettle hstage hsac
  obtain ⟨hvref, hrectEn, hdemand⟩ := hdriven
  refine ⟨enterOperating_phase _ _, ⟨enterOperating_live _ _, hvref⟩, ⟨hrectEn, hdemand⟩,
    ⟨hannounces.granted, hannounces.kinds⟩, hannounces.tx, hannounces.holds, hstage, hsettle,
    ⟨by simpa using hparts.rot, hsac, by simpa using hparts.ptb, by simpa using hparts.mch⟩, fun p hp => ?_⟩
  by_cases hp' : p = .sac
  · subst hp'; exact (upTo_sac s w).trans hsac.symm
  · exact hparts p fun hm => by
      simp only [List.mem_cons, List.not_mem_nil, or_false, not_or] at hm hp
      tauto

end Sys2Proof.Machine
end

section
/-! SUPPORT. The contactor operation (R26 to R29, R64, R65, R67, R69), and O39. -/
namespace Sys2Proof.Machine

set_option Elab.async false

variable {s t u : State}

/-! ## The contactor side of SDO -/

/-- The operation in flight, the pending command, CONTACTOR_FAULT and its direction. -/
def State.side (s : State) : Option ContactorOp × Option Direction × Bool × Option Direction :=
  (s.sdo.operation, s.sdo.waitingCommand, s.sdo.contactorFault, s.sdo.lastFailed)

theorem State.side_of_changedOnly {parts : List Part} (h : s.ChangedOnly parts t) (hsdo : .sdo ∉ parts := by decide) :
    t.side = s.side := by rw [State.side, h.sdo hsdo, State.side]

theorem side_ite {c : Prop} [Decidable c] (ht : t.side = s.side) (hu : u.side = s.side) :
    (if c then t else u).side = s.side := by split <;> assumption

theorem writeTarget_side (d : Dac) (v : Nat) (s : State) : (writeTarget d v s).side = s.side := by
  rw [State.side, writeTarget_sdo, State.side]

theorem writeRelay_side (r : Relay) (v : Bool) (s : State) : (writeRelay r v s).side = s.side := by
  rw [State.side, writeRelay_sdo, State.side]

theorem recomputeRelays_side (s : State) : (recomputeRelays s).side = s.side := by
  have hdrive : ∀ (c : Prop) [Decidable c] (r : Relay) (v : Bool) (x : State), x.side = s.side →
      (if c then x else writeRelay r v x).side = s.side := fun c _ r v x hx =>
    side_ite hx ((writeRelay_side r v x).trans hx)
  exact hdrive _ _ _ _ (hdrive _ _ _ _ (hdrive _ _ _ _ (hdrive _ _ _ (s.onAlu _) rfl)))

theorem recomputeSubs_side (b : Bool) (s : State) : (recomputeSubs b s).side = s.side :=
  (recomputeRelays_side _).trans
    (State.side_of_changedOnly ((onAlu_changedOnly _ s).trans (logSubChanges_changedOnly _ _)))

theorem takeCondition_side (order : List Taker) (n : Nat) (s : State) : (takeCondition order n s).side = s.side := by
  refine side_ite (fan_induction order (P := fun u => u.side = s.side) (fun x _ u hu => ?_) (s.onAlu _) rfl) rfl
  cases x with
  | sdo => exact side_ite ((recomputeRelays_side u).trans hu) hu
  | pli => exact side_ite ((State.side_of_changedOnly (enqueuePoint_changedOnly _)).trans ((recomputeSubs_side _ u).trans hu)) hu
  | log => exact side_ite ((State.side_of_changedOnly (logEntry_changedOnly _ _ _ u)).trans hu) hu
  | _ => exact hu

theorem takeConditions_side (order : List Taker) (ns : List Nat) (s : State) : (takeConditions order ns s).side = s.side := by
  induction ns generalizing s with
  | nil => rfl
  | cons n ns ih => exact (ih _).trans (takeCondition_side order n s)

theorem cbuOnEvent_side (s : State) : (cbuOnEvent s).side = s.side := by
  have hlimit : ∀ (a : Nat) (x : State), (applyLimit a x).side = x.side := fun a x =>
    side_ite rfl (writeTarget_side _ _ _)
  exact side_ite (hlimit _ (s.onCbu _)) rfl

theorem cscTakes_log_changedOnly (order : List Taker) (old new : Csc) (manual : Option Direction) (s : State) :
    s.ChangedOnly [.alu] (cscTakes order old new manual .log s) := by
  have hstage : s.ChangedOnly [.alu]
      (if old.stage ≠ new.stage then logEntry .stage 0 (twoParts old.stage.code new.stage.code) s else s) :=
    .ite (logEntry_changedOnly _ _ _ s) (.refl s _)
  cases manual with
  | none => exact hstage
  | some d => exact hstage.trans (logEntry_changedOnly _ _ _ _)

theorem cscTakes_side (order : List Taker) {old new : Csc} (hno : newCommand old new = none) (manual : Option Direction)
    (x : Taker) (s : State) : (cscTakes order old new manual x s).side = s.side := by
  by_cases hx : x = .sdo
  · subst hx
    unfold cscTakes
    dsimp only
    rw [writeTarget_side, hno]
  · cases x with
    | sdo => exact absurd rfl hx
    | alu => exact takeConditions_side order _ s
    | log => exact State.side_of_changedOnly (cscTakes_log_changedOnly order old new manual s)
    | sac =>
      refine side_ite ?_ rfl
      unfold sacOnAbsorbEnd; split
      · exact side_ite (takeCondition_side order _ (s.onSac sacResync)) rfl
      · rfl
    | cbu => exact side_ite (cbuOnEvent_side s) rfl
    | pli => exact side_ite (State.side_of_changedOnly (requestStatus_changedOnly s)) rfl
    | sup => exact side_ite (State.side_of_changedOnly (supOnStage_changedOnly s)) rfl
    | _ => rfl

/-- A hand-off of CSC's that makes no contactor command leaves the contactor side (R64). -/
theorem cscHand_side (order : List Taker) {old : Csc} (hno : newCommand old s.csc = none) (manual : Option Direction) :
    (cscHand order old manual s).side = s.side := by
  rw [cscHand_eq]
  exact fan_induction order (P := fun u => u.side = s.side) (fun x _ u hu => (cscTakes_side order hno manual x u).trans hu)
    s rfl

/-- No command comes of a record that was there, or that is none. -/
theorem newCommand_of_record {old new : Csc} (h : old.record = none → new.record = none) : newCommand old new = none := by
  unfold newCommand
  split
  · next hold => exact h hold
  · rfl

theorem stageEvent_side (order : List Taker) {new : Csc} (hrecord : s.csc.record = none → new.record = none)
    (manual : Option Direction) : (stageEvent order new manual s).side = s.side := by
  refine side_ite rfl ?_
  exact cscHand_side (s := s.onCsc fun _ => cscTarget s.settings.csc s.stringT new) order (newCommand_of_record hrecord) manual

/-! ## An operation ends (R27, R29) -/

/-- What each taker of the end of an operation makes of the state. -/
def outcomeTakes (order : List Taker) (op : ContactorOp) (failed : Bool) (x : Taker) (s : State) : State :=
  match x with
  | .csc => cscOnReport op.direction failed s
  | .log => logEntry .contactor 0 (outcomeValue op.direction op.attempt failed) s
  | .alu => takeCondition order 9 s
  | _ => s

/-- The operation is out of flight, with its outcome. -/
def takeOutcome (op : ContactorOp) (failed : Bool) (s : State) : State :=
  s.onSdo fun x =>
    { x with operation := none, contactorFault := failed, lastFailed := if failed then some op.direction else none }

/-- The end of an operation before the pending command is taken. -/
def reportOutcome (order : List Taker) (op : ContactorOp) (failed : Bool) (s : State) : State :=
  fan order [.csc, .log, .alu] (outcomeTakes order op failed) (takeOutcome op failed s)

theorem endOperation_eq (order : List Taker) (op : ContactorOp) (failed : Bool) (s : State) :
    endOperation order op failed s = takeWaitingCommand (reportOutcome order op failed s) := rfl

theorem outcomeTakes_changedOnly (order : List Taker) (op : ContactorOp) (failed : Bool) (x : Taker) (s : State) :
    s.ChangedOnly [.csc, .alu, .sdo, .pli] (outcomeTakes order op failed x s) := by
  cases x with
  | csc => exact State.ChangedOnly.ite ((onCsc_changedOnly _ s).mono rfl) (.refl s _)
  | log => exact (logEntry_changedOnly _ _ _ s).mono rfl
  | alu => exact (takeCondition_changedOnly _ _ s).mono rfl
  | _ => exact .refl s _

theorem outcomeTakes_side (order : List Taker) (op : ContactorOp) (failed : Bool) (x : Taker) (s : State) :
    (outcomeTakes order op failed x s).side = s.side := by
  cases x with
  | csc => exact side_ite rfl rfl
  | log => exact State.side_of_changedOnly (logEntry_changedOnly _ _ _ s)
  | alu => exact takeCondition_side order 9 s
  | _ => rfl

theorem outcomeTakes_keeps (order : List Taker) (op : ContactorOp) (failed : Bool) (x : Taker) (s : State) :
    s.KeepsBut [] (outcomeTakes order op failed x s) := by
  cases x with
  | csc => exact cscOnReport_keeps _ _ s
  | log => exact logEntry_keeps _ _ _ s
  | alu => exact takeCondition_keeps order 9 s
  | _ => exact .refl s _

theorem reportOutcome_changedOnly (order : List Taker) (op : ContactorOp) (failed : Bool) (s : State) :
    s.ChangedOnly [.csc, .alu, .sdo, .pli] (reportOutcome order op failed s) :=
  ((onSdo_changedOnly _ s).mono rfl).trans (fan_changedOnly order _ (outcomeTakes_changedOnly order op failed) _)

theorem reportOutcome_side (order : List Taker) (op : ContactorOp) (failed : Bool) (s : State) :
    (reportOutcome order op failed s).side =
      (none, s.sdo.waitingCommand, failed, if failed then some op.direction else none) :=
  fan_induction order (P := fun u => u.side = (takeOutcome op failed s).side)
    (fun x _ u hu => (outcomeTakes_side order op failed x u).trans hu) _ rfl

/-- A FAILED report removes the record of its direction; no other report changes CSC (R64). -/
theorem reportOutcome_csc (order : List Taker) (op : ContactorOp) (failed : Bool) (s : State) :
    (reportOutcome order op failed s).csc =
      if failed = true ∧ s.csc.record = some op.direction then { s.csc with record := none } else s.csc := by
  refine fan_part order (fun u : State => u.csc)
    (fun c => if failed = true ∧ c.record = some op.direction then { c with record := none } else c) .csc (by decide)
    (fun c => ?_) (fun u => ?_) (fun x _ hx u => ?_) (takeOutcome op failed s)
  · split <;> simp_all
  · change (if _ then _ else _ : State).csc = _
    split <;> rfl
  · cases x with
    | csc => exact absurd rfl hx
    | log => exact (logEntry_changedOnly _ _ _ u).csc
    | alu => exact (takeCondition_changedOnly order 9 u).csc
    | _ => rfl

/-- ALU takes the outcome as the condition of point 9 (R29). -/
theorem reportOutcome_condition (order : List Taker) (op : ContactorOp) (failed : Bool) (hrun : s.alu.running = true)
    (hlen : s.alu.points.length = 32) : (pointGet (reportOutcome order op failed s).alu.points 9).condition = failed := by
  have hfault : ∀ {x : Taker} {u : State}, u.sdo.contactorFault = failed →
      (outcomeTakes order op failed x u).sdo.contactorFault = failed := fun {x u} hu =>
    (congrArg (fun y => y.2.2.1) (outcomeTakes_side order op failed x u)).trans hu
  have hpoints : ∀ {x : Taker} {u : State}, x ≠ .alu →
      (outcomeTakes order op failed x u).alu.points = u.alu.points ∧
        (outcomeTakes order op failed x u).alu.running = u.alu.running := fun {x u} hx => by
    refine ⟨?_, outcomeTakes_keeps order op failed x u .running (by decide)⟩
    cases x with
    | alu => exact absurd rfl hx
    | csc => exact congrArg (fun a : Alu => a.points) (State.ChangedOnly.alu (l := [.csc]) (State.ChangedOnly.ite (onCsc_changedOnly _ u) (.refl u _)))
    | log => exact logEntry_points _ _ _ u
    | _ => rfl
  refine (fan_establishes order (I := fun u => u.sdo.contactorFault = failed ∧ u.alu.running = true ∧ u.alu.points.length = 32)
    (P := fun u => u.sdo.contactorFault = failed ∧ (pointGet u.alu.points 9).condition = failed) .alu (by decide)
    (fun x _ hx u hu => ?_) (fun u hu => ?_) (fun x _ u hu => ?_) (takeOutcome op failed s) ⟨rfl, hrun, hlen⟩).2
  · obtain ⟨hf, hr, hl⟩ := hu
    obtain ⟨hp, hr'⟩ := hpoints (u := u) hx
    exact ⟨hfault hf, hr'.trans hr, by rw [hp, hl]⟩
  · obtain ⟨hf, hr, hl⟩ := hu
    exact ⟨hfault (x := .alu) hf, (condition_takeCondition_same order u hr (by omega)).trans hf⟩
  · obtain ⟨hf, hc⟩ := hu
    refine ⟨hfault hf, ?_⟩
    by_cases hx : x = .alu
    · subst hx
      exact (condition_takeCondition_owner order u (hc.trans hf.symm)).trans hf
    · rw [(hpoints hx).1, hc]

/-! ## Entries of the log made in the course of an operation (R172) -/

/-- In the course from `s` to `t` the log took an entry. -/
def State.Enters (s t : State) (kind : LogKind) (origin value : Nat) : Prop :=
  ∃ x, s.LogKept x ∧ (logEntry kind origin value x).LogKept t

section
variable {kind : LogKind} {origin value : Nat}

theorem State.Enters.logged (h : s.Enters t kind origin value) : s.Logged t kind origin value := by
  obtain ⟨x, hx, ht⟩ := h
  exact hx.logged ht

theorem State.Enters.after (h : s.LogKept t) (g : t.Enters u kind origin value) : s.Enters u kind origin value := by
  obtain ⟨x, hx, hu⟩ := g
  exact ⟨x, h.trans hx, hu⟩

theorem State.Enters.before (h : s.Enters t kind origin value) (g : t.LogKept u) : s.Enters u kind origin value := by
  obtain ⟨x, hx, ht⟩ := h
  exact ⟨x, hx, ht.trans g⟩

/-- The entry that one taker of a hand-off makes, from what the takers before it keep. -/
theorem fan_enters (order : List Taker) {takers : List Taker} {f : Taker → State → State} {I : State → Prop} (x : Taker)
    (hx : x ∈ takers) (hI : ∀ y ∈ takers, y ≠ x → ∀ u, I u → I (f y u))
    (henters : ∀ u, I u → u.Enters (f x u) kind origin value) (hkeep : ∀ y ∈ takers, ∀ u : State, u.LogKept (f y u))
    (hs : I s) : s.Enters (fan order takers f s) kind origin value :=
  fan_establishes order (I := fun u => s.LogKept u ∧ I u) (P := fun u => s.Enters u kind origin value) x hx
    (fun y hy hne u hu => ⟨hu.1.trans (hkeep y hy u), hI y hy hne u hu.2⟩) (fun u hu => (henters u hu.2).after hu.1)
    (fun y hy u hu => hu.before (hkeep y hy u)) s ⟨.of_alu rfl, hs⟩

end

theorem logEntry_enters (kind : LogKind) (origin value : Nat) (s : State) :
    s.Enters (logEntry kind origin value s) kind origin value := ⟨s, .of_alu rfl, .of_alu rfl⟩

theorem reportOutcome_enters (order : List Taker) (op : ContactorOp) (failed : Bool) (s : State) :
    s.Enters (reportOutcome order op failed s) .contactor 0 (outcomeValue op.direction op.attempt failed) :=
  .after (t := takeOutcome op failed s) (.of_alu rfl)
    (fan_enters order (I := fun _ => True) .log (by decide) (fun _ _ _ _ _ => trivial) (fun u _ => logEntry_enters _ _ _ u)
      (fun x _ u => outcomeTakes_keeps order op failed x u .log (by decide)) trivial)

/-! ## The pending command (R26, R28) -/

theorem position_congr (h : t.mch = s.mch) : t.position = s.position := by
  unfold State.position State.contact; rw [h]

theorem takeWaitingCommand_of_none (h : s.sdo.waitingCommand = none) : takeWaitingCommand s = s := by
  rw [takeWaitingCommand, h]

/-- What becomes of the pending command when no operation is in flight. -/
theorem takeWaitingCommand_of_some {d : Direction} (h : s.sdo.waitingCommand = some d) (hidle : s.sdo.operation = none) :
    (takeWaitingCommand s).side =
      (if s.position = none ∨ s.position = some d then none
        else some { direction := d, attempt := 1, pulseStart := s.now, driven := true },
        if s.position = none then some d else none, s.sdo.contactorFault, s.sdo.lastFailed) := by
  have hposition : (s.onSdo fun x => { x with waitingCommand := none }).position = s.position := rfl
  rw [takeWaitingCommand, h]
  dsimp only
  rw [contactorCommand, if_neg (by simp [hidle]), hposition]
  cases hp : s.position with
  | none => simp [State.side, hidle]
  | some p =>
    by_cases hd : p = d
    · simp [State.side, hidle, hd]
    · simp [State.side, hd, beginAttempt, State.now]

/-- The pending command taken changes nothing but the operation and itself. -/
theorem takeWaitingCommand_report (s : State) (hidle : s.sdo.operation = none) :
    (takeWaitingCommand s).sdo.contactorFault = s.sdo.contactorFault ∧
      (takeWaitingCommand s).sdo.lastFailed = s.sdo.lastFailed ∧
      (s.sdo.waitingCommand = none →
        (takeWaitingCommand s).sdo.operation = none ∧ (takeWaitingCommand s).sdo.waitingCommand = none) ∧
      ∀ op, (takeWaitingCommand s).sdo.operation = some op → s.position ≠ some op.direction := by
  cases h : s.sdo.waitingCommand with
  | none =>
    rw [takeWaitingCommand_of_none h]
    exact ⟨rfl, rfl, fun _ => ⟨hidle, h⟩, fun op hop => by rw [hidle] at hop; cases hop⟩
  | some d =>
    have hside := takeWaitingCommand_of_some h hidle
    simp only [State.side, Prod.mk.injEq] at hside
    obtain ⟨hop, -, hfault, hfailed⟩ := hside
    refine ⟨hfault, hfailed, fun hn => absurd hn (by simp), fun op hsome => ?_⟩
    rw [hop] at hsome
    split at hsome
    · cases hsome
    · next hp => cases hsome; exact fun hd => hp (.inr hd)

/-! ## The pulse and the confirmation window (R26, R27) -/

theorem exec_onOperation {w : Moment} {op : ContactorOp} {t : State} {body : ContactorOp → State → State}
    (hsteady : s.Steady) (hop : s.sdo.operation = some op) (hbody : body op (s.upTo w) = t) (hsup : t.sup = s.sup) :
    command w (fun s => match s.sdo.operation with | some op => body op s | none => s) s = .next t := by
  rw [command_eq]
  simp only [upTo_sdo, hop, hbody]
  rw [leaveCheck_of_steady _ (by unfold State.Steady at *; rwa [hsup])]

theorem pulseEnd_effect (w : Moment) {op : ContactorOp} (hsteady : s.Steady) (hop : s.sdo.operation = some op)
    (hdue : op.pulseStart + 100 ≤ (s.upTo w).now) :
    exec (.pulseEnd w) s = .next ((s.upTo w).onSdo fun x => { x with operation := some { op with driven := false } }) :=
  exec_onOperation (body := fun op s => if op.pulseStart + 100 ≤ s.now then
      s.onSdo fun x => { x with operation := some { op with driven := false } } else s)
    hsteady hop (if_pos hdue) (upTo_sup s w)

theorem windowExpiry_begins (w : Moment) {op : ContactorOp} (hsteady : s.Steady) (hop : s.sdo.operation = some op)
    (hdue : op.pulseStart + 500 ≤ (s.upTo w).now) (hfirst : op.attempt = 1) :
    exec (.confirmationWindowExpiry w) s = .next (beginAttempt op.direction 2 (s.upTo w)) :=
  exec_onOperation (body := fun op s => if op.pulseStart + 500 ≤ s.now then sdoOnWindow w.order op s else s)
    hsteady hop ((if_pos hdue).trans (if_pos hfirst)) (upTo_sup s w)

theorem windowExpiry_fails (w : Moment) {op : ContactorOp} (hsteady : s.Steady) (hop : s.sdo.operation = some op)
    (hdue : op.pulseStart + 500 ≤ (s.upTo w).now) (hsecond : op.attempt ≠ 1) :
    exec (.confirmationWindowExpiry w) s = .next (endOperation w.order op true (s.upTo w)) :=
  exec_onOperation (body := fun op s => if op.pulseStart + 500 ≤ s.now then sdoOnWindow w.order op s else s)
    hsteady hop ((if_pos hdue).trans (if_neg hsecond))
    ((endOperation_changedOnly w.order op true (s.upTo w)).sup.trans (upTo_sup s w))

/-- After the end of an operation the contactor side stands as the outcome and the pending command have it. -/
theorem endOperation_waiting (order : List Taker) (op : ContactorOp) (failed : Bool) (s : State) :
    (s.sdo.waitingCommand = none → (endOperation order op failed s).sdo.operation = none ∧
      (endOperation order op failed s).sdo.waitingCommand = none) ∧
    ∀ d, s.sdo.waitingCommand = some d →
      (endOperation order op failed s).sdo.operation =
          (if s.position = none ∨ s.position = some d then none
            else some { direction := d, attempt := 1, pulseStart := s.now, driven := true }) ∧
        (endOperation order op failed s).sdo.waitingCommand = if s.position = none then some d else none := by
  have hside := reportOutcome_side order op failed s
  have hparts := reportOutcome_changedOnly order op failed s
  have hposition : (reportOutcome order op failed s).position = s.position := position_congr hparts.mch
  have hnow : (reportOutcome order op failed s).now = s.now := congrArg (· / 1000) hparts.clock
  simp only [State.side, Prod.mk.injEq] at hside
  obtain ⟨hop, hwaiting, -, -⟩ := hside
  rw [endOperation_eq]
  refine ⟨fun hn => (takeWaitingCommand_report _ hop).2.2.1 (hwaiting.trans hn), fun d hd => ?_⟩
  have htaken := takeWaitingCommand_of_some (hwaiting.trans hd) hop
  simp only [State.side, Prod.mk.injEq, hposition, hnow] at htaken
  exact ⟨htaken.1, htaken.2.1⟩

theorem endOperation_outcome (order : List Taker) (op : ContactorOp) (failed : Bool) (s : State) :
    (endOperation order op failed s).sdo.contactorFault = failed ∧
      (endOperation order op failed s).sdo.lastFailed = (if failed then some op.direction else none) ∧
      ∀ op', (endOperation order op failed s).sdo.operation = some op' → s.position ≠ some op'.direction := by
  have hside := reportOutcome_side order op failed s
  have hposition : (reportOutcome order op failed s).position = s.position :=
    position_congr (reportOutcome_changedOnly order op failed s).mch
  simp only [State.side, Prod.mk.injEq] at hside
  obtain ⟨hop, -, hfault, hfailed⟩ := hside
  obtain ⟨hfault', hfailed', -, hnew⟩ := takeWaitingCommand_report _ hop
  rw [endOperation_eq]
  exact ⟨hfault'.trans hfault, hfailed'.trans hfailed, fun op' h => hposition ▸ hnew op' h⟩

theorem endOperation_enters (order : List Taker) (op : ContactorOp) (failed : Bool) (s : State) :
    s.Enters (endOperation order op failed s) .contactor 0 (outcomeValue op.direction op.attempt failed) :=
  (reportOutcome_enters order op failed s).before (takeWaitingCommand_keepsBut _ .log (by decide))

theorem endOperation_csc (order : List Taker) (op : ContactorOp) (failed : Bool) (s : State) :
    (endOperation order op failed s).csc =
      if failed = true ∧ s.csc.record = some op.direction then { s.csc with record := none } else s.csc :=
  (takeWaitingCommand_changedOnly _).csc.trans (reportOutcome_csc order op failed s)

/-- The second attempt unconfirmed: the operation ends FAILED (R27, R29, R64). -/
theorem secondAttempt_fails (w : Moment) {op : ContactorOp} (hsteady : s.Steady) (hop : s.sdo.operation = some op)
    (hdue : op.pulseStart + 500 ≤ (s.upTo w).now) (hsecond : op.attempt ≠ 1) :
    ∃ t, exec (.confirmationWindowExpiry w) s = .next t ∧
      (t.sdo.contactorFault = true ∧ t.sdo.lastFailed = some op.direction) ∧
      (t.csc = { s.csc with record := if s.csc.record = some op.direction then none else s.csc.record }) ∧
      (s.upTo w).Logged t .contactor 0 (twoParts op.direction.code (op.attempt % 4 + 4)) ∧
      (s.sdo.waitingCommand = none → t.sdo.operation = none ∧ t.sdo.waitingCommand = none) ∧
      (∀ d, s.sdo.waitingCommand = some d → s.position = some d → t.sdo.operation = none ∧ t.sdo.waitingCommand = none) ∧
      (∀ d, s.sdo.waitingCommand = some d → s.position = none → t.sdo.operation = none ∧ t.sdo.waitingCommand = some d) ∧
      (∀ d, s.sdo.waitingCommand = some d → s.position ≠ some d → s.position ≠ none → t.sdo.operation = some { direction := d, attempt := 1, pulseStart := (s.upTo w).now, driven := true } ∧ t.sdo.waitingCommand = none) ∧
      (s.alu.running = true → s.alu.points.length = 32 → (pointGet t.alu.points 9).condition = true) ∧
      (s.upTo w).ChangedOnly [.sdo, .csc, .alu, .pli] t := by
  refine ⟨_, windowExpiry_fails w hsteady hop hdue hsecond, ?_⟩
  have hposition : (s.upTo w).position = s.position := position_congr (upTo_mch s w)
  obtain ⟨hfault, hfailed, -⟩ := endOperation_outcome w.order op true (s.upTo w)
  have hcsc := endOperation_csc w.order op true (s.upTo w)
  obtain ⟨hnone, hsome⟩ := endOperation_waiting w.order op true (s.upTo w)
  rw [upTo_sdo] at hnone hsome
  rw [hposition] at hsome
  rw [upTo_csc] at hcsc
  refine ⟨⟨hfault, hfailed⟩, hcsc.trans ?_, (endOperation_enters w.order op true (s.upTo w)).logged, hnone,
    fun d hd hp => ?_, fun d hd hp => ?_, fun d hd hp hq => ?_, fun hr hl => ?_, endOperation_changedOnly _ _ _ _⟩
  · split <;> simp_all
  · simpa [hp] using hsome d hd
  · simpa [hp] using hsome d hd
  · simpa [hp, hq] using hsome d hd
  · rw [endOperation_eq, (takeWaitingCommand_changedOnly _).alu]
    exact reportOutcome_condition w.order op true (by rwa [upTo_running]) (by rwa [upTo_points])

end Sys2Proof.Machine
end

section
/-! SUPPORT. A qualified change of CTR_FB (R27 to R29, R64, R65, R67, R69), and O39. -/
namespace Sys2Proof.Machine

set_option Elab.async false

variable {s t u : State}

/-! ## CSC takes a change of CTR_FB (R65) -/

/-- CSC with the record of its command removed when CTR_FB shows the position commanded (R64). -/
def Csc.answered (c : Csc) (p : Direction) : Csc := if c.record = some p then { c with record := none } else c

theorem Csc.answered_record (c : Csc) (p : Direction) :
    (c.answered p).record ≠ some p ∧ (c.record = none → (c.answered p).record = none) := by
  unfold Csc.answered; split <;> simp_all

@[simp] theorem Csc.answered_stage (c : Csc) (p : Direction) : (c.answered p).stage = c.stage := by
  unfold Csc.answered; split <;> rfl

theorem cscHand_csc (order : List Taker) (old : Csc) (manual : Option Direction) (s : State) :
    (cscHand order old manual s).csc = s.csc := by
  rw [cscHand_eq]
  exact (fan_changedOnly order _ (cscTakes_changedOnly order old s.csc manual) s).csc

/-- A stage event leaves CSC as it is handed, but for the target. -/
theorem stageEvent_csc (order : List Taker) (new : Csc) (manual : Option Direction) (s : State) :
    ∃ target, (stageEvent order new manual s).csc = { new with target := target } := by
  unfold stageEvent
  split
  · exact ⟨new.target, rfl⟩
  · exact ⟨_, cscHand_csc _ _ _ _⟩

/-- CSC's answer to a change of CTR_FB to a position: the record of that position is gone, no command is made (R64), and
an open contactor is ISOLATED. -/
def State.Answers (p : Direction) (s t : State) : Prop :=
  t.side = s.side ∧ t.csc.record ≠ some p ∧ (p = .opening → t.csc.stage = .isolated)

theorem State.Answers.onCsc {p : Direction} {new : Csc} (hrecord : new.record = (s.csc.answered p).record)
    (hstage : p = .opening → new.stage = .isolated) : s.Answers p (s.onCsc fun _ => new) :=
  ⟨rfl, by rw [State.onCsc_csc, hrecord]; exact (s.csc.answered_record p).1, hstage⟩

theorem stageEvent_answers (order : List Taker) {p : Direction} {new : Csc} {manual : Option Direction}
    (hrecord : new.record = (s.csc.answered p).record) (hstage : p = .opening → new.stage = .isolated) :
    s.Answers p (stageEvent order new manual s) := by
  obtain ⟨hne, hnone⟩ := s.csc.answered_record p
  obtain ⟨target, hcsc⟩ := stageEvent_csc order new manual s
  refine ⟨stageEvent_side order (fun hs => hrecord.trans (hnone hs)) manual, ?_⟩
  rw [hcsc]
  exact ⟨by rw [hrecord]; exact hne, hstage⟩

theorem State.Answers.ite {c : Prop} [Decidable c] {p : Direction} (ht : s.Answers p t) (hu : s.Answers p u) :
    s.Answers p (if c then t else u) := by split <;> assumption

theorem cscOnCtrFb_answers (order : List Taker) (p : Direction) (s : State) : s.Answers p (cscOnCtrFb order p s) := by
  unfold cscOnCtrFb
  dsimp only
  rw [show (if s.csc.record = some p then { s.csc with record := none } else s.csc) = s.csc.answered p from rfl]
  split
  · exact .ite (stageEvent_answers order rfl fun _ => rfl) (stageEvent_answers order rfl fun _ => rfl)
  · exact .ite (stageEvent_answers order rfl nofun) (stageEvent_answers order rfl nofun)
  · next h => exact .onCsc rfl fun _ => h
  · exact stageEvent_answers order rfl nofun
  · exact stageEvent_answers order rfl fun _ => rfl
  · exact .onCsc rfl nofun

/-! ## SDO takes a change of CTR_FB (R26, R27, R29) -/

/-- A change of CTR_FB is no FAILED report: SDO's taking it leaves CSC. -/
theorem sdoOnCtrFb_csc (order : List Taker) (s : State) : (sdoOnCtrFb order s).csc = s.csc := by
  have htaken : ∀ x : State, (takeWaitingCommand x).csc = x.csc := fun x => (takeWaitingCommand_changedOnly x).csc
  have hite : ∀ {c : Prop} [Decidable c] {x y : State}, x.csc = s.csc → y.csc = s.csc → (if c then x else y).csc = s.csc :=
    fun hx hy => by split <;> assumption
  unfold sdoOnCtrFb
  split
  · refine hite ?_ rfl
    rw [endOperation_csc]
    exact if_neg (by simp)
  · dsimp only
    rw [htaken]
    exact hite (takeCondition_changedOnly order 9 (s.onSdo _)).csc rfl

/-- No operation is in flight that waits for the position CTR_FB shows, and none has failed. -/
def State.Confirmed (s : State) (waiting : Option Direction) : Prop :=
  (s.sdo.contactorFault = false ∧ s.sdo.lastFailed = none) ∧
    (waiting = none → s.sdo.operation = none ∧ s.sdo.waitingCommand = none) ∧
    ∀ op, s.sdo.operation = some op → s.position ≠ some op.direction

theorem State.Confirmed.congr {d : Option Direction} (h : s.Confirmed d) (hside : t.side = s.side) (hmch : t.mch = s.mch) :
    t.Confirmed d := by
  simp only [State.side, Prod.mk.injEq] at hside
  obtain ⟨hop, hwaiting, hfault, hfailed⟩ := hside
  unfold State.Confirmed
  rwa [hop, hwaiting, hfault, hfailed, position_congr hmch]

/-- CTR_FB confirms the operation in flight (R27). -/
theorem sdoOnCtrFb_of_confirmed (order : List Taker) {op : ContactorOp} (hop : s.sdo.operation = some op)
    (hposition : s.position = some op.direction) : sdoOnCtrFb order s = endOperation order op false s := by
  rw [sdoOnCtrFb, hop]
  exact if_pos hposition

theorem endOperation_confirmed (order : List Taker) (op : ContactorOp) (s : State) :
    (endOperation order op false s).Confirmed s.sdo.waitingCommand := by
  obtain ⟨hfault, hfailed, hnew⟩ := endOperation_outcome order op false s
  refine ⟨⟨hfault, hfailed⟩, (endOperation_waiting order op false s).1, fun op' h => ?_⟩
  rw [position_congr (endOperation_changedOnly order op false s).mch]
  exact hnew op' h

theorem sdoOnCtrFb_confirmed (order : List Taker) {d : Option Direction} (h : s.Confirmed d) :
    (sdoOnCtrFb order s).Confirmed d := by
  obtain ⟨⟨hfault, hfailed⟩, hwaiting, hnew⟩ := h
  cases hop : s.sdo.operation with
  | some op =>
    rw [sdoOnCtrFb, hop]
    dsimp only
    rw [if_neg (hnew op hop)]
    exact ⟨⟨hfault, hfailed⟩, hwaiting, hnew⟩
  | none =>
    obtain ⟨hfault', hfailed', hnone, hnew'⟩ := takeWaitingCommand_report s hop
    rw [sdoOnCtrFb, hop]
    dsimp only
    rw [if_neg (by simp [hfault])]
    refine ⟨⟨hfault'.trans hfault, hfailed'.trans hfailed⟩, fun hd => hnone (hwaiting hd).2, fun op h => ?_⟩
    rw [position_congr (takeWaitingCommand_changedOnly s).mch]
    exact hnew' op h

/-! ## The hand-off of a change of CTR_FB -/

/-- What each taker of a change of CTR_FB makes of the state. -/
def ctrFbTakes (order : List Taker) (x : Taker) (s : State) : State :=
  match x with
  | .sdo => sdoOnCtrFb order s
  | .csc =>
    match s.position with
    | some p => cscOnCtrFb order p s
    | none => s
  | .pli => requestStatus s
  | _ => s

theorem handCtrFb_eq (order : List Taker) (s : State) :
    handCtrFb order s = fan order [.sdo, .csc, .pli] (ctrFbTakes order) s := rfl

theorem ctrFbTakes_csc (order : List Taker) {p : Direction} (hp : s.position = some p) :
    ctrFbTakes order .csc s = cscOnCtrFb order p s := by rw [ctrFbTakes, hp]

theorem ctrFbTakes_changedOnly (order : List Taker) (x : Taker) (s : State) :
    s.ChangedOnly [.sdo, .csc, .alu, .pli, .sac, .cbu, .sup] (ctrFbTakes order x s) := by
  cases x with
  | sdo => exact (sdoOnCtrFb_changedOnly order s).mono rfl
  | csc =>
    unfold ctrFbTakes
    dsimp only
    split
    · exact (cscOnCtrFb_changedOnly _ _ s).mono rfl
    · exact .refl s _
  | pli => exact (requestStatus_changedOnly s).mono rfl
  | _ => exact .refl s _

theorem ctrFbTakes_logKept (order : List Taker) (x : Taker) (s : State) : s.LogKept (ctrFbTakes order x s) := by
  cases x with
  | sdo => exact sdoOnCtrFb_keepsBut order s .log (by decide)
  | csc =>
    unfold ctrFbTakes
    dsimp only
    split
    · exact cscOnCtrFb_keepsBut _ _ s .log (by decide)
    · exact .of_alu rfl
  | pli => exact requestStatus_keeps s .log (by decide)
  | _ => exact .of_alu rfl

theorem ctrFbTakes_position (order : List Taker) (x : Taker) (s : State) : (ctrFbTakes order x s).position = s.position :=
  position_congr (ctrFbTakes_changedOnly order x s).mch

/-- SDO alone changes the contactor side. -/
theorem ctrFbTakes_side (order : List Taker) {x : Taker} (hx : x ≠ .sdo) (s : State) : (ctrFbTakes order x s).side = s.side := by
  cases x with
  | sdo => exact absurd rfl hx
  | csc =>
    unfold ctrFbTakes
    dsimp only
    split
    · exact (cscOnCtrFb_answers _ _ s).1
    · rfl
  | pli => exact State.side_of_changedOnly (requestStatus_changedOnly s)
  | _ => rfl

/-- CSC alone changes its own part. -/
theorem ctrFbTakes_csc_of_ne (order : List Taker) {x : Taker} (hx : x ≠ .csc) (s : State) :
    (ctrFbTakes order x s).csc = s.csc := by
  cases x with
  | csc => exact absurd rfl hx
  | sdo => exact sdoOnCtrFb_csc order s
  | pli => exact (requestStatus_changedOnly s).csc
  | _ => rfl

/-- An operation that CTR_FB confirms ends, with its entry in the log (R27, R28, R188). -/
theorem handCtrFb_confirmed (order : List Taker) {op : ContactorOp} (hop : s.sdo.operation = some op)
    (hposition : s.position = some op.direction) :
    (handCtrFb order s).Confirmed s.sdo.waitingCommand ∧
      s.Enters (handCtrFb order s) .contactor 0 (outcomeValue op.direction op.attempt false) := by
  have hkept : ∀ x ∈ [Taker.sdo, .csc, .pli], x ≠ .sdo → ∀ u : State, u.side = s.side ∧ u.position = some op.direction →
      (ctrFbTakes order x u).side = s.side ∧ (ctrFbTakes order x u).position = some op.direction := fun x _ hx u hu =>
    ⟨(ctrFbTakes_side order hx u).trans hu.1, (ctrFbTakes_position order x u).trans hu.2⟩
  have hends : ∀ u : State, u.side = s.side ∧ u.position = some op.direction →
      ctrFbTakes order .sdo u = endOperation order op false u := fun u hu =>
    sdoOnCtrFb_of_confirmed order ((congrArg Prod.fst hu.1 :).trans hop) hu.2
  rw [handCtrFb_eq]
  refine ⟨fan_establishes order (I := fun u => u.side = s.side ∧ u.position = some op.direction)
    (P := fun u => u.Confirmed s.sdo.waitingCommand) .sdo (by decide) hkept
    (fun u hu => ?_) (fun x _ u hu => ?_) s ⟨rfl, hposition⟩, ?_⟩
  · have hwaiting : u.sdo.waitingCommand = s.sdo.waitingCommand := congrArg (fun y => y.2.1) hu.1
    rw [hends u hu, ← hwaiting]
    exact endOperation_confirmed order op u
  · by_cases hx : x = .sdo
    · subst hx; exact sdoOnCtrFb_confirmed order hu
    · exact hu.congr (ctrFbTakes_side order hx u) (ctrFbTakes_changedOnly order x u).mch
  · exact fan_enters order (I := fun u => u.side = s.side ∧ u.position = some op.direction) .sdo (by decide) hkept
      (fun u hu => by rw [hends u hu]; exact endOperation_enters order op false u)
      (fun x _ u => ctrFbTakes_logKept order x u) ⟨rfl, hposition⟩

/-- After a change of CTR_FB no record commands the position shown, and an open contactor is ISOLATED (R64, R65). -/
theorem handCtrFb_answered (order : List Taker) {p : Direction} (hposition : s.position = some p) :
    (handCtrFb order s).csc.record ≠ some p ∧ (p = .opening → (handCtrFb order s).csc.stage = .isolated) := by
  have hcsc : ∀ u : State, u.position = some p →
      (ctrFbTakes order .csc u).csc.record ≠ some p ∧ (p = .opening → (ctrFbTakes order .csc u).csc.stage = .isolated) :=
    fun u hu => by rw [ctrFbTakes_csc order hu]; exact (cscOnCtrFb_answers order p u).2
  rw [handCtrFb_eq]
  refine (fan_establishes order (I := fun u => u.position = some p)
    (P := fun u => u.position = some p ∧ u.csc.record ≠ some p ∧ (p = .opening → u.csc.stage = .isolated)) .csc (by decide)
    (fun x _ _ u hu => (ctrFbTakes_position order x u).trans hu)
    (fun u hu => ⟨(ctrFbTakes_position order .csc u).trans hu, hcsc u hu⟩)
    (fun x _ u hu => ⟨(ctrFbTakes_position order x u).trans hu.1, ?_⟩) s hposition).2
  by_cases hx : x = .csc
  · subst hx; exact hcsc u hu.1
  · rw [ctrFbTakes_csc_of_ne order hx u]; exact hu.2

/-! ## What follows of the command: OPERATING may be entered (R182) -/

/-- OPERATING entry makes no contactor command and keeps the record (R67). -/
theorem cscOnOperating_side (order : List Taker) (s : State) :
    (cscOnOperating order s).side = s.side ∧ (cscOnOperating order s).csc.record = s.csc.record := by
  unfold cscOnOperating
  dsimp only
  split
  · refine ⟨Eq.trans (cscHand_side order ?_ none) rfl, (congrArg Csc.record (cscHand_csc order _ none _)).trans rfl⟩
    exact newCommand_of_record fun h => h
  · exact ⟨rfl, rfl⟩

theorem operatingTakes_side (order : List Taker) (x : Taker) (s : State) :
    (operatingTakes order x s).side = s.side ∧ (operatingTakes order x s).csc.record = s.csc.record := by
  cases x with
  | csc => exact cscOnOperating_side order s
  | cbu =>
    refine ⟨?_, congrArg Csc.record (cbuOnOperating_changedOnly s).csc⟩
    change (if _ then _ else _ : State).side = _
    exact side_ite (writeTarget_side _ _ _) (writeTarget_side _ _ _)
  | alu => exact ⟨recomputeRelays_side s, congrArg Csc.record (recomputeRelays_changedOnly s).csc⟩
  | _ => exact ⟨rfl, rfl⟩

theorem enterOperating_side (order : List Taker) (s : State) :
    (enterOperating order s).side = s.side ∧ (enterOperating order s).csc.record = s.csc.record := by
  have hnotes := operatingNotes_changedOnly s
  rw [enterOperating_eq]
  exact fan_induction order (P := fun u => u.side = s.side ∧ u.csc.record = s.csc.record)
    (fun x _ u hu => (operatingTakes_side order x u).imp (·.trans hu.1) (·.trans hu.2)) _
    ⟨State.side_of_changedOnly hnotes, congrArg Csc.record hnotes.csc⟩

/-- What follows of a command leaves the contactor side and the record, and a stage ISOLATED. -/
theorem leaveCheck_side (order : List Taker) (s : State) :
    (leaveCheck order s).side = s.side ∧ (leaveCheck order s).csc.record = s.csc.record ∧
      (s.csc.stage = .isolated → (leaveCheck order s).csc.stage = .isolated) := by
  unfold leaveCheck
  split
  · obtain ⟨hside, hrecord⟩ := enterOperating_side order s
    refine ⟨hside, hrecord, fun h => (enterOperating_stage order s).1.trans ?_⟩
    rw [State.entryStage, h]
    exact if_neg (by decide)
  · exact ⟨rfl, rfl, id⟩

/-! ## A contactor closed by hand (R65, R69) -/

theorem cscTakes_logKept (order : List Taker) (old new : Csc) (manual : Option Direction) (x : Taker) (s : State) :
    s.LogKept (cscTakes order old new manual x s) := by
  have hite : ∀ {c : Prop} [Decidable c] {t : State}, s.LogKept t → s.LogKept (if c then t else s) := fun h => by
    split
    · exact h
    · exact .of_alu rfl
  cases x with
  | sdo =>
    refine .of_alu ((writeTarget_changedOnly _ _ _).alu.trans ?_)
    split
    · exact (contactorCommand_changedOnly _ s).alu
    · rfl
  | alu => exact takeConditions_keeps order _ s .log (by decide)
  | log =>
    have hstage : s.LogKept
        (if old.stage ≠ new.stage then logEntry .stage 0 (twoParts old.stage.code new.stage.code) s else s) :=
      hite (logEntry_keeps _ _ _ s .log (by decide))
    cases manual with
    | none => exact hstage
    | some d => exact hstage.trans (logEntry_keeps _ _ _ _ .log (by decide))
  | sac => exact hite (sacOnAbsorbEnd_keepsBut order s .log (by decide))
  | cbu => exact hite (.of_alu (cbuOnEvent_changedOnly s).alu)
  | pli => exact hite (.of_alu (requestStatus_changedOnly s).alu)
  | sup => exact hite (.of_alu (supOnStage_changedOnly s).alu)
  | _ => exact .of_alu rfl

/-- A stage left makes its entry, and a contactor moved by hand makes its own (R188). -/
theorem cscHand_enters (order : List Taker) {old : Csc} (d : Direction) (hmoved : old.stage ≠ s.csc.stage) :
    s.Enters (cscHand order old (some d) s) .stage 0 (twoParts old.stage.code s.csc.stage.code) ∧
      s.Enters (cscHand order old (some d) s) .contactor 0 (manualValue d) := by
  have hlog : ∀ u : State, cscTakes order old s.csc (some d) .log u =
      logEntry .contactor 0 (manualValue d) (logEntry .stage 0 (twoParts old.stage.code s.csc.stage.code) u) := fun u => by
    unfold cscTakes
    dsimp only
    rw [if_pos hmoved]
  have hkept : ∀ (kind : LogKind) (v : Nat) (u : State), u.LogKept (logEntry kind 0 v u) := fun kind v u =>
    logEntry_keeps kind 0 v u .log (by decide)
  rw [cscHand_eq]
  constructor
  · exact fan_enters order (I := fun _ => True) .log (by decide) (fun _ _ _ _ _ => trivial)
      (fun u _ => by rw [hlog]; exact (logEntry_enters _ _ _ u).before (hkept _ _ _))
      (fun x _ u => cscTakes_logKept order old s.csc (some d) x u) trivial
  · exact fan_enters order (I := fun _ => True) .log (by decide) (fun _ _ _ _ _ => trivial)
      (fun u _ => by rw [hlog]; exact (logEntry_enters _ _ _ _).after (hkept _ _ u))
      (fun x _ u => cscTakes_logKept order old s.csc (some d) x u) trivial

theorem stageEvent_enters (order : List Taker) {new : Csc} (d : Direction) (hmoved : s.csc.stage ≠ new.stage) :
    s.Enters (stageEvent order new (some d) s) .stage 0 (twoParts s.csc.stage.code new.stage.code) ∧
      s.Enters (stageEvent order new (some d) s) .contactor 0 (manualValue d) := by
  obtain ⟨hlog, hmanual⟩ := cscHand_enters (s := s.onCsc fun _ => cscTarget s.settings.csc s.stringT new) order
    (old := s.csc) d hmoved
  rw [stageEvent, if_neg hmoved]
  exact ⟨hlog.after (.of_alu rfl), hmanual.after (.of_alu rfl)⟩

/-- The stage out of ISOLATED when the contactor closes (R65). -/
def State.closedStage (s : State) : Stage := if s.operating = true ∧ s.ptb.view ≠ .noSource then .bulk else .discharge

/-- CSC in a stage, with the dwells of its contactor's thresholds and its stage timer at 0. -/
def Csc.Entered (c : Csc) (x : Stage) : Prop :=
  c.stage = x ∧ c.lvdDwell = 0 ∧ c.reconnectDwell = 0 ∧ c.stageTimer = 0

/-- CSC entering a stage at a movement of the contactor. -/
def Csc.entering (c : Csc) (x : Stage) : Csc := { enterStage x c with lvdDwell := 0, reconnectDwell := 0 }

/-- An uncommanded closing out of ISOLATED is a stage event marked manual (R65, R69). -/
theorem cscOnCtrFb_closes (order : List Taker) (hstage : s.csc.stage = .isolated) (hrecord : s.csc.record ≠ some .closing) :
    (cscOnCtrFb order .closing s).csc.Entered s.closedStage ∧
      s.Enters (cscOnCtrFb order .closing s) .stage 0 (twoParts 6 s.closedStage.code) ∧
      s.Enters (cscOnCtrFb order .closing s) .contactor 0 (manualValue .closing) := by
  have hevent : cscOnCtrFb order .closing s =
      stageEvent order (s.csc.entering s.closedStage) (some .closing) s := by
    unfold cscOnCtrFb
    dsimp only
    simp only [hstage, hrecord, false_or, reduceCtorEq, if_false]
    rfl
  have hleft : s.csc.stage ≠ (s.csc.entering s.closedStage).stage := by
    change s.csc.stage ≠ s.closedStage
    rw [hstage, State.closedStage]; split <;> decide
  obtain ⟨target, hcsc⟩ := stageEvent_csc order (s.csc.entering s.closedStage) (some .closing) s
  have henters := stageEvent_enters order .closing hleft
  rw [hstage] at henters
  rw [hevent]
  exact ⟨by rw [hcsc]; exact ⟨rfl, rfl, rfl, rfl⟩, henters⟩

/-- Once the stage has followed, CSC leaves it to further word of the closed contactor. -/
theorem cscOnCtrFb_closed (order : List Taker) {x : Stage} (hx : x = .bulk ∨ x = .discharge) (h : s.csc.Entered x) :
    (cscOnCtrFb order .closing s).csc.Entered x := by
  obtain ⟨hstage, hlvd, hreconnect, htimer⟩ := h
  have hkept : cscOnCtrFb order .closing s = s.onCsc fun _ => s.csc.answered .closing := by
    unfold cscOnCtrFb
    dsimp only
    rw [show (if s.csc.record = some .closing then { s.csc with record := none } else s.csc) = s.csc.answered .closing from rfl]
    rcases hx with rfl | rfl <;> simp only [Csc.answered_stage, hstage]
  rw [hkept, State.onCsc_csc, Csc.answered]
  split <;> exact ⟨hstage, hlvd, hreconnect, htimer⟩

theorem State.closedStage_congr (hphase : t.sup.phase = s.sup.phase) (hptb : t.ptb = s.ptb) : t.closedStage = s.closedStage := by
  unfold State.closedStage State.operating; rw [hphase, hptb]

theorem handCtrFb_closes (order : List Taker) (hposition : s.position = some .closing) (hstage : s.csc.stage = .isolated)
    (hrecord : s.csc.record ≠ some .closing) :
    (handCtrFb order s).csc.Entered s.closedStage ∧
      s.Enters (handCtrFb order s) .stage 0 (twoParts 6 s.closedStage.code) ∧
      s.Enters (handCtrFb order s) .contactor 0 (manualValue .closing) := by
  have hclosed : s.closedStage = .bulk ∨ s.closedStage = .discharge := by
    unfold State.closedStage; split <;> simp
  have hkept : ∀ x ∈ [Taker.sdo, .csc, .pli], x ≠ .csc → ∀ u : State,
      u.position = some .closing ∧ u.csc = s.csc ∧ u.closedStage = s.closedStage →
        (ctrFbTakes order x u).position = some .closing ∧ (ctrFbTakes order x u).csc = s.csc ∧
          (ctrFbTakes order x u).closedStage = s.closedStage := fun x hx hne u ⟨hp, hc, hs⟩ => by
    have hparts := ctrFbTakes_changedOnly order x u
    refine ⟨(ctrFbTakes_position order x u).trans hp, (ctrFbTakes_csc_of_ne order hne u).trans hc,
      (State.closedStage_congr ?_ hparts.ptb).trans hs⟩
    simp only [List.mem_cons, List.not_mem_nil, or_false] at hx
    rcases hx with rfl | rfl | rfl
    · exact congrArg Sup.phase (sdoOnCtrFb_changedOnly order u).sup
    · exact absurd rfl hne
    · exact congrArg Sup.phase (requestStatus_changedOnly u).sup
  have hcloses : ∀ u : State, u.position = some .closing ∧ u.csc = s.csc ∧ u.closedStage = s.closedStage →
      (ctrFbTakes order .csc u).csc.Entered s.closedStage ∧
        u.Enters (ctrFbTakes order .csc u) .stage 0 (twoParts 6 s.closedStage.code) ∧
        u.Enters (ctrFbTakes order .csc u) .contactor 0 (manualValue .closing) := fun u ⟨hp, hc, hs⟩ => by
    rw [ctrFbTakes_csc order hp, ← hs]
    exact cscOnCtrFb_closes order (by rw [hc, hstage]) (by rw [hc]; exact hrecord)
  rw [handCtrFb_eq]
  refine ⟨(fan_establishes order
      (I := fun u => u.position = some .closing ∧ u.csc = s.csc ∧ u.closedStage = s.closedStage)
      (P := fun u => u.position = some .closing ∧ u.csc.Entered s.closedStage) .csc (by decide) hkept
      (fun u hu => ⟨(ctrFbTakes_position order .csc u).trans hu.1, (hcloses u hu).1⟩)
      (fun x _ u hu => ⟨(ctrFbTakes_position order x u).trans hu.1, ?_⟩) s ⟨hposition, rfl, rfl⟩).2,
    fan_enters order .csc (by decide) hkept (fun u hu => (hcloses u hu).2.1) (fun x _ u => ctrFbTakes_logKept order x u)
      ⟨hposition, rfl, rfl⟩,
    fan_enters order .csc (by decide) hkept (fun u hu => (hcloses u hu).2.2) (fun x _ u => ctrFbTakes_logKept order x u)
      ⟨hposition, rfl, rfl⟩⟩
  by_cases hx : x = .csc
  · subst hx
    rw [ctrFbTakes_csc order hu.1]
    exact cscOnCtrFb_closed order hclosed hu.2
  · rw [ctrFbTakes_csc_of_ne order hx u]
    exact hu.2

/-! ## The parts of O39 -/

theorem takeCandidate_position (level : Bool) (s : State) :
    (takeCandidate .ctrFb level s).position = some (if level then .closing else .opening) := by
  rw [State.position, takeCandidate_contact]
  cases level <;> rfl

/-- CTR_FB confirms the operation in flight (R27, R28, R64, R65). -/
theorem ctrFb_confirms (w : Moment) {op : ContactorOp} {level : Bool} (hawake : s.awake = true)
    (hop : s.sdo.operation = some op) (hcand : s.mch.contacts.ctrFb.candidate = some level)
    (hcount : s.mch.contacts.ctrFb.count = 5) (hdir : op.direction = if level then .closing else .opening) :
    ∃ t, exec (.contactQualified w .ctrFb) s = .next t ∧
      (t.sdo.contactorFault = false ∧ t.sdo.lastFailed = none) ∧
      (s.sdo.waitingCommand = none → t.sdo.operation = none) ∧
      t.csc.record ≠ some op.direction ∧
      (level = false → t.csc.stage = .isolated) ∧
      (s.upTo w).Logged t .contactor 0 (twoParts op.direction.code (op.attempt % 4)) := by
  refine ⟨_, exec_contactQualified w hawake hcand hcount, ?_⟩
  change _ ∧ _ ∧ _ ∧ _ ∧ State.Logged _ (leaveCheck w.order (handCtrFb w.order _)) _ _ _
  have hposition : (takeCandidate .ctrFb level (s.upTo w)).position = some op.direction := by
    rw [takeCandidate_position, hdir]
  have hsdo : (takeCandidate .ctrFb level (s.upTo w)).sdo = s.sdo := upTo_sdo s w
  obtain ⟨⟨⟨hfault, hfailed⟩, hidle, -⟩, henters⟩ := handCtrFb_confirmed w.order (by rw [hsdo]; exact hop) hposition
  obtain ⟨hrecord, hisolated⟩ := handCtrFb_answered w.order hposition
  obtain ⟨hside, hrecord', hstage⟩ := leaveCheck_side w.order
    (handCtrFb w.order (takeCandidate .ctrFb level (s.upTo w)))
  simp only [State.side, Prod.mk.injEq] at hside
  obtain ⟨hoperation, -, hfault', hfailed'⟩ := hside
  rw [hsdo] at hidle
  refine ⟨⟨hfault'.trans hfault, hfailed'.trans hfailed⟩, fun hn => hoperation.trans (hidle hn).1, fun h => hrecord (hrecord'.symm.trans h),
    fun hl => hstage (hisolated (by rw [hdir, hl]; rfl)), ?_⟩
  exact ((henters.before (leaveCheck_keepsBut w.order _ .log (by decide))).after (.of_alu rfl)).logged

/-- The contactor closed by hand out of ISOLATED (R65, R69). -/
theorem ctrFb_closedByHand (w : Moment) (hawake : s.awake = true) (hcheck : s.sup.phase ≠ .check)
    (hstage : s.csc.stage = .isolated) (hrecord : s.csc.record ≠ some .closing)
    (hcand : s.mch.contacts.ctrFb.candidate = some true) (hcount : s.mch.contacts.ctrFb.count = 5) :
    ∃ t, exec (.contactQualified w .ctrFb) s = .next t ∧
      (t.csc.stage = if s.operating = true ∧ s.ptb.view ≠ .noSource then .bulk else .discharge) ∧
      (t.csc.lvdDwell = 0 ∧ t.csc.reconnectDwell = 0 ∧ t.csc.stageTimer = 0) ∧
      (s.upTo w).Logged t .stage 0 (twoParts 6 t.csc.stage.code) ∧
      (s.upTo w).Logged t .contactor 0 (twoParts 2 128) ∧
      (s.upTo w).ChangedOnly [.mch, .csc, .sac, .cbu, .pli, .sup, .alu, .sdo] t := by
  have hentry : (s.upTo w).ChangedOnly [.mch] (takeCandidate .ctrFb true (s.upTo w)) := onMch_changedOnly _ _
  have hclosed : (takeCandidate .ctrFb true (s.upTo w)).closedStage = s.closedStage :=
    State.closedStage_congr ((congrArg Sup.phase hentry.sup).trans (congrArg Sup.phase (upTo_sup s w)))
      (hentry.ptb.trans (upTo_ptb s w))
  have hcsc : (takeCandidate .ctrFb true (s.upTo w)).csc = s.csc := hentry.csc.trans (upTo_csc s w)
  obtain ⟨hentered, hlog, hmanual⟩ := handCtrFb_closes w.order
    (takeCandidate_position true (s.upTo w)) (by rw [hcsc, hstage]) (by rw [hcsc]; exact hrecord)
  have hphase : (handCtrFb w.order (takeCandidate .ctrFb true (s.upTo w))).sup.phase = s.sup.phase :=
    (handCtrFb_keepsBut w.order _ .schedule (by decide)).2.1.trans
      ((congrArg Sup.phase hentry.sup).trans (congrArg Sup.phase (upTo_sup s w)))
  rw [hclosed] at hentered hlog
  obtain ⟨hstage', hlvd, hreconnect, htimer⟩ := hentered
  refine ⟨handCtrFb w.order (takeCandidate .ctrFb true (s.upTo w)), ?_, hstage', ⟨hlvd, hreconnect, htimer⟩, ?_,
    (hmanual.after (.of_alu rfl)).logged, (hentry.mono rfl).trans ((handCtrFb_changedOnly w.order _).mono rfl)⟩
  · rw [exec_contactQualified w (i := .ctrFb) hawake hcand hcount]
    exact congrArg _ (leaveCheck_of_phase w.order (by change (handCtrFb _ _).sup.phase ≠ _; rwa [hphase]))
  · rw [hstage']
    exact (hlog.after (.of_alu rfl)).logged

/-- Settles O39: the pulse, the two attempts of an operation, its confirmation, and the contactor closed by hand. -/
theorem theContactorIsTriedTwice : Obligations.TheContactorIsTriedTwice :=
  ⟨fun w _ _ hsteady hop hdue => pulseEnd_effect w hsteady hop hdue,
    fun w _ _ hsteady hop hdue hfirst => windowExpiry_begins w hsteady hop hdue hfirst,
    fun w _ _ hsteady hop hdue hsecond => secondAttempt_fails w hsteady hop hdue hsecond,
    fun w _ _ _ hawake hop hcand hcount hdir => ctrFb_confirms w hawake hop hcand hcount hdir,
    fun w _ hawake hcheck hstage hrecord _ hcand hcount =>
      ctrFb_closedByHand w hawake hcheck hstage hrecord hcand hcount⟩

end Sys2Proof.Machine
end

section
/-! SUPPORT. A site port request that nothing stands in the way of (R179, R185, R186), and O59. -/
namespace Sys2Proof.Machine

set_option Elab.async false

variable {s t : State}

/-! ## The log's last entry (R172) -/

/-- An entry made is the last of the log. -/
theorem logEntry_getLast (k : LogKind) (o v : Nat) (s : State) :
    (logEntry k o v s).alu.log.getLast? = some { time := s.alu.clockS, kind := k, origin := o, value := v } := by
  unfold logEntry
  rw [State.onAlu_alu]
  dsimp only
  split <;> exact List.getLast?_concat ..

/-! ## The request (R179, R185, R186) -/

theorem State.SitePlain.upTo (h : s.SitePlain) (w : Moment) : (s.upTo w).SitePlain := by
  unfold State.SitePlain State.SiteReady at *
  rwa [upTo_awake, upTo_sup]

/-- A valid frame starts the site hold again, and does nothing else where no wait and no LEAN or CHECK stands. -/
theorem validFrame_of_plain (order : List Taker) (h : s.SitePlain) : validFrame order s = s.heldOpen := by
  obtain ⟨-, hphase, hmode, hwait, -⟩ := h
  have hkept : abandonEntryWait s.heldOpen = s.heldOpen := if_neg (by simp [State.heldOpen, hwait])
  have hstays : leaveCheck order s.heldOpen = s.heldOpen := leaveCheck_of_phase order hphase
  have hfull : leaveLean order s.heldOpen = s.heldOpen := if_neg (by simp [State.heldOpen, hmode])
  change leaveLean order (leaveCheck order (abandonEntryWait s.heldOpen)) = s.heldOpen
  rw [hkept, hstays, hfull]

/-- A request of the right length that nothing stands in the way of is answered by its owner. -/
theorem siteRequest_of_plain (order : List Taker) {c : SiteCommand} {args : List Byte} (owner : State → Answer)
    (h : s.SitePlain) (hlength : args.length = c.argLength) :
    siteRequest order c args owner s = respond c (owner s.heldOpen) := by
  obtain ⟨⟨hawake, hdiscard⟩, -, -, -, hrestart⟩ := id h
  have hasleep : s.asleep = false := by
    unfold State.awake at hawake
    unfold State.asleep
    split at hawake <;> simp_all
  have howner : answerRequest c args owner s.heldOpen = owner s.heldOpen := by
    unfold answerRequest
    rw [if_neg (not_not.mpr hlength), if_neg (by simp [State.heldOpen, hrestart])]
  rw [siteRequest, if_neg (by simp [hasleep]), if_neg (by simp [hawake, hdiscard]), validFrame_of_plain order h, howner]

/-! ## The answer (R185, R186) -/

theorem respond_changedOnly (c : SiteCommand) (a : Answer) : a.after.ChangedOnly [.sup, .alu] (respond c a) :=
  .ite ((onSup_changedOnly _ _).mono rfl) (((onSup_changedOnly _ _).mono rfl).trans ((logEntry_changedOnly _ _ _ _).mono rfl))

/-- Of SUP's fields an answer gives the response alone. -/
theorem respond_sup (c : SiteCommand) (a : Answer) :
    (respond c a).sup = { a.after.sup with
      response := some { command := BitVec.ofNat 8 c.code, code := a.code, reason := a.reason, data := a.data } } := by
  unfold respond
  split
  · rfl
  · exact (logEntry_changedOnly _ _ _ _).sup

theorem respond_answered (c : SiteCommand) (a : Answer) : (respond c a).Answered c a.code a.reason :=
  ⟨a.data, by rw [respond_sup]⟩

theorem respond_points (c : SiteCommand) (a : Answer) : (respond c a).alu.points = a.after.alu.points := by
  unfold respond
  split
  · rfl
  · exact logEntry_points ..

/-- A command that is no read has its entry, the last of the log. -/
theorem respond_loggedLast {c : SiteCommand} (hc : c.isRead = false) (a : Answer) :
    (respond c a).LoggedLast c a.code := by
  have hresponds : respond c a = logEntry .siteCmd 0 (twoParts c.code a.code.code) (a.after.onSup fun x =>
      { x with response := some { command := BitVec.ofNat 8 c.code, code := a.code, reason := a.reason, data := a.data } }) :=
    if_neg (by simp [hc])
  rw [hresponds]
  exact ⟨_, logEntry_getLast _ _ _ _, rfl, rfl, rfl, (logEntry_clockS _ _ _ _).symm⟩

/-! ## A full resync (R42) -/

/-- With a C_eff above 0 a full resync leaves a full string: SoC 1,000, D 0 and a line deficit of 0. -/
theorem sacResync_of_pos {x : Sac} (h : 0 < x.cEff) :
    sacResync x = { x with q := x.cEff, r := 0, synced := true, resyncDwell := 0, soc := 1000, d := 0, lineDeficit := 0 } := by
  have hsoc : x.cEff * 1000 / x.cEff = 1000 := Nat.mul_div_cancel_left 1000 h
  simp [sacResync, sacDerive, stateOfCharge, deficit, lineDeficit, ceilDiv, hsoc]

theorem sacFullResync_sac (order : List Taker) (s : State) : (sacFullResync order s).sac = sacResync s.sac :=
  (takeCondition_changedOnly order 23 (s.onSac sacResync)).sac

/-- After a full resync no condition of UNSYNC stands (R41, R46). -/
theorem sacFullResync_condition (order : List Taker) (hrun : s.alu.running = true) (hlen : s.alu.points.length = 32) :
    (pointGet (sacFullResync order s).alu.points 23).condition = false :=
  condition_takeCondition_same order (s.onSac sacResync) hrun (by rw [State.onSac_alu, hlen]; decide)

/-- A point 23 that holds no condition has no change to take at a full resync. -/
theorem sacFullResync_points (order : List Taker) (hsynced : (pointGet s.alu.points 23).condition = false) :
    (sacFullResync order s).alu.points = s.alu.points := by
  have hstays : takeCondition order 23 (s.onSac sacResync) = s.onSac sacResync :=
    if_neg (by simp [hsynced, State.ownerCondition, sacResync, sacDerive])
  rw [sacFullResync, hstays, State.onSac_alu]

/-- Settles O59: the request reaches SAC, whose full resync is handed to point 23 and answered. -/
theorem aFullResyncFillsTheCount : Obligations.AFullResyncFillsTheCount := by
  intro w s hplain hpos
  have hresync := sacFullResync_changedOnly w.order (s.upTo w).heldOpen
  obtain ⟨a, ha⟩ : ∃ a, a = okAnswer (sacFullResync w.order (s.upTo w).heldOpen) := ⟨_, rfl⟩
  have hafter : a.after = sacFullResync w.order (s.upTo w).heldOpen := by rw [ha, okAnswer]
  have hcode : a.code = .ok ∧ a.reason = none := by rw [ha]; exact ⟨rfl, rfl⟩
  have hanswer := respond_changedOnly .resyncFull a
  have hpoints := respond_points .resyncFull a
  have hsup := respond_sup .resyncFull a
  rw [hafter] at hanswer hpoints hsup
  refine ⟨respond .resyncFull a, ?_, ?_, fun hrun hlen => ?_, fun _ hsynced => ?_, ?_, ?_, ?_, ?_⟩
  · change command w _ s = _
    rw [command_eq, siteRequest_of_plain w.order _ (hplain.upTo w) rfl, ← ha, leaveCheck_of_phase]
    obtain ⟨-, hphase, -⟩ := hplain.upTo w
    rw [hsup, hresync.sup]
    exact hphase
  · rw [hanswer.sac, sacFullResync_sac, State.heldOpen, State.onSup_sac, upTo_sac, sacResync_of_pos hpos]
  · rw [hpoints]
    exact sacFullResync_condition w.order (by simpa [State.heldOpen] using hrun) (by simpa [State.heldOpen] using hlen)
  · rw [hpoints]
    exact (sacFullResync_points w.order (by simpa [State.heldOpen] using hsynced)).trans (upTo_points s w)
  · obtain ⟨hok, hreason⟩ := hcode
    exact hok ▸ hreason ▸ respond_answered .resyncFull a
  · exact hcode.1 ▸ respond_loggedLast rfl a
  · rw [hsup, hresync.sup, ha]
  · exact ((onSup_changedOnly _ _).mono rfl).trans ((hresync.mono rfl).trans (hanswer.mono rfl))

end Sys2Proof.Machine
end

section
/-! SUPPORT. The accountant at a set, and at the end of ABSORB (R32 to R44). -/
namespace Sys2Proof.Machine

set_option Elab.async false

/-! ## The count (R32, R34, R35) -/

/-- The charge of a set is counted as R34 and R35 say, in the integers. -/
theorem countCharge_counts (a : SacSettings) (p : Nat) (i : Int) {x y : Sac} (hsynced : y.synced = x.synced)
    (hcount : (y.q, y.r) = countCharge a p i x.q x.r) : Sac.Counts a p i x y := by
  refine ⟨hsynced, fun hpos => ?_, fun hneg => ?_, fun hzero => ?_⟩ <;> unfold countCharge at hcount
  · rw [if_pos hpos, Prod.mk.injEq] at hcount
    obtain ⟨hq, hr⟩ := hcount
    rw [hq, hr]
    push_cast
    rw [Int.toNat_of_nonneg hpos.le]
    exact ⟨rfl, rfl⟩
  · rw [if_neg (by omega), if_pos hneg, Prod.mk.injEq] at hcount
    obtain ⟨hq, hr⟩ := hcount
    refine ⟨?_, hr⟩
    have hout : (((-i).toNat * (p / 10) : Nat) : Int) = -(i * (p / 10 : Nat)) := by
      push_cast
      rw [Int.toNat_of_nonneg (by omega)]
      ring
    rw [hq]
    omega
  · rw [if_neg (by omega), if_neg (by omega), Prod.mk.injEq] at hcount
    exact hcount

/-! ## A set (R33, R43) -/

theorem inTailBand_iff (tail : Nat) (i : Int) : inTailBand tail i = true ↔ -20 ≤ i ∧ i ≤ (tail : Int) := by
  simp [inTailBand]

/-- What a readable string current leaves of the accountant, resync or not (R36 to R40). -/
def Sac.ReadAt (a : SacSettings) (temp i : Int) (y : Sac) : Prop :=
  y.frozen = false ∧ y.lastI = some i ∧ Sac.SizedAt a temp y ∧ y.Derived

theorem sacResync_resynced (x : Sac) : (sacResync x).Resynced := ⟨rfl, rfl, rfl, rfl⟩

theorem lineDeficit_eq (d : Nat) : lineDeficit d = (d + 359999) / 360000 := by
  unfold lineDeficit ceilDiv
  omega

theorem sacDerive_derived (x : Sac) : (sacDerive x).Derived := ⟨rfl, rfl, lineDeficit_eq _⟩

theorem sacResync_readAt {a : SacSettings} {temp i : Int} {x : Sac} (h : x.ReadAt a temp i) :
    (sacResync x).ReadAt a temp i := by
  obtain ⟨hfrozen, hlast, hsized, -⟩ := h
  exact ⟨hfrozen, hlast, hsized, sacDerive_derived _⟩

variable (a : SacSettings) (tail p : Nat) (i temp : Int) (x : Sac)

/-- The accountant with a set's charge counted and its capacity sized, before SoC and the deficit follow (R33 to R38). -/
def Sac.counted : Sac :=
  sacCapacity a temp { x with
    frozen := false, lastI := some i, q := (countCharge a p i x.q x.r).1, r := (countCharge a p i x.q x.r).2 }

/-- The resync dwell after a set (R43). -/
def Sac.dwellAfter (floating : Bool) : Nat := if floating && inTailBand tail i then x.resyncDwell + p else 0

/-- What a set with a readable string current is: a full resync at a dwell of resync_hold, and the count otherwise. -/
theorem sacTakeSet_some (floating : Bool) : sacTakeSet a tail p (some i) temp floating x =
    if a.resyncHold * 60000 ≤ x.dwellAfter tail p i floating then sacResync (x.counted a p i temp)
    else sacDerive { x.counted a p i temp with resyncDwell := x.dwellAfter tail p i floating } := rfl

theorem sacTakeSet_readAt (floating : Bool) : (sacTakeSet a tail p (some i) temp floating x).ReadAt a temp i := by
  rw [sacTakeSet_some]
  split <;> exact ⟨rfl, rfl, ⟨rfl, rfl⟩, sacDerive_derived _⟩

/-- A set that leaves the resync dwell short of resync_hold counts its charge. -/
theorem sacTakeSet_counts {floating : Bool} (hshort : x.dwellAfter tail p i floating < a.resyncHold * 60000) :
    Sac.Counts a p i x (sacTakeSet a tail p (some i) temp floating x) ∧
      (sacTakeSet a tail p (some i) temp floating x).resyncDwell = x.dwellAfter tail p i floating := by
  rw [sacTakeSet_some, if_neg (not_le.mpr hshort)]
  exact ⟨countCharge_counts a p i rfl rfl, rfl⟩

/-- Out of FLOAT, and out of the band, the dwell is 0 and no resync comes. -/
theorem sacTakeSet_counts_of_idle {floating : Bool} (hhold : 1 ≤ a.resyncHold)
    (hidle : (floating && inTailBand tail i) = false) :
    Sac.Counts a p i x (sacTakeSet a tail p (some i) temp floating x) ∧
      (sacTakeSet a tail p (some i) temp floating x).resyncDwell = 0 := by
  have hdwell : x.dwellAfter tail p i floating = 0 := if_neg (by simp [hidle])
  have hcounts := sacTakeSet_counts a tail p i temp x (floating := floating) (by omega)
  rwa [hdwell] at hcounts

/-- A dwell of resync_hold is a full resync (R43). -/
theorem sacTakeSet_resynced {floating : Bool} (hheld : a.resyncHold * 60000 ≤ x.dwellAfter tail p i floating) :
    (sacTakeSet a tail p (some i) temp floating x).Resynced := by
  rw [sacTakeSet_some, if_pos hheld]
  exact sacResync_resynced _

/-- A set takes no synchronised accountant out of its state. -/
theorem sacTakeSet_synced (floating : Bool) (h : x.synced = true) :
    (sacTakeSet a tail p (some i) temp floating x).synced = true := by
  rw [sacTakeSet_some]
  split
  · rfl
  · exact h

/-! ## The end of ABSORB (R44) -/

/-- The accountant as the change of the stage from ABSORB to FLOAT leaves it. -/
def Sac.absorbEnded (tail : Nat) (x : Sac) : Sac :=
  match x.lastI with
  | some i => if inTailBand tail i then sacResync x else x
  | none => x

variable {tail i temp x}

theorem Sac.absorbEnded_of_band (hlast : x.lastI = some i) (hband : inTailBand tail i = true) :
    x.absorbEnded tail = sacResync x := by unfold Sac.absorbEnded; rw [hlast]; exact if_pos hband

theorem Sac.absorbEnded_of_out (hlast : x.lastI = some i) (hband : inTailBand tail i = false) :
    x.absorbEnded tail = x := by unfold Sac.absorbEnded; rw [hlast]; exact if_neg (by simp [hband])

theorem Sac.absorbEnded_of_none (hlast : x.lastI = none) : x.absorbEnded tail = x := by
  unfold Sac.absorbEnded; rw [hlast]

theorem Sac.absorbEnded_eq (tail : Nat) (x : Sac) : x.absorbEnded tail = sacResync x ∨ x.absorbEnded tail = x := by
  unfold Sac.absorbEnded
  split
  · split
    · exact .inl rfl
    · exact .inr rfl
  · exact .inr rfl

/-- A second end of ABSORB finds nothing more to do. -/
theorem Sac.absorbEnded_idem (tail : Nat) (x : Sac) : (x.absorbEnded tail).absorbEnded tail = x.absorbEnded tail := by
  rcases x.absorbEnded_eq tail with h | h
  · rw [h]
    rcases (sacResync x).absorbEnded_eq tail with g | g <;> rw [g]
    rfl
  · rw [h, h]

/-- The accountant over a change of the stage, of which it takes the end of ABSORB alone. -/
def Sac.overStage (tail : Nat) (old new : Stage) (x : Sac) : Sac :=
  if old = .absorb ∧ new = .float then x.absorbEnded tail else x

theorem Sac.overStage_of_ne {old new : Stage} (h : old ≠ .absorb ∨ new ≠ .float) (x : Sac) :
    x.overStage tail old new = x := if_neg fun g => h.elim (absurd g.1) (absurd g.2)

theorem Sac.overStage_of_end (x : Sac) : x.overStage tail .absorb .float = x.absorbEnded tail := if_pos ⟨rfl, rfl⟩

theorem Sac.overStage_eq (tail : Nat) (old new : Stage) (x : Sac) :
    x.overStage tail old new = sacResync x ∨ x.overStage tail old new = x := by
  unfold Sac.overStage
  split
  · exact x.absorbEnded_eq tail
  · exact .inr rfl

variable {s t u : State}

theorem sacOnAbsorbEnd_sac (order : List Taker) (s : State) :
    (sacOnAbsorbEnd order s).sac = s.sac.absorbEnded s.settings.csc.tailDA := by
  unfold sacOnAbsorbEnd
  cases hlast : s.sac.lastI with
  | none => exact (Sac.absorbEnded_of_none hlast).symm
  | some i =>
    dsimp only
    cases hband : inTailBand s.settings.csc.tailDA i with
    | true => exact (sacFullResync_sac order s).trans (Sac.absorbEnded_of_band hlast hband).symm
    | false => exact (Sac.absorbEnded_of_out hlast hband).symm

/-- Of what CSC hands on, the accountant takes the end of ABSORB. -/
theorem cscHand_sac (order : List Taker) (old : Csc) (manual : Option Direction) (s : State) :
    (cscHand order old manual s).sac = s.sac.overStage s.settings.csc.tailDA old.stage s.csc.stage := by
  have hsac := fan_part order (takers := [.sdo, .alu, .log, .sac, .cbu, .pli, .sup]) (f := cscTakes order old s.csc manual)
    (fun u : State => (u.settings.csc.tailDA, u.sac))
    (fun y => (y.1, y.2.overStage y.1 old.stage s.csc.stage)) .sac (by decide) (fun y => ?_) (fun u => ?_)
    (fun y _ hy u => ?_) s
  · rw [cscHand_eq]
    exact congrArg Prod.snd hsac
  · unfold Sac.overStage
    dsimp only
    split
    · rw [Sac.absorbEnded_idem]
    · rfl
  · rw [(cscTakes_changedOnly order old s.csc manual .sac u).settings]
    unfold cscTakes Sac.overStage
    dsimp only
    split
    · rw [sacOnAbsorbEnd_sac]
    · rfl
  · have hkeeps := cscTakes_changedOnly_of_ne order old s.csc manual hy u
    rw [hkeeps.settings, hkeeps.sac]

/-! ## The stage at a set (R52 to R66) -/

theorem cscHot_stage (b : CscSettings) (v : Int) (c : Csc) : (cscHot b v c).stage = c.stage := by
  unfold cscHot; split <;> rfl

theorem cscImbalance_stage (b : CscSettings) (j : CscInput) (c : Csc) : (cscImbalance b j c).stage = c.stage := by
  unfold cscImbalance; split <;> rfl

theorem cscTimer_stage (n : Nat) (c : Csc) : (cscTimer n c).stage = c.stage := by unfold cscTimer; split <;> rfl

theorem cscLvd_stage (b : CscSettings) (j : CscInput) (c : Csc) : (cscLvd b j c).stage = c.stage := by
  unfold cscLvd
  split
  · split <;> rfl
  · rfl

theorem cscReconnect_stage (b : CscSettings) (j : CscInput) (c : Csc) : (cscReconnect b j c).stage = c.stage := by
  unfold cscReconnect
  split
  · split <;> rfl
  · rfl

theorem cscDay_stage (b : CscSettings) (n : Nat) (c : Csc) : (cscDay b n c).stage = c.stage := by
  unfold cscDay; split <;> rfl

/-- The stage `new` follows on the stage `old` at a set: it stays, or makes one of the transitions of R56, R57 and R60. -/
def Stage.FollowsAtSet (old new : Stage) : Prop :=
  new = old ∨ (old, new) ∈ [(Stage.float, Stage.bulk), (.float, .equalize), (.bulk, .absorb), (.absorb, .float),
    (.equalize, .float)]

theorem cscTransition_stage (b : CscSettings) (j : CscInput) (c : Csc) :
    c.stage.FollowsAtSet (cscTransition b j c).stage := by
  have hstay : c.stage.FollowsAtSet c.stage := .inl rfl
  have henter : ∀ {old : Stage} (new : Stage) (d : Csc), old.FollowsAtSet new → old.FollowsAtSet (enterStage new d).stage :=
    fun _ _ h => h
  unfold cscTransition
  cases hstage : c.stage <;> rw [hstage] at hstay <;> dsimp only
  case float =>
    split
    · exact henter .bulk c (.inr (by decide))
    · split
      · exact henter .equalize c (.inr (by decide))
      · rwa [hstage]
  case bulk =>
    split
    · exact henter .absorb c (.inr (by decide))
    · rwa [hstage]
  case absorb =>
    split <;> split
    · exact henter .float c (.inr (by decide))
    · exact hstay
    · exact henter .float c (.inr (by decide))
    · exact hstay
  case equalize =>
    split
    · exact henter .float c (.inr (by decide))
    · split
      · exact henter .float _ (.inr (by decide))
      · rwa [hstage]
  all_goals rwa [hstage]

/-- Of the eight steps of a set the transition alone moves the stage. -/
theorem cscTakeSet_stage (b : CscSettings) (j : CscInput) (c : Csc) : c.stage.FollowsAtSet (cscTakeSet b j c).stage := by
  have hbefore : (cscTimer j.p (cscWarn b j (cscImbalance b j (cscHot b j.t c)))).stage = c.stage := by
    rw [cscTimer_stage]
    exact (cscImbalance_stage b j _).trans (cscHot_stage b j.t c)
  unfold cscTakeSet
  dsimp only
  generalize cscTimer j.p (cscWarn b j (cscImbalance b j (cscHot b j.t c))) = d at hbefore
  split
  · have hmoved := cscTransition_stage b j (cscLvd b j d)
    rw [cscLvd_stage, hbefore] at hmoved
    change c.stage.FollowsAtSet (cscDay b j.p (cscReconnect b j (cscTransition b j (cscLvd b j d)))).stage
    rwa [cscDay_stage, cscReconnect_stage]
  · exact .inl hbefore

end Sys2Proof.Machine
end

section
/-! SUPPORT. A set delivered to its takers in any order, and O35 (R13, R32 to R44). -/
namespace Sys2Proof.Machine

set_option Elab.async false

variable {s t u : State} {parts : List Part}

/-! ## A hand-off of which two takers stand out -/

/-- From `s` to `t` come `g` and then `h`, with changes of `parts` alone before, between and after them. -/
def State.ChangedAround (parts : List Part) (g h : State → State) (s t : State) : Prop :=
  ∃ u v, s.ChangedOnly parts u ∧ (g u).ChangedOnly parts v ∧ (h v).ChangedOnly parts t

/-- Takers in a row, each of which changes `parts` at most. -/
theorem foldl_takers_changedOnly {f : Taker → State → State} (ts : List Taker)
    (h : ∀ z ∈ ts, ∀ s : State, s.ChangedOnly parts (f z s)) (s : State) :
    s.ChangedOnly parts (ts.foldl (fun s z => f z s) s) := by
  induction ts generalizing s with
  | nil => exact .refl s _
  | cons z ts ih => exact (h z List.mem_cons_self s).trans (ih (fun y hy => h y (List.mem_cons_of_mem z hy)) _)

/-- Takers in a row of which `x` and after it `y` stand out. -/
theorem foldl_changedAround {f : Taker → State → State} {x y : Taker} (pre mid post : List Taker)
    (h : ∀ z ∈ pre ++ (mid ++ post), ∀ s : State, s.ChangedOnly parts (f z s)) (s : State) :
    State.ChangedAround parts (f x) (f y) s ((pre ++ x :: (mid ++ y :: post)).foldl (fun s z => f z s) s) := by
  simp only [List.foldl_append, List.foldl_cons]
  exact ⟨_, _, foldl_takers_changedOnly pre (fun z hz => h z (by simp [hz])) s,
    foldl_takers_changedOnly mid (fun z hz => h z (by simp [hz])) _,
    foldl_takers_changedOnly post (fun z hz => h z (by simp [hz])) _⟩

/-- Of takers in a row, each named once, those around `x` and `y` are others. -/
theorem ne_of_nodup_around {x y z : Taker} {pre mid post : List Taker}
    (hnodup : (pre ++ x :: (mid ++ y :: post)).Nodup) (hz : z ∈ pre ++ (mid ++ post)) : z ≠ x ∧ z ≠ y := by
  simp only [List.nodup_append, List.nodup_cons, List.mem_append, List.mem_cons] at hnodup hz
  grind

/-- A hand-off of which all takers but `x` and `y` change `parts` at most is one of these two, one after the other. -/
theorem fan_changedAround (order : List Taker) {takers : List Taker} {f : Taker → State → State} {x y : Taker}
    (hx : x ∈ takers) (hy : y ∈ takers) (hxy : x ≠ y) (hnodup : takers.Nodup)
    (h : ∀ z, z ≠ x → z ≠ y → ∀ s : State, s.ChangedOnly parts (f z s)) (s : State) :
    State.ChangedAround parts (f x) (f y) s (fan order takers f s) ∨
      State.ChangedAround parts (f y) (f x) s (fan order takers f s) := by
  unfold fan
  replace hnodup : (arrange order takers).Nodup := (arrange_perm order takers).nodup_iff.mpr hnodup
  replace hx : x ∈ arrange order takers := mem_arrange.mpr hx
  replace hy : y ∈ arrange order takers := mem_arrange.mpr hy
  generalize arrange order takers = ts at hnodup hx hy
  obtain ⟨pre, post, rfl⟩ := List.append_of_mem hx
  rcases List.mem_append.mp hy with hbefore | hafter
  · obtain ⟨first, mid, rfl⟩ := List.append_of_mem hbefore
    rw [List.append_assoc, List.cons_append] at hnodup ⊢
    refine .inr (foldl_changedAround first mid post (fun z hz => ?_) s)
    obtain ⟨hzy, hzx⟩ := ne_of_nodup_around hnodup hz
    exact h z hzx hzy
  · obtain ⟨mid, last, rfl⟩ := List.append_of_mem ((List.mem_cons.mp hafter).resolve_left hxy.symm)
    refine .inl (foldl_changedAround pre mid last (fun z hz => ?_) s)
    obtain ⟨hzx, hzy⟩ := ne_of_nodup_around hnodup hz
    exact h z hzx hzy

/-! ## The takers of a set (R13) -/

/-- What each taker of a set makes of the state. -/
def setTakes (order : List Taker) (p number : Nat) (x : Taker) (s : State) : State :=
  match x with
  | .mch => takeCondition order 19 s
  | .sac => sacOnSet order p s
  | .csc => cscOnSet order p s
  | .cbu => cbuOnSet p number s
  | .alu => aluOnSet order s
  | _ => s

theorem deliverSet_eq (order : List Taker) (p number : Nat) (s : State) :
    deliverSet order p number s = fan order [.mch, .sac, .csc, .cbu, .alu] (setTakes order p number) s := rfl

/-- The parts that takers of a set other than the accountant and CSC can change. -/
def besideSet : List Part := [.cbu, .alu, .sdo, .pli, .sup, .gco]

theorem setTakes_changedOnly (order : List Taker) (p number : Nat) {x : Taker} (hsac : x ≠ .sac) (hcsc : x ≠ .csc)
    (s : State) : s.ChangedOnly besideSet (setTakes order p number x s) := by
  cases x with
  | sac => exact absurd rfl hsac
  | csc => exact absurd rfl hcsc
  | mch => exact (takeCondition_changedOnly _ _ s).mono rfl
  | cbu => exact (cbuOnSet_changedOnly _ _ s).mono rfl
  | alu => exact (aluOnSet_changedOnly _ s).mono rfl
  | _ => exact .refl s _

/-- A set delivered is the accountant's part and CSC's, in one of the two orders. -/
theorem deliverSet_changedAround (order : List Taker) (p number : Nat) (s : State) :
    State.ChangedAround besideSet (sacOnSet order p) (cscOnSet order p) s (deliverSet order p number s) ∨
      State.ChangedAround besideSet (cscOnSet order p) (sacOnSet order p) s (deliverSet order p number s) :=
  fan_changedAround order (f := setTakes order p number) (x := .sac) (y := .csc) (by decide) (by decide) (by decide)
    (by decide) (fun _ hx hy => setTakes_changedOnly order p number hx hy) s

/-- In the model's order the accountant comes first. -/
theorem deliverSet_changedAround_nil (p number : Nat) (s : State) :
    State.ChangedAround besideSet (sacOnSet [] p) (cscOnSet [] p) s (deliverSet [] p number s) :=
  foldl_changedAround (f := setTakes [] p number) (x := .sac) (y := .csc) [.mch] [] [.cbu, .alu]
    (fun x hx => setTakes_changedOnly [] p number (by rintro rfl; simp at hx) (by rintro rfl; simp at hx)) s

/-! ## The accountant and the stage over a set -/

/-- The accountant `x` over a set of period `p`, by the settings and the readings of `t`; `floating` says whether the
stage read is FLOAT. -/
def State.counting (t : State) (p : Nat) (floating : Bool) (x : Sac) : Sac :=
  sacTakeSet t.settings.sac t.settings.csc.tailDA p (t.channel .strI) t.stringT floating x

theorem sacOnSet_sac (order : List Taker) (p : Nat) (s : State) :
    (sacOnSet order p s).sac = s.counting p (s.csc.stage == .float) s.sac :=
  (takeCondition_changedOnly order 23 (s.onSac _)).sac

theorem State.counting_congr (hset : t.settings = s.settings) (hmch : t.mch = s.mch) (p : Nat) (floating : Bool)
    (x : Sac) : t.counting p floating x = s.counting p floating x := by
  have hchannel : t.channel .strI = s.channel .strI := by rw [State.channel, hmch, State.channel]
  have htemp : t.stringT = s.stringT := by rw [State.stringT, hmch, State.stringT]
  rw [State.counting, hset, hchannel, htemp, State.counting]

/-- The accountant of `s` with a set of period `p` counted before, or after, the stage has become `new`. -/
def State.countedBefore (s t : State) (p : Nat) (new : Stage) : Sac :=
  (t.counting p (s.csc.stage == .float) s.sac).overStage t.settings.csc.tailDA s.csc.stage new

def State.countedAfter (s t : State) (p : Nat) (new : Stage) : Sac :=
  t.counting p (new == .float) (s.sac.overStage t.settings.csc.tailDA s.csc.stage new)

theorem cscOnSet_stage (order : List Taker) (p : Nat) (s : State) :
    s.csc.stage.FollowsAtSet (cscOnSet order p s).csc.stage := by
  rw [cscOnSet, cscHand_csc]
  exact cscTakeSet_stage _ _ _

theorem cscOnSet_sac (order : List Taker) (p : Nat) (s : State) :
    (cscOnSet order p s).sac = s.sac.overStage s.settings.csc.tailDA s.csc.stage (cscOnSet order p s).csc.stage := by
  rw [cscOnSet, cscHand_sac, cscHand_csc]
  rfl

/-- The accountant's part of a set, and then CSC's. -/
theorem sac_of_sacFirst {order : List Taker} {p : Nat}
    (h : State.ChangedAround besideSet (sacOnSet order p) (cscOnSet order p) s t) :
    s.csc.stage.FollowsAtSet t.csc.stage ∧ t.sac = s.countedBefore s p t.csc.stage := by
  obtain ⟨u, v, hu, hv, ht⟩ := h
  have hsac := sacOnSet_changedOnly order p u
  have hstage : v.csc.stage = s.csc.stage := by rw [hv.csc, hsac.csc, hu.csc]
  have hset : v.settings = s.settings := by rw [hv.settings, hsac.settings, hu.settings]
  rw [ht.csc, ht.sac, cscOnSet_sac, hv.sac, sacOnSet_sac, hset, hu.csc, hu.sac, State.counting_congr hu.settings hu.mch,
    hstage]
  exact ⟨hstage ▸ cscOnSet_stage order p v, rfl⟩

/-- CSC's part of a set, and then the accountant's. -/
theorem sac_of_cscFirst {order : List Taker} {p : Nat}
    (h : State.ChangedAround besideSet (cscOnSet order p) (sacOnSet order p) s t) :
    s.csc.stage.FollowsAtSet t.csc.stage ∧ t.sac = s.countedAfter s p t.csc.stage := by
  obtain ⟨u, v, hu, hv, ht⟩ := h
  have hcsc := cscOnSet_changedOnly order p u
  have hstage : t.csc.stage = (cscOnSet order p u).csc.stage := by
    rw [ht.csc, (sacOnSet_changedOnly order p v).csc, hv.csc]
  rw [ht.sac, sacOnSet_sac, hv.csc, hv.sac, cscOnSet_sac, ← hstage, hu.csc, hu.sac, hu.settings,
    State.counting_congr (hv.settings.trans (hcsc.settings.trans hu.settings)) (hv.mch.trans (hcsc.mch.trans hu.mch))]
  exact ⟨by rw [hstage, ← hu.csc]; exact cscOnSet_stage order p u, rfl⟩

/-- A set delivered: CSC moves the stage, and the accountant counts before or after it. -/
theorem deliverSet_sac (order : List Taker) (p number : Nat) (hdelivered : deliverSet order p number s = t) :
    s.csc.stage.FollowsAtSet t.csc.stage ∧
      (t.sac = s.countedBefore s p t.csc.stage ∨ t.sac = s.countedAfter s p t.csc.stage) ∧
      (order = [] → t.sac = s.countedBefore s p t.csc.stage) := by
  subst hdelivered
  have hfirst : order = [] → (deliverSet order p number s).sac =
      s.countedBefore s p (deliverSet order p number s).csc.stage := fun hnil => by
    subst hnil
    exact (sac_of_sacFirst (deliverSet_changedAround_nil p number s)).2
  rcases deliverSet_changedAround order p number s with h | h
  · obtain ⟨hstage, hsac⟩ := sac_of_sacFirst h
    exact ⟨hstage, .inl hsac, hfirst⟩
  · obtain ⟨hstage, hsac⟩ := sac_of_cscFirst h
    exact ⟨hstage, .inr hsac, hfirst⟩

/-! ## The command -/

/-- A change found in CHECK moves no stage but DISCHARGE, and leaves the accountant (R67, R182). -/
theorem leaveCheck_stage (order : List Taker) (s : State) :
    ((leaveCheck order s).csc.stage = s.csc.stage ∨ s.csc.stage = .discharge) ∧ (leaveCheck order s).sac = s.sac := by
  unfold leaveCheck
  split
  · obtain ⟨hstage, hsac⟩ := enterOperating_stage order s
    refine ⟨?_, hsac⟩
    rw [hstage, State.entryStage]
    split
    · next hdischarge => exact .inr hdischarge
    · exact .inl rfl
  · exact ⟨.inl rfl, rfl⟩

/-- What a set has made of the accountant and the stage of `s`: CSC has left the stage `new`, which stays unless it is
DISCHARGE, and the accountant has counted before or after CSC, before it in the model's order. -/
structure State.CountedTo (s : State) (order : List Taker) (p : Nat) (new : Stage) (t : State) : Prop where
  settings : t.settings = s.settings
  follows : s.csc.stage.FollowsAtSet new
  stage : t.csc.stage = new ∨ new = .discharge
  sac : t.sac = s.countedBefore t p new ∨ t.sac = s.countedAfter t p new
  sac_nil : order = [] → t.sac = s.countedBefore t p new

theorem measurementSet_countedTo (w : Moment) (sums : PerChannel Nat) {p : Nat} (hawake : s.awake = true)
    (hperiod : s.mch.period = some p) (hfit : s.sumsFit sums = true) :
    ∃ t new, exec (.measurementSet w sums) s = .next t ∧ s.CountedTo w.order p new t ∧
      (s.upTo w).ChangedOnly [.mch, .sac, .csc, .cbu, .alu, .sdo, .pli, .sup, .gco] t := by
  obtain ⟨t, hexec, -, hchanged⟩ := exec_measurementSet w sums hawake hperiod hfit
  have hend : leaveCheck w.order
      (deliverSet w.order p s.mch.nextNumber ((s.upTo w).onMch (mchEndPeriod p s.sup.mode sums))) = t := by
    rw [exec, execMeasurementSet, if_pos hfit, command_eq] at hexec
    simpa [endPeriod, hperiod, hawake] using hexec
  generalize hfound : (s.upTo w).onMch (mchEndPeriod p s.sup.mode sums) = u at hend
  have hsac : u.sac = s.sac := by rw [← hfound, State.onMch_sac, upTo_sac]
  have hcsc : u.csc = s.csc := by rw [← hfound, State.onMch_csc, upTo_csc]
  have hparts := deliverSet_changedOnly w.order p s.mch.nextNumber u
  generalize hdelivered : deliverSet w.order p s.mch.nextNumber u = v at hend hparts
  obtain ⟨hfollows, hcounted, hfirst⟩ := deliverSet_sac w.order p s.mch.nextNumber hdelivered
  obtain ⟨hstage, hkept⟩ := leaveCheck_stage w.order v
  have hleft := leaveCheck_changedOnly w.order v
  rw [hend] at hstage hkept hleft
  have hset : t.settings = u.settings := hleft.settings.trans hparts.settings
  have hcounting := State.counting_congr hset (hleft.mch.trans hparts.mch) p
  have hbefore : u.countedBefore u p v.csc.stage = s.countedBefore t p v.csc.stage := by
    rw [State.countedBefore, State.countedBefore, hcounting, hset, hsac, hcsc]
  have hafter : u.countedAfter u p v.csc.stage = s.countedAfter t p v.csc.stage := by
    rw [State.countedAfter, State.countedAfter, hcounting, hset, hsac, hcsc]
  rw [hbefore, hafter, ← hkept] at hcounted
  rw [hbefore, ← hkept] at hfirst
  refine ⟨t, v.csc.stage, hexec, ⟨hchanged.settings.trans (upTo_settings s w), hcsc ▸ hfollows, hstage, hcounted, hfirst⟩,
    hchanged⟩

/-! ## The parts of O35 -/

section
variable {order : List Taker} {p : Nat} {new : Stage}

theorem State.counting_none (hnone : t.channel .strI = none) (floating : Bool) (x : Sac) :
    t.counting p floating x = { x with frozen := true, resyncDwell := 0, lastI := none } := by
  unfold State.counting; rw [hnone]; rfl

theorem State.counting_some {i : Int} (hsome : t.channel .strI = some i) (floating : Bool) (x : Sac) :
    t.counting p floating x =
      sacTakeSet t.settings.sac t.settings.csc.tailDA p (some i) t.stringT floating x := by
  unfold State.counting; rw [hsome]

/-- Without a readable current the accountant freezes, whatever CSC does (R36). -/
theorem State.CountedTo.frozen (h : s.CountedTo order p new t) (hnone : t.channel .strI = none) :
    t.sac.frozen = true ∧ t.sac.lastI = none ∧ t.sac.resyncDwell = 0 := by
  rcases h.sac with hsac | hsac
  · rw [hsac, State.countedBefore, State.counting_none hnone]
    unfold Sac.overStage
    split
    · rw [Sac.absorbEnded_of_none rfl]; exact ⟨rfl, rfl, rfl⟩
    · exact ⟨rfl, rfl, rfl⟩
  · rw [hsac, State.countedAfter, State.counting_none hnone]
    exact ⟨rfl, rfl, rfl⟩

/-- With a readable one it is sized and derived, whatever CSC does (R36 to R40). -/
theorem State.CountedTo.readAt {i : Int} (h : s.CountedTo order p new t) (hsome : t.channel .strI = some i) :
    t.sac.ReadAt s.settings.sac t.stringT i := by
  rw [← h.settings]
  rcases h.sac with hsac | hsac
  · rw [hsac, State.countedBefore, State.counting_some hsome]
    rcases Sac.overStage_eq t.settings.csc.tailDA s.csc.stage new
      (sacTakeSet t.settings.sac t.settings.csc.tailDA p (some i) t.stringT (s.csc.stage == .float) s.sac) with g | g
    · rw [g]; exact sacResync_readAt (sacTakeSet_readAt ..)
    · rw [g]; exact sacTakeSet_readAt ..
  · rw [hsac, State.countedAfter, State.counting_some hsome]
    exact sacTakeSet_readAt ..

/-- Where the stage does not leave ABSORB for FLOAT, both orders count alike. -/
theorem State.CountedTo.sac_of_ne (h : s.CountedTo order p new t) (hne : s.csc.stage ≠ .absorb ∨ new ≠ .float)
    (hfloating : (s.csc.stage == .float) = (new == .float)) : t.sac = t.counting p (new == .float) s.sac := by
  rcases h.sac with hsac | hsac
  · rw [hsac, State.countedBefore, Sac.overStage_of_ne hne, hfloating]
  · rw [hsac, State.countedAfter, Sac.overStage_of_ne hne]

/-- A stage after a set that is not FLOAT is none that CSC left. -/
theorem State.CountedTo.new_ne_float (h : s.CountedTo order p new t) (hstage : t.csc.stage ≠ .float) : new ≠ .float := by
  rintro rfl
  exact h.stage.elim hstage (by decide)

/-- A stage after a set that is FLOAT is what CSC left, where the set began in a stage of charge. -/
theorem State.CountedTo.new_eq_float (h : s.CountedTo order p new t) (hold : s.csc.stage ≠ .discharge)
    (hstage : t.csc.stage = .float) : new = .float := by
  rcases h.stage with hnew | rfl
  · exact hnew.symm.trans hstage
  · rcases h.follows with hstay | hmoved
    · exact absurd hstay.symm hold
    · simp at hmoved

/-- Before FLOAT and after it a set counts without a dwell. -/
theorem State.CountedTo.outOfFloat (h : s.CountedTo order p new t) (hhold : 1 ≤ s.settings.sac.resyncHold)
    (hold : s.csc.stage ≠ .float) (hstage : t.csc.stage ≠ .float) :
    (t.channel .strI = none → t.sac = { s.sac with frozen := true, resyncDwell := 0, lastI := none }) ∧
      ∀ i, t.channel .strI = some i → Sac.Counts s.settings.sac p i s.sac t.sac ∧ t.sac.resyncDwell = 0 := by
  have hnew := h.new_ne_float hstage
  have hsac := h.sac_of_ne (.inr hnew) (by simp [hold, hnew])
  refine ⟨fun hnone => hsac.trans (State.counting_none hnone _ _), fun i hsome => ?_⟩
  rw [hsac, State.counting_some hsome, h.settings]
  exact sacTakeSet_counts_of_idle _ _ _ _ _ _ hhold (by simp [hnew])

/-- In FLOAT a set within the band counts toward resync_hold, and any other starts the dwell again (R43). -/
theorem State.CountedTo.inFloat (h : s.CountedTo order p new t) (hold : s.csc.stage = .float)
    (hstage : t.csc.stage = .float) :
    (t.channel .strI = none → t.sac = { s.sac with frozen := true, resyncDwell := 0, lastI := none }) ∧
      ∀ i, t.channel .strI = some i →
        if -20 ≤ i ∧ i ≤ (s.settings.csc.tailDA : Int) then
          (if s.settings.sac.resyncHold * 60000 ≤ s.sac.resyncDwell + p then t.sac.Resynced
           else Sac.Counts s.settings.sac p i s.sac t.sac ∧ t.sac.resyncDwell = s.sac.resyncDwell + p)
        else 1 ≤ s.settings.sac.resyncHold → Sac.Counts s.settings.sac p i s.sac t.sac ∧ t.sac.resyncDwell = 0 := by
  obtain rfl := h.new_eq_float (by simp [hold]) hstage
  have hsac := h.sac_of_ne (.inl (by simp [hold])) (by simp [hold])
  refine ⟨fun hnone => hsac.trans (State.counting_none hnone _ _), fun i hsome => ?_⟩
  rw [hsac, State.counting_some hsome, h.settings]
  split
  · next hband =>
    have hdwell : s.sac.dwellAfter s.settings.csc.tailDA p i (Stage.float == .float) = s.sac.resyncDwell + p :=
      if_pos ((inTailBand_iff _ _).mpr hband)
    split
    · next hheld => exact sacTakeSet_resynced _ _ _ _ _ _ (hdwell ▸ hheld)
    · next hshort =>
      rw [← hdwell]
      exact sacTakeSet_counts _ _ _ _ _ _ (by omega)
  · next hout =>
    have hidle : inTailBand s.settings.csc.tailDA i = false := by simpa using mt (inTailBand_iff _ _).mp hout
    exact fun hhold => sacTakeSet_counts_of_idle _ _ _ _ _ _ hhold hidle

/-- At the end of ABSORB two currents within the band synchronise the accountant and two outside it leave the sync state,
whichever of them CSC finds the most recent (R44). -/
theorem State.CountedTo.absorbEnds (h : s.CountedTo order p new t) (hhold : 1 ≤ s.settings.sac.resyncHold)
    (hold : s.csc.stage = .absorb) (hstage : t.csc.stage = .float) {i j : Int} (hsome : t.channel .strI = some i)
    (hlast : s.sac.lastI = some j) :
    (inTailBand s.settings.csc.tailDA i = true → inTailBand s.settings.csc.tailDA j = true → t.sac.synced = true) ∧
      (inTailBand s.settings.csc.tailDA i = false → inTailBand s.settings.csc.tailDA j = false →
        t.sac.synced = s.sac.synced) := by
  obtain rfl := h.new_eq_float (by simp [hold]) hstage
  have hcounts : ∀ {floating : Bool} (x : Sac), (floating && inTailBand s.settings.csc.tailDA i) = false →
      (t.counting p floating x).synced = x.synced := fun x hidle => by
    rw [State.counting_some hsome, h.settings]
    exact (sacTakeSet_counts_of_idle _ _ _ _ _ _ hhold hidle).1.1
  obtain ⟨-, hread, -⟩ := sacTakeSet_readAt s.settings.sac s.settings.csc.tailDA p i t.stringT s.sac false
  rcases h.sac with hsac | hsac
  · rw [hsac, State.countedBefore, hold, Sac.overStage_of_end, h.settings]
    change (_ → _ → ((t.counting p false s.sac).absorbEnded _).synced = true) ∧
      (_ → _ → ((t.counting p false s.sac).absorbEnded _).synced = _)
    have hlastI : (t.counting p false s.sac).lastI = some i := by rw [State.counting_some hsome, h.settings]; exact hread
    refine ⟨fun hi _ => ?_, fun hi _ => ?_⟩
    · rw [Sac.absorbEnded_of_band hlastI hi]; rfl
    · rw [Sac.absorbEnded_of_out hlastI hi]; exact hcounts _ rfl
  · rw [hsac, State.countedAfter, hold, Sac.overStage_of_end, h.settings]
    refine ⟨fun _ hj => ?_, fun hi hj => ?_⟩
    · rw [Sac.absorbEnded_of_band hlast hj, State.counting_some hsome]
      exact sacTakeSet_synced _ _ _ _ _ _ _ rfl
    · rw [Sac.absorbEnded_of_out hlast hj]
      exact hcounts _ (by simp [hi])

/-- With the accountant first the most recent current is the set's own. -/
theorem State.CountedTo.absorbEnds_nil (h : s.CountedTo [] p new t) (hhold : 1 ≤ s.settings.sac.resyncHold)
    (hold : s.csc.stage = .absorb) (hstage : t.csc.stage = .float) :
    (∀ i, t.channel .strI = some i →
      if -20 ≤ i ∧ i ≤ (s.settings.csc.tailDA : Int) then t.sac.Resynced
      else Sac.Counts s.settings.sac p i s.sac t.sac ∧ t.sac.resyncDwell = 0) ∧
      (t.channel .strI = none → t.sac = { s.sac with frozen := true, resyncDwell := 0, lastI := none }) := by
  obtain rfl := h.new_eq_float (by simp [hold]) hstage
  have hsac : t.sac = (t.counting p false s.sac).absorbEnded s.settings.csc.tailDA := by
    rw [h.sac_nil rfl, State.countedBefore, hold, Sac.overStage_of_end, h.settings]
    rfl
  refine ⟨fun i hsome => ?_, fun hnone => ?_⟩
  · rw [State.counting_some hsome, h.settings] at hsac
    obtain ⟨-, hread, -⟩ := sacTakeSet_readAt s.settings.sac s.settings.csc.tailDA p i t.stringT s.sac false
    split
    · next hband =>
      rw [hsac, Sac.absorbEnded_of_band hread ((inTailBand_iff _ _).mpr hband)]
      exact sacResync_resynced _
    · next hout =>
      rw [hsac, Sac.absorbEnded_of_out hread (by simpa using mt (inTailBand_iff _ _).mp hout)]
      exact sacTakeSet_counts_of_idle _ _ _ _ _ _ hhold rfl
  · rw [hsac, State.counting_none hnone, Sac.absorbEnded_of_none rfl]

end

/-- Settles O35: the accountant's part of a set and CSC's, in either order. -/
theorem aSetCountsTheCharge : Obligations.ASetCountsTheCharge := by
  refine ⟨fun w s sums p hawake hperiod hfit => ?_, fun w s sums p hawake hperiod hfit hhold hold => ?_,
    fun w s sums p hawake hperiod hfit hold => ?_, fun w s sums p hawake hperiod hfit hhold hold => ?_⟩ <;>
  obtain ⟨t, new, hexec, hcounted, hchanged⟩ := measurementSet_countedTo w sums hawake hperiod hfit <;>
  refine ⟨t, hexec, ?_⟩
  · exact ⟨hcounted.frozen, fun i hsome => hcounted.readAt hsome, hchanged⟩
  · exact ⟨fun hstage => (hcounted.outOfFloat hhold hold hstage).1, fun hstage => (hcounted.outOfFloat hhold hold hstage).2⟩
  · exact ⟨fun hstage => (hcounted.inFloat hold hstage).1, fun hstage => (hcounted.inFloat hold hstage).2⟩
  · refine ⟨fun hstage i j hsome hlast => ?_, fun hstage horder => ?_, fun hstage horder => ?_⟩
    · obtain ⟨hsync, hleft⟩ := hcounted.absorbEnds hhold hold hstage hsome hlast
      simp only [← inTailBand_iff, Bool.not_eq_true]
      exact ⟨fun h => hsync h.1 h.2, fun h => hleft h.1 h.2⟩
    · exact ((horder ▸ hcounted).absorbEnds_nil hhold hold hstage).1
    · exact ((horder ▸ hcounted).absorbEnds_nil hhold hold hstage).2

end Sys2Proof.Machine
end

section
/-! SUPPORT. What the operations keep of the charge, the run time and the equalize count (R32, R42, R58, R123,
R138), and of the ranges of the accountant's values (R32, R34, R38 to R40). -/
namespace Sys2Proof.Machine

set_option Elab.async false

/-! ## The accounts -/

/-- What only a few operations move: the charge count with the sync state, the ranges of the accountant's
values, the run time, and the days of the equalize. -/
inductive Account where
  | count | range | run | days
deriving DecidableEq

def Account.all : List Account := [.count, .range, .run, .days]

theorem Account.mem_all (a : Account) : a ∈ Account.all := by cases a <;> decide

/-- `t` keeps an account of `s`. -/
def Account.Kept (s t : State) : Account → Prop
  | .count => t.sac.q = s.sac.q ∧ t.sac.r = s.sac.r ∧ t.sac.synced = s.sac.synced
  | .range => s.ChargeInRange → t.ChargeInRange
  | .run => t.rot.runMinutes = s.rot.runMinutes ∧ t.rot.runSeconds = s.rot.runSeconds
  | .days => t.csc.dayClock = s.csc.dayClock ∧ t.csc.eqDays = s.csc.eqDays

/-- The parts of the state that an account stands in. -/
def Account.parts : Account → List Part
  | .count => [.sac]
  | .range => [.settings, .sac]
  | .run => [.rot]
  | .days => [.csc]

/-- `t` keeps every account of `s` but those listed. -/
def State.BooksBut (s : State) (l : List Account) (t : State) : Prop := ∀ a, a ∉ l → a.Kept s t

variable {s t u : State} {l m : List Account} {parts : List Part}

theorem Account.Kept.trans {a : Account} (h : a.Kept s t) (g : a.Kept t u) : a.Kept s u := by
  cases a with
  | range => exact fun hs => g (h hs)
  | count => exact ⟨g.1.trans h.1, g.2.1.trans h.2.1, g.2.2.trans h.2.2⟩
  | run | days => exact ⟨g.1.trans h.1, g.2.trans h.2⟩

theorem State.ChargeInRange.congr (h : s.ChargeInRange) (hsac : t.sac = s.sac) (hset : t.settings = s.settings) :
    t.ChargeInRange := by unfold State.ChargeInRange at *; rwa [hsac, hset]

theorem Account.Kept.of_parts {a : Account} (h : ∀ p ∈ a.parts, s.AgreeOn t p) : a.Kept s t := by
  cases a <;> simp only [Account.parts, List.forall_mem_cons, State.AgreeOn] at h
  case range =>
    obtain ⟨hset, hsac, -⟩ := h
    exact fun hs => hs.congr hsac.symm hset.symm
  all_goals simp [Account.Kept, h.1]

theorem State.BooksBut.refl (s : State) (l : List Account) : s.BooksBut l s := fun _ _ => .of_parts fun p _ => .rfl p

theorem State.BooksBut.trans (h : s.BooksBut l t) (g : t.BooksBut l u) : s.BooksBut l u :=
  fun a ha => (h a ha).trans (g a ha)

theorem State.BooksBut.mono (h : s.BooksBut l t) (hl : l.all (fun a => decide (a ∈ m)) = true) : s.BooksBut m t :=
  fun a ha => h a fun hm => ha (by simpa using List.all_eq_true.mp hl a hm)

theorem State.BooksBut.ite {c : Prop} [Decidable c] (h : s.BooksBut l t) (g : s.BooksBut l u) :
    s.BooksBut l (if c then t else u) := by split <;> assumption

/-- An operation that keeps everything but an account, and then that account too. -/
theorem State.BooksBut.and {a : Account} (h : s.BooksBut (a :: l) t) (ha : a.Kept s t) : s.BooksBut l t := fun b hb => by
  by_cases hab : b = a
  · exact hab ▸ ha
  · exact h b (by simp [hab, hb])

/-- What changes of CSC but leaves the days, or of ROT but leaves the run time, keeps every account. -/
theorem State.BooksBut.of_days (h : s.BooksBut [.days] t) (hclock : t.csc.dayClock = s.csc.dayClock)
    (hdays : t.csc.eqDays = s.csc.eqDays) : s.BooksBut l t := (h.and ⟨hclock, hdays⟩).mono rfl

theorem State.BooksBut.of_run (h : s.BooksBut [.run] t) (hminutes : t.rot.runMinutes = s.rot.runMinutes)
    (hseconds : t.rot.runSeconds = s.rot.runSeconds) : s.BooksBut l t := (h.and ⟨hminutes, hseconds⟩).mono rfl

/-- What stays of the parts keeps every account that stands in those parts alone. -/
theorem State.ChangedOnly.booksBut (h : s.ChangedOnly parts t)
    (hl : Account.all.all (fun a => decide (a ∈ l) || a.parts.all fun p => decide (p ∉ parts)) = true := by decide) :
    s.BooksBut l t := fun a ha => .of_parts fun p hp => h p (by
  have hparts := List.all_eq_true.mp hl a a.mem_all
  simp only [ha, decide_false, Bool.false_or, List.all_eq_true, decide_eq_true_eq] at hparts
  exact hparts p hp)

/-- An operation that changes no part in which an account stands. -/
theorem State.ChangedOnly.books (h : s.ChangedOnly parts t)
    (hl : Account.all.all (fun a => a.parts.all fun p => decide (p ∉ parts)) = true := by decide) : s.BooksBut l t :=
  h.booksBut (List.all_eq_true.mpr fun a ha => by rw [List.all_eq_true.mp hl a ha, Bool.or_true])

theorem fan_books (order : List Taker) {takers : List Taker} {f : Taker → State → State}
    (h : ∀ x ∈ takers, ∀ s : State, s.BooksBut l (f x s)) (s : State) : s.BooksBut l (fan order takers f s) :=
  fan_induction order (P := State.BooksBut s l) (fun x hx t ht => ht.trans (h x hx t)) s (.refl s l)

/-! ## One part changed -/

/-- A change of CSC's that leaves the days. -/
theorem onCsc_books (f : Csc → Csc) (s : State) (hclock : (f s.csc).dayClock = s.csc.dayClock)
    (hdays : (f s.csc).eqDays = s.csc.eqDays) : s.BooksBut l (s.onCsc f) :=
  have hbut : s.BooksBut [.days] (s.onCsc f) := (onCsc_changedOnly f s).booksBut
  hbut.of_days hclock hdays

/-- A change of ROT's that leaves the run time. -/
theorem onRot_books (f : Rot → Rot) (s : State) (hminutes : (f s.rot).runMinutes = s.rot.runMinutes)
    (hseconds : (f s.rot).runSeconds = s.rot.runSeconds) : s.BooksBut l (s.onRot f) :=
  have hbut : s.BooksBut [.run] (s.onRot f) := (onRot_changedOnly f s).booksBut
  hbut.of_run hminutes hseconds

/-! ## The accountant (R32 to R42) -/

/-- The ranges of the accountant's values, by its settings (R32, R34, R38 to R40). -/
def Sac.InRange (a : SacSettings) (x : Sac) : Prop :=
  x.q ≤ cRated a ∧ x.cEff ≤ cRated a ∧ x.r ≤ 255 ∧ x.soc ≤ 1000 ∧ x.lineDeficit ≤ a.capacityAh * 10

theorem State.chargeInRange_iff : s.ChargeInRange ↔ s.sac.InRange s.settings.sac := Iff.rfl

/-- SoC is at most 1,000, and a deficit of at most the rated capacity is one in dAh (R39, R40). -/
theorem sacDerive_inRange {a : SacSettings} {x : Sac} (hq : x.q ≤ cRated a) (hc : x.cEff ≤ cRated a) (hr : x.r ≤ 255) :
    (sacDerive x).InRange a := by
  refine ⟨hq, hc, hr, min_le_left _ _, ?_⟩
  change lineDeficit (x.cEff - x.q) ≤ _
  rw [lineDeficit_eq]
  unfold cRated at hc
  omega

theorem sacResync_inRange {a : SacSettings} {x : Sac} (hc : x.cEff ≤ cRated a) : (sacResync x).InRange a :=
  sacDerive_inRange hc hc (Nat.zero_le _)

theorem sacCapacity_cEff (a : SacSettings) (temp : Int) (x : Sac) : (sacCapacity a temp x).cEff ≤ cRated a :=
  min_le_left _ _

theorem countCharge_inRange (a : SacSettings) (p : Nat) (i : Int) {q r : Nat} (hq : q ≤ cRated a) (hr : r ≤ 255) :
    (countCharge a p i q r).1 ≤ cRated a ∧ (countCharge a p i q r).2 ≤ 255 := by
  unfold countCharge
  split
  · exact ⟨min_le_left _ _, Nat.le_of_lt_succ (Nat.mod_lt _ (by decide))⟩
  · split
    · exact ⟨min_le_left _ _, hr⟩
    · exact ⟨hq, hr⟩

theorem Sac.counted_inRange {a : SacSettings} {x : Sac} (hq : x.q ≤ cRated a) (hr : x.r ≤ 255) (p : Nat) (i temp : Int) :
    (x.counted a p i temp).q ≤ cRated a ∧ (x.counted a p i temp).cEff ≤ cRated a ∧ (x.counted a p i temp).r ≤ 255 := by
  obtain ⟨hcq, hcr⟩ := countCharge_inRange a p i hq hr
  exact ⟨hcq, sacCapacity_cEff a temp _, hcr⟩

theorem sacTakeSet_inRange {a : SacSettings} {x : Sac} (h : x.InRange a) (tail p : Nat) (i : Option Int) (temp : Int)
    (floating : Bool) : (sacTakeSet a tail p i temp floating x).InRange a := by
  obtain ⟨hq, -, hr, -⟩ := id h
  cases i with
  | none => exact h
  | some i =>
    obtain ⟨hcq, hcc, hcr⟩ := Sac.counted_inRange hq hr p i temp
    rw [sacTakeSet_some]
    split
    · exact sacResync_inRange hcc
    · exact sacDerive_inRange hcq hcc hcr

theorem sacAtLoad_inRange (a : SacSettings) {x : Sac} (hr : x.r ≤ 255) : (sacAtLoad a x).InRange a := by
  unfold sacAtLoad
  obtain ⟨hq, hr', -⟩ := sacCapacity_count a 250 { x with q := min (cRated a) x.q, frozen := false, resyncDwell := 0 }
  refine sacDerive_inRange ?_ (sacCapacity_cEff a 250 _) ?_
  · rw [hq]; exact min_le_left _ _
  · rw [hr']; exact hr

/-- A change of SAC's own that moves the count within its range. -/
theorem onSac_books {f : Sac → Sac} (h : s.sac.InRange s.settings.sac → (f s.sac).InRange s.settings.sac) :
    s.BooksBut [.count] (s.onSac f) :=
  State.BooksBut.and (a := .range) ((onSac_changedOnly f s).booksBut) h

theorem sacOnSet_books (order : List Taker) (p : Nat) (s : State) : s.BooksBut [.count] (sacOnSet order p s) :=
  (onSac_books fun h => sacTakeSet_inRange h _ _ _ _ _).trans (takeCondition_changedOnly _ _ _).books

theorem sacFullResync_books (order : List Taker) (s : State) : s.BooksBut [.count] (sacFullResync order s) :=
  (onSac_books fun h => sacResync_inRange h.2.1).trans (takeCondition_changedOnly _ _ _).books

theorem sacOnAbsorbEnd_books (order : List Taker) (s : State) : s.BooksBut [.count] (sacOnAbsorbEnd order s) := by
  unfold sacOnAbsorbEnd
  split
  · exact .ite (sacFullResync_books order s) (.refl s _)
  · exact .refl s _

/-! ## The charge stages (R52 to R68) -/

/-- What CSC hands on moves the count at the end of ABSORB alone. -/
theorem cscHand_books (order : List Taker) {old : Csc} (hstays : old.stage = .absorb → s.csc.stage ≠ .float)
    (manual : Option Direction) : s.BooksBut l (cscHand order old manual s) := by
  rw [cscHand_eq]
  refine fan_books order (fun x _ u => ?_) s
  by_cases hx : x = .sac
  · subst hx
    have hskip : cscTakes order old s.csc manual .sac u = u := if_neg fun h => hstays h.1 h.2
    rw [hskip]
    exact .refl u _
  · exact (cscTakes_changedOnly_of_ne order old s.csc manual hx u).books

theorem cscHand_booksBut (order : List Taker) (old : Csc) (manual : Option Direction) (s : State) :
    s.BooksBut [.count] (cscHand order old manual s) := by
  rw [cscHand_eq]
  refine fan_books order (fun x _ u => ?_) s
  by_cases hx : x = .sac
  · subst hx
    exact .ite (sacOnAbsorbEnd_books order u) (.refl u _)
  · exact (cscTakes_changedOnly_of_ne order old s.csc manual hx u).books

theorem cscOnSet_books (order : List Taker) (p : Nat) (s : State) : s.BooksBut [.count, .days] (cscOnSet order p s) :=
  (onCsc_changedOnly _ s).booksBut.trans ((cscHand_booksBut order _ _ _).mono rfl)

/-- A stage event that does not end ABSORB in FLOAT, and leaves the days. -/
theorem stageEvent_books (order : List Taker) {new : Csc} (manual : Option Direction)
    (hclock : new.dayClock = s.csc.dayClock) (hdays : new.eqDays = s.csc.eqDays)
    (hstays : s.csc.stage = .absorb → new.stage ≠ .float) : s.BooksBut l (stageEvent order new manual s) :=
  .ite (onCsc_books _ s hclock hdays) ((onCsc_books _ s hclock hdays).trans (cscHand_books order hstays manual))

/-- A stage entered, or not, leaves the days. -/
theorem enterStage_days (stage : Stage) (c : Csc) :
    (enterStage stage c).dayClock = c.dayClock ∧ (enterStage stage c).eqDays = c.eqDays := ⟨rfl, rfl⟩

theorem stageOnView_absorb (view : SourceView) : stageOnView view .absorb ≠ .float := by
  unfold stageOnView; dsimp only; split <;> decide

/-- A stage entered, unless CSC is in it already. -/
theorem enterUnlessIn (stage : Stage) (c : Csc) :
    (if stage = c.stage then c else enterStage stage c).stage = stage ∧
      (if stage = c.stage then c else enterStage stage c).dayClock = c.dayClock ∧
      (if stage = c.stage then c else enterStage stage c).eqDays = c.eqDays := by
  split
  · next hin => exact ⟨hin.symm, rfl, rfl⟩
  · exact ⟨rfl, rfl, rfl⟩

theorem cscOnView_books (order : List Taker) (old : SourceView) (s : State) : s.BooksBut l (cscOnView order old s) := by
  refine .ite ?_ (.refl s _)
  have hc : ∃ c, (if s.ptb.view = .noSource then { s.csc with reconnectDwell := 0 } else s.csc) = c ∧
      c.stage = s.csc.stage ∧ c.dayClock = s.csc.dayClock ∧ c.eqDays = s.csc.eqDays := by
    split <;> exact ⟨_, rfl, rfl, rfl, rfl⟩
  obtain ⟨c, hc, hstage, hclock, hdays⟩ := hc
  dsimp only
  rw [hc]
  obtain ⟨hin, hinClock, hinDays⟩ :=
    enterUnlessIn (if c.stage = .discharge ∧ old ≠ .noSource then c.stage else stageOnView s.ptb.view c.stage) c
  refine stageEvent_books order none (hinClock.trans hclock) (hinDays.trans hdays) fun habsorb => ?_
  rw [hin, hstage, habsorb]
  exact stageOnView_absorb s.ptb.view

/-- The command record is no part of the days. -/
theorem Csc.answered_days (c : Csc) (p : Direction) :
    (c.answered p).dayClock = c.dayClock ∧ (c.answered p).eqDays = c.eqDays := by
  unfold Csc.answered; split <;> exact ⟨rfl, rfl⟩

/-- CTR_FB ends no ABSORB in FLOAT: from ABSORB an open contactor gives ISOLATED, and a closed one nothing (R67). -/
theorem cscOnCtrFb_books (order : List Taker) (p : Direction) (s : State) : s.BooksBut l (cscOnCtrFb order p s) := by
  unfold cscOnCtrFb
  dsimp only
  rw [show (if s.csc.record = some p then { s.csc with record := none } else s.csc) = s.csc.answered p from rfl]
  have hstage := s.csc.answered_stage p
  obtain ⟨hclock, hdays⟩ := s.csc.answered_days p
  have hevent : ∀ {new : Csc} {manual : Option Direction}, s.csc.stage ≠ .absorb → new.dayClock = s.csc.dayClock →
      new.eqDays = s.csc.eqDays → s.BooksBut l (stageEvent order new manual s) := fun hne hclock hdays =>
    stageEvent_books order _ hclock hdays fun habsorb => absurd habsorb hne
  split
  · next habsent =>
    have hne : s.csc.stage ≠ .absorb := by rw [← hstage, habsent]; decide
    exact .ite (hevent hne hclock hdays) (hevent hne hclock hdays)
  · next habsent =>
    have hne : s.csc.stage ≠ .absorb := by rw [← hstage, habsent]; decide
    exact .ite (hevent hne hclock hdays) (hevent hne hclock hdays)
  · exact onCsc_books _ s hclock hdays
  · next hisolated => exact hevent (by rw [← hstage, hisolated]; decide) hclock hdays
  · exact stageEvent_books order _ hclock hdays fun _ => nofun
  · exact onCsc_books _ s hclock hdays

theorem cscOnOperating_books (order : List Taker) (s : State) : s.BooksBut l (cscOnOperating order s) := by
  have hdue : s.BooksBut l (s.onCsc fun c =>
      { c with eqDue := c.eqDue || decide (s.settings.csc.eqIntervalDays ≤ c.eqDays) }) := onCsc_books _ s rfl rfl
  unfold cscOnOperating
  dsimp only
  split
  · next hdischarge =>
    exact hdue.trans ((onCsc_books _ _ rfl rfl).trans
      (cscHand_books order (fun habsorb => by rw [hdischarge] at habsorb; cases habsorb) none))
  · exact hdue

theorem cscEqualizeStop_books (order : List Taker) (s : State) : s.BooksBut l (cscEqualizeStop order s) := by
  refine stageEvent_books order none ?_ ?_ fun habsorb => ?_
  · split <;> rfl
  · split <;> rfl
  · simp [habsorb]

end Sys2Proof.Machine
end

section
/-! SUPPORT. What the contactor, the rectifier, the peer table, the phases, the lines and the site port keep of the accounts:
all but a set, RESYNC_FULL and the rotation tick keep every one. -/
namespace Sys2Proof.Machine

set_option Elab.async false

variable {s t u : State} {l : List Account} {parts : List Part}

/-! ## The contactor (R26 to R29) -/

theorem endOperation_books (order : List Taker) (op : ContactorOp) (failed : Bool) (s : State) :
    s.BooksBut l (endOperation order op failed s) := by
  have hbut : s.BooksBut [.days] (endOperation order op failed s) := (endOperation_changedOnly order op failed s).booksBut
  refine hbut.of_days ?_ ?_ <;> rw [endOperation_csc] <;> split <;> rfl

theorem sdoOnCtrFb_books (order : List Taker) (s : State) : s.BooksBut l (sdoOnCtrFb order s) := by
  have hbut : s.BooksBut [.days] (sdoOnCtrFb order s) := (sdoOnCtrFb_changedOnly order s).booksBut
  exact hbut.of_days (by rw [sdoOnCtrFb_csc]) (by rw [sdoOnCtrFb_csc])

theorem sdoOnWindow_books (order : List Taker) (op : ContactorOp) (s : State) : s.BooksBut l (sdoOnWindow order op s) :=
  .ite (beginAttempt_changedOnly _ _ s).books (endOperation_books order op true s)

theorem handCtrFb_books (order : List Taker) (s : State) : s.BooksBut l (handCtrFb order s) := by
  refine fan_books order ?_ s
  simp only [List.forall_mem_cons]
  refine ⟨sdoOnCtrFb_books order, fun s => ?_, fun s => (requestStatus_changedOnly s).books, List.forall_mem_nil _⟩
  split
  · exact cscOnCtrFb_books order _ s
  · exact .refl s _

/-! ## The rectifier (R122 to R138) -/

theorem enterRect_books (order : List Taker) (x : RectState) (s : State) : s.BooksBut l (enterRect order x s) := by
  have hbut : s.BooksBut [.run] (enterRect order x s) := (enterRect_changedOnly order x s).booksBut
  exact hbut.of_run (by rw [enterRect_rot]; rfl) (by rw [enterRect_rot]; rfl)

theorem beginRest_books (order : List Taker) (s : State) : s.BooksBut l (beginRest order s) :=
  ((enterRect_books order _ s).trans (enqueue_changedOnly _ _ _).books).trans (onRot_books _ _ rfl rfl)

theorem beginWake_books (order : List Taker) (r : WakeReason) (s : State) : s.BooksBut l (beginWake order r s) :=
  (State.BooksBut.trans (enqueue_changedOnly _ _ s).books (enterRect_books order _ _)).trans (onRot_books _ _ rfl rfl)

theorem rotCheck_books (order : List Taker) (s : State) : s.BooksBut l (rotCheck order s) := by
  have hrot : ∀ f g : Rot → Rot, (g (f s.rot)).runMinutes = s.rot.runMinutes →
      (g (f s.rot)).runSeconds = s.rot.runSeconds → s.BooksBut l ((s.onRot f).onRot g) := fun f g hminutes hseconds =>
    onRot_books (fun r => g (f r)) s hminutes hseconds
  unfold rotCheck
  dsimp only
  split
  · split
    · exact .ite ((hrot _ _ rfl rfl).trans (beginRest_books order _)) (hrot _ _ rfl rfl)
    · exact .ite ((hrot _ _ rfl rfl).trans (beginWake_books order _ _))
        (.ite ((hrot _ _ rfl rfl).trans (beginWake_books order _ _)) (hrot _ _ rfl rfl))
    · exact hrot _ _ rfl rfl
  · exact hrot _ _ rfl rfl

/-- The tick counts the run time, and nothing else that it does moves an account. -/
theorem rotTick_books (order : List Taker) (s : State) : s.BooksBut [.run] (rotTick order s) :=
  State.BooksBut.trans (onRot_changedOnly rectCount s).booksBut (.ite (rotCheck_books order _) (.refl _ _))

theorem rotRamp_books (order : List Taker) (n : Nat) (s : State) : s.BooksBut l (rotRamp order n s) :=
  .ite ((onRot_books _ s rfl rfl).trans (writeTarget_changedOnly _ _ _).books)
    (State.BooksBut.trans (writeTarget_changedOnly _ _ s).books (enterRect_books order _ _))

theorem rotOnView_books (order : List Taker) (s : State) : s.BooksBut l (rotOnView order s) := by
  unfold rotOnView
  split
  · exact .refl s _
  · split
    · exact enterRect_books order _ s
    · exact enterRect_books order _ s
    · exact enterRect_books order _ s
    · exact .refl s _

theorem rotOnAcok_books (order : List Taker) (s : State) : s.BooksBut l (rotOnAcok order s) := by
  unfold rotOnAcok
  split
  · exact .ite (enterRect_books order _ s) (.refl s _)
  · split
    · exact .refl s _
    · exact .refl s _
    · exact enterRect_books order _ s

theorem rotOnFail_books (order : List Taker) (s : State) : s.BooksBut l (rotOnFail order s) := by
  unfold rotOnFail
  split
  · exact .ite (onRot_books _ s rfl rfl) (enterRect_books order _ s)
  · exact .ite (onRot_books _ s rfl rfl) (.refl s _)

theorem rotOnRest_books (order : List Taker) (n hours : Nat) (s : State) : s.BooksBut l (rotOnRest order n hours s) :=
  .ite (enterRect_books order _ s) (.refl s _)

theorem rotOnSent_books (k : IntentKind) (s : State) : s.BooksBut l (rotOnSent k s) := by
  refine onRot_books _ s ?_ ?_
  all_goals
    split
    · split <;> rfl
    · rfl

theorem rotOnDormant_books (order : List Taker) (s : State) : s.BooksBut l (rotOnDormant order s) := by
  have hbut : s.BooksBut [.run] (rotOnDormant order s) := (rotOnDormant_changedOnly order s).booksBut
  exact hbut.of_run (by rw [rotOnDormant_rot]; rfl) (by rw [rotOnDormant_rot]; rfl)

theorem rotForceRun_books (order : List Taker) (h : rotForceRun order s = .inr t) : s.BooksBut l t := by
  unfold rotForceRun at h
  split at h
  · cases h
  · split at h <;> cases h
    · exact .refl s _
    · exact enterRect_books order _ s

theorem rotForceRest_books (order : List Taker) (h : rotForceRest order s = .inr t) : s.BooksBut l t := by
  unfold rotForceRest at h
  split at h
  · cases h
  · split at h
    · cases h
    · split at h
      · cases h
      · split at h <;> cases h
        · exact .refl s _
        · exact enterRect_books order _ s

theorem rotRelease_books (order : List Taker) (h : rotRelease order s = .inr t) : s.BooksBut l t := by
  unfold rotRelease at h
  split at h <;> cases h
  · exact enterRect_books order _ s
  · exact enterRect_books order _ s

/-! ## The source view and the peer table -/

theorem recomputeViews_books (order : List Taker) (s : State) : s.BooksBut l (recomputeViews order s) := by
  refine .ite (State.BooksBut.trans (onPtb_changedOnly _ s).books (fan_books order ?_ _)) (.refl s _)
  simp only [List.forall_mem_cons]
  exact ⟨fun s => .ite (cscOnView_books order _ s) (.refl s _), fun s => .ite (cbuOnEvent_changedOnly s).books (.refl s _),
    fun s => .ite (rotOnView_books order s) (.refl s _), fun s => .ite (gcoOnView_changedOnly _ s).books (.refl s _),
    fun s => .ite (requestStatus_changedOnly s).books (.refl s _), fun s => .ite (supOnView_changedOnly _ s).books (.refl s _),
    fun s => (takeCondition_changedOnly _ _ s).books, fun s => .ite (gcoOnKnowledge_changedOnly _ s).books (.refl s _),
    List.forall_mem_nil _⟩

theorem peerHand_books (order : List Taker) (logs : List (Nat × Nat)) (subs views : Bool) {also : Taker → State → State}
    (h : ∀ (x : Taker) (s : State), s.BooksBut l (also x s)) (s : State) :
    s.BooksBut l (peerHand order logs subs views also s) := by
  refine fan_books order ?_ s
  simp only [List.forall_mem_cons]
  exact ⟨fun s => (foldl_changedOnly (fun s (e : Nat × Nat) => logEntry_changedOnly .peer e.1 e.2 s) logs s).books,
    fun s => State.BooksBut.trans (takeConditions_changedOnly _ _ s).books
      (.ite (aluRecompute_changedOnly _ _).books (.refl _ _)),
    fun s => .ite (recomputeViews_books order s) (.refl s _), h .pli, h .gco, h .rot, List.forall_mem_nil _⟩

/-- A change of the table, and then what it brings about. -/
theorem onPtb_then_peerHand_books (order : List Taker) (logs : List (Nat × Nat)) (subs views : Bool) (f : Ptb → Ptb)
    {also : Taker → State → State} (h : ∀ (x : Taker) (s : State), s.BooksBut l (also x s)) (s : State) :
    s.BooksBut l (peerHand order logs subs views also (s.onPtb f)) :=
  State.BooksBut.trans (onPtb_changedOnly f s).books (peerHand_books order logs subs views h _)

theorem takeNote_books (order : List Taker) (station seq : Nat) (n : NoteContent) (hgco : ∀ s : State, s.BooksBut l (n.gco s))
    (hrot : ∀ s : State, s.BooksBut l (n.rot s)) (s : State) : s.BooksBut l (takeNote order station seq n s) := by
  refine .ite (.refl s _) (onPtb_then_peerHand_books order _ _ _ _ (fun x s => ?_) s)
  split
  · exact .ite (State.BooksBut.trans (requestStatus_changedOnly s).books (enqueuePoint_changedOnly _).books) (.refl s _)
  · exact hgco s
  · exact hrot s
  · exact .refl s _

theorem ageRecords_books (order : List Taker) (s : State) : s.BooksBut l (ageRecords order s) :=
  onPtb_then_peerHand_books order _ _ _ _ (fun _ s => .refl s _) s

theorem forgetRecord_books (order : List Taker) (p : PeerRecord) (s : State) : s.BooksBut l (forgetRecord order p s) :=
  onPtb_then_peerHand_books order _ _ _ _ (fun _ s => .refl s _) s

theorem clearPeers_books (order : List Taker) (s : State) : s.BooksBut l (clearPeers order s) :=
  onPtb_then_peerHand_books order _ _ _ _ (fun _ s => .refl s _) s

/-! ## The phases (R178 to R182) -/

theorem listenEntry_books (order : List Taker) (wake : Bool) (s : State) : s.BooksBut l (listenEntry order wake s) := by
  refine State.BooksBut.trans (onSup_changedOnly _ s).books (fan_books order ?_ _)
  simp only [List.forall_mem_cons]
  exact ⟨fun s => (onMch_changedOnly _ s).books, fun s => (onPli_changedOnly _ s).books,
    fun s => .ite (clearPeers_books order s) (.refl s _), fun s => .ite (.refl s _) (rectDrive_changedOnly s).books,
    fun s => (aluOnListen_changedOnly _ s).books, List.forall_mem_nil _⟩

theorem enterOperating_books (order : List Taker) (s : State) : s.BooksBut l (enterOperating order s) := by
  have hwake : s.BooksBut l (if s.sup.startCause = .wakeTimer then logWake s else s) :=
    .ite (logWake_changedOnly s).books (.refl s _)
  have hnotes : ∀ t : State, t.BooksBut l (enqueuePoint (enqueueStatus (enqueueHello t))) := fun t =>
    (State.BooksBut.trans (enqueue_changedOnly _ _ t).books (enqueueStatus_changedOnly _).books).trans
      (enqueuePoint_changedOnly _).books
  refine ((hwake.trans (onSup_changedOnly _ _).books).trans
    (State.BooksBut.trans (grantTransmission_changedOnly _).books (hnotes _))).trans (fan_books order ?_ _)
  simp only [List.forall_mem_cons]
  exact ⟨fun s => (onSdo_changedOnly _ s).books, cscOnOperating_books order, fun s => (cbuOnOperating_changedOnly s).books,
    fun s => (gcoOnOperating_changedOnly s).books, fun s => (recomputeRelays_changedOnly s).books,
    fun s => State.BooksBut.trans (updateLeanDwell_changedOnly s).books (updateDormantDwell_changedOnly _).books,
    List.forall_mem_nil _⟩

theorem leaveCheck_books (order : List Taker) (s : State) : s.BooksBut l (leaveCheck order s) :=
  .ite (enterOperating_books order s) (.refl s _)

/-- SAC drops its resync dwell in DORMANT, and keeps the count. -/
theorem onSac_resyncDwell_books (n : Nat) (s : State) : s.BooksBut l (s.onSac fun x => { x with resyncDwell := n }) :=
  (State.BooksBut.and (l := []) (a := .count) (onSac_books fun h => h) ⟨rfl, rfl, rfl⟩).mono rfl

theorem dormantEntry_books (order : List Taker) (s : State) : s.BooksBut l (dormantEntry order s) := by
  refine State.BooksBut.trans (onSdo_changedOnly _ s).books (fan_books order ?_ _)
  simp only [List.forall_mem_cons]
  exact ⟨fun s => State.BooksBut.trans (onMch_changedOnly _ s).books (takeConditions_changedOnly _ _ _).books,
    onSac_resyncDwell_books 0, fun s => onCsc_books _ s rfl rfl,
    fun s => State.BooksBut.trans (onPli_changedOnly _ s).books (takeCondition_changedOnly _ _ _).books,
    fun s => (onCbu_changedOnly _ s).books, rotOnDormant_books order, fun s => (gcoOnDormant_changedOnly _ s).books,
    fun s => (onAlu_changedOnly _ s).books, List.forall_mem_nil _⟩

theorem fallAsleep_books (order : List Taker) (s : State) : s.BooksBut l (fallAsleep order s) :=
  ((State.BooksBut.trans (onSup_changedOnly _ s).books (recomputeRelays_changedOnly _).books).trans
    (dormantEntry_books order _)).trans (triggerWrite_changedOnly _).books

theorem stopStation_books (order : List Taker) (s : State) : s.BooksBut l (stopStation order s) :=
  (State.BooksBut.trans (withdrawTransmission_changedOnly s).books (logEntry_changedOnly _ _ _ _).books).trans
    (fallAsleep_books order _)

theorem wakeUp_books (order : List Taker) (cause : StartCause) (s : State) : s.BooksBut l (wakeUp order cause s) := by
  refine .ite (State.BooksBut.trans ?_ (listenEntry_books order true _)) (.refl s _)
  exact .ite (onSup_changedOnly _ s).books (State.BooksBut.trans (onSup_changedOnly _ s).books (logWake_changedOnly _).books)

theorem siteWake_books (order : List Taker) (s : State) : s.BooksBut l (siteWake order s) :=
  .ite (wakeUp_books order _ s) (.refl s _)

/-- A reset that keeps RAM keeps every account (R175). -/
theorem warmReset_books (kind : ResetKind) (s : State) : s.BooksBut l (warmReset kind s) := fun a _ => by
  cases a with
  | range => exact fun h => h
  | count => exact ⟨rfl, rfl, rfl⟩
  | run | days => exact ⟨rfl, rfl⟩

/-! ## The measurement chain, the contacts and the line -/

theorem deliverSet_books (order : List Taker) (p number : Nat) (s : State) :
    s.BooksBut [.count, .days] (deliverSet order p number s) := by
  refine fan_books order ?_ s
  simp only [List.forall_mem_cons]
  exact ⟨fun s => (takeCondition_changedOnly _ _ s).books, fun s => (sacOnSet_books order p s).mono rfl, cscOnSet_books order p,
    fun s => (cbuOnSet_changedOnly _ _ s).books, fun s => (aluOnSet_changedOnly _ s).books, List.forall_mem_nil _⟩

theorem endPeriod_books (order : List Taker) (sums : PerChannel Nat) (s : State) :
    s.BooksBut [.count, .days] (endPeriod order sums s) := by
  unfold endPeriod
  split
  · exact .ite (State.BooksBut.trans (onMch_changedOnly _ s).books (deliverSet_books order _ _ _)) (.refl s _)
  · exact .refl s _

theorem acMove_books (order : List Taker) (f : AcCapture → AcCapture) (s : State) : s.BooksBut l (acMove order f s) := by
  have hmove : s.BooksBut l (s.onMch fun m => { m with ac := f m.ac }) := (onMch_changedOnly _ s).books
  refine .ite hmove (hmove.trans (fan_books order ?_ _))
  simp only [List.forall_mem_cons]
  exact ⟨recomputeViews_books order, fun s => .ite (wakeUp_books order _ s) (.refl s _), List.forall_mem_nil _⟩

theorem handContact_books (order : List Taker) (i : Contact) (s : State) : s.BooksBut l (handContact order i s) := by
  cases i with
  | xferGen | genRunFb => exact recomputeViews_books order s
  | rectAcok =>
    refine fan_books order ?_ s
    simp only [List.forall_mem_cons]
    exact ⟨recomputeViews_books order, rotOnAcok_books order, List.forall_mem_nil _⟩
  | rectFail => exact rotOnFail_books order s
  | ctrFb => exact handCtrFb_books order s
  | in1 | in2 | in3 | in4 | in5 | in6 | in7 | in8 => exact (takeCondition_changedOnly _ _ s).books

theorem qualifyContact_books (order : List Taker) (i : Contact) (s : State) : s.BooksBut l (qualifyContact order i s) := by
  unfold qualifyContact
  dsimp only
  split
  · exact .ite (State.BooksBut.trans (onMch_changedOnly _ s).books (handContact_books order i _)) (.refl s _)
  · exact .refl s _

theorem onPli_then_takeCondition_books (order : List Taker) (id : Nat) (f : Pli → Pli) (s : State) :
    s.BooksBut l (takeCondition order id (s.onPli f)) :=
  State.BooksBut.trans (onPli_changedOnly f s).books (takeCondition_changedOnly _ _ _).books

theorem rateFaultEnd_books (order : List Taker) (s : State) : s.BooksBut l (rateFaultEnd order s) := by
  unfold rateFaultEnd
  split
  · exact .ite (onPli_then_takeCondition_books order _ _ s) (.refl s _)
  · exact .refl s _

theorem faultTimeOut_books (s : State) : s.BooksBut l (faultTimeOut s) := by
  unfold faultTimeOut
  split
  · exact .ite (onPli_changedOnly _ s).books (.refl s _)
  · exact .refl s _

theorem quietCompleted_books (order : List Taker) (r : Nat) (s : State) : s.BooksBut l (quietCompleted order r s) :=
  .ite (stopStation_books order s) (.ite (onSup_changedOnly _ s).books (.refl s _))

theorem completeFrame_books (order : List Taker) (s : State) : s.BooksBut l (completeFrame order s) := by
  unfold completeFrame
  split
  · refine State.BooksBut.trans (onPli_changedOnly completeSlot s).books ?_
    unfold handCompletion
    split
    · exact rotOnSent_books _ _
    · exact rotOnSent_books _ _
    · exact quietCompleted_books order _ _
    · exact .refl _ _
  · exact .refl s _

theorem hearAsleep_books (order : List Taker) (frame : List Byte) (s : State) : s.BooksBut l (hearAsleep order frame s) := by
  have hseen : s.BooksBut l (frameSeen s) := (frameSeen_changedOnly s).books
  exact .ite (.ite (hseen.trans (wakeUp_books order _ _)) hseen) (.refl s _)

/-! ## The received notes -/

/-- What a note's content hands on to GCO and ROT keeps every account. -/
def NoteContent.Bookless (n : NoteContent) : Prop :=
  (∀ s : State, s.BooksBut [] (n.gco s)) ∧ ∀ s : State, s.BooksBut [] (n.rot s)

theorem NoteContent.Bookless.of_idle {n : NoteContent} (hgco : n.gco = id) (hrot : n.rot = id) : n.Bookless := by
  unfold NoteContent.Bookless
  rw [hgco, hrot]
  exact ⟨fun s => .refl s _, fun s => .refl s _⟩

theorem gcoHear_books (order : List Taker) (n : Nat) (b : Bool) (e : Nat) (s : State) : s.BooksBut l (gcoHear order n b e s) :=
  (gcoHear_changedOnly order n b e s).books

theorem statusContent_bookless (order : List Taker) (station : Nat) (payload : List Byte) (s : State) :
    (statusContent order station payload s).Bookless := by
  unfold statusContent
  split
  · exact .of_idle rfl rfl
  · refine ⟨fun s => ?_, fun s => .refl s _⟩
    dsimp only
    split
    · exact gcoHear_books order _ _ _ s
    · exact gcoHear_books order _ _ _ s
    · exact .refl s _

theorem genContent_bookless (order : List Taker) (station event epoch : Nat) :
    (genContent order station event epoch).Bookless :=
  ⟨fun s => .ite (gcoHear_books order _ _ _ s) (.ite (gcoHear_books order _ _ _ s) (.refl s _)), fun s => .refl s _⟩

theorem restContent_bookless (order : List Taker) (station hours : Nat) (flags : Byte) (s : State) :
    (restContent order station hours flags s).Bookless := ⟨fun s => .refl s _, rotOnRest_books order station hours⟩

theorem wakeContent_bookless (hours : Nat) (reason : Byte) (s : State) : (wakeContent hours reason s).Bookless := by
  unfold wakeContent
  split <;> exact .of_idle rfl rfl

theorem hearNote_books (order : List Taker) (station seq length : Nat) {n : State → NoteContent} (hn : ∀ s, (n s).Bookless)
    (s : State) : s.BooksBut [] (hearNote order station seq length n s) := by
  have hseen : s.BooksBut [] (frameSeen s) := (frameSeen_changedOnly s).books
  unfold hearNote
  dsimp only
  refine .ite (discardFrame_changedOnly order s).books (.ite (.refl s _) (.ite (hseen.trans (wakeUp_books order _ _))
    (.ite (hseen.trans (duplicateFound_changedOnly order _).books) ?_)))
  exact (hseen.trans (onSup_changedOnly _ _).books).trans (takeNote_books order station seq _ (hn _).1 (hn _).2 _)

/-! ## The supervisor and the site port -/

theorem checkSupply_books (zone : SupplyZone) (s : State) : s.BooksBut l (checkSupply zone s) := by
  have hsup : ∀ (f : Sup → Sup) (t : State), t.BooksBut l (t.onSup f) := fun f t => (onSup_changedOnly f t).books
  unfold checkSupply
  dsimp only
  split
  · exact (hsup _ s).trans (hsup _ _)
  · exact .ite (((hsup _ s).trans (hsup _ _)).trans (triggerWrite_changedOnly _).books) ((hsup _ s).trans (hsup _ _))

theorem endWrite_books (order : List Taker) (v : Retained) (b : Bool) (s : State) : s.BooksBut l (endWrite order v b s) := by
  have hstored : s.BooksBut l (storeWritten v b s) := .ite (onStore_changedOnly _ s).books
    (State.BooksBut.trans (onStore_changedOnly _ s).books (onSpoiled_changedOnly _ _).books)
  refine ((hstored.trans (onSup_changedOnly _ _).books).trans (fan_books order ?_ _)).trans
    (beginPendingWrite_changedOnly _).books
  simp only [List.forall_mem_cons]
  exact ⟨fun s => .ite (.refl s _) (logEntry_changedOnly _ _ _ s).books, fun s => (takeCondition_changedOnly _ _ s).books,
    List.forall_mem_nil _⟩

theorem validFrame_books (order : List Taker) (s : State) : s.BooksBut l (validFrame order s) :=
  ((State.BooksBut.trans (onSup_changedOnly _ s).books (abandonEntryWait_changedOnly _).books).trans
    (leaveCheck_books order _)).trans (leaveLean_changedOnly order _).books

/-- A request keeps what its owner's answer keeps. -/
theorem siteRequest_books (order : List Taker) (c : SiteCommand) (args : List Byte) {owner : State → Answer}
    (h : ∀ s : State, s.BooksBut l (owner s).after) (s : State) : s.BooksBut l (siteRequest order c args owner s) := by
  refine .ite (siteWake_books order s) (.ite (.refl s _) (State.BooksBut.trans (validFrame_books order s)
    (State.BooksBut.trans (t := (answerRequest c args owner (validFrame order s)).after) ?_
      (respond_changedOnly c _).books)))
  unfold answerRequest
  split
  · exact .refl _ _
  · split
    · split <;> exact .refl _ _
    · exact h _

theorem answerOf_books {r : RefuseReason ⊕ State} (h : ∀ t, r = .inr t → s.BooksBut l t) :
    s.BooksBut l (answerOf s r).after := by
  cases r with
  | inl reason => exact .refl s _
  | inr t => exact h t rfl

theorem rectForce_books (order : List Taker) (arg : Nat) (s : State) : s.BooksBut l (rectForce order arg s).after := by
  unfold rectForce
  split
  · exact answerOf_books fun _ h => rotForceRun_books order h
  · exact answerOf_books fun _ h => rotForceRest_books order h
  · exact answerOf_books fun _ h => rotRelease_books order h
  · exact .refl s _

theorem gcoTest_books (order : List Taker) (n : Nat) (h : gcoTest order n s = .inr t) : s.BooksBut l t := by
  unfold gcoTest at h
  dsimp only at h
  by_cases hn : n = 0
  · rw [if_pos hn] at h
    cases h
    exact .ite (gcoRelease_changedOnly _ s).books (.refl s _)
  · rw [if_neg hn] at h
    iterate 6 (split at h; · cases h)
    split_ifs at h
    · cases h
      exact (onGco_changedOnly _ s).books
    · cases h
      exact (gcoRaiseNow_changedOnly _ _ _ s).books

theorem gcoClear_books (order : List Taker) (h : gcoClear order s = .inr t) : s.BooksBut l t := by
  unfold gcoClear at h
  dsimp only at h
  iterate 3 (split at h; · cases h)
  cases h
  exact State.BooksBut.trans (onGco_changedOnly _ s).books (gcoHand_changedOnly _ _ _ _ _ _).books

theorem equalize_books (order : List Taker) (arg : Nat) (s : State) : s.BooksBut l (equalize order arg s).after := by
  unfold equalize
  split
  · exact onCsc_books _ s rfl rfl
  · exact cscEqualizeStop_books order s
  · exact .refl s _

theorem forgetPeer_books (order : List Taker) (n : Nat) (s : State) : s.BooksBut l (forgetPeer order n s).after := by
  unfold forgetPeer
  split
  · exact .refl s _
  · split
    · exact forgetRecord_books order _ s
    · exact .refl s _

theorem peerRead_books (n : Nat) (s : State) : s.BooksBut l (peerRead n s).after := by
  unfold peerRead
  split
  · exact .refl s _
  · split <;> exact .refl s _

theorem beginRestart_books (s : State) : s.BooksBut l (beginRestart s) :=
  (State.BooksBut.trans (enqueue_changedOnly _ _ s).books (triggerWrite_changedOnly _).books).trans
    (onSup_changedOnly _ _).books

theorem siteUnknown_books (order : List Taker) (code : Byte) (s : State) : s.BooksBut l (siteUnknown order code s) :=
  .ite (siteWake_books order s) (.ite (.refl s _) ((validFrame_books order s).trans (onSup_changedOnly _ _).books))

theorem siteBadFrame_books (order : List Taker) (why : SiteFrameFault) (s : State) :
    s.BooksBut l (siteBadFrame order why s) :=
  .ite (siteWake_books order s) (.ite (.refl s _) (onSup_changedOnly _ s).books)

end Sys2Proof.Machine
end

section
/-! SUPPORT. Which accounts each command moves, and O21 and O6. -/
namespace Sys2Proof.Machine

set_option Elab.async false

variable {s t u : State} {l : List Account}

/-! ## The starts (R47, R175, R176) -/

theorem reset_chargeInRange : State.reset.ChargeInRange := by unfold State.ChargeInRange; decide

/-- A reset that loses RAM gives the count its values at POWER_ON. -/
theorem resetNow_books (kind : ResetKind) (s : State) : s.BooksBut [.count, .run, .days] (resetNow kind s) := by
  unfold resetNow
  refine .ite (warmReset_books kind s) fun a ha => ?_
  have hcold : (coldReset kind s).ChargeInRange := reset_chargeInRange.congr rfl rfl
  cases a with
  | range => exact fun _ => hcold
  | count | run | days => exact absurd (by decide) ha

theorem resetCause_books (kind : ResetKind) (s : State) : s.BooksBut [.count, .run, .days] (resetCause kind s) :=
  .ite (onSup_changedOnly _ s).books (resetNow_books kind s)

/-- A reset by PIN or RESTART keeps RAM, and every account with it. -/
theorem resetNow_books_of_keepsRam {kind : ResetKind} (hram : kind.keepsRam = true) (s : State) :
    s.BooksBut l (resetNow kind s) := by
  unfold resetNow
  rw [if_pos hram]
  exact warmReset_books kind s

theorem resetCause_books_of_keepsRam {kind : ResetKind} (hram : kind.keepsRam = true) (s : State) :
    s.BooksBut l (resetCause kind s) := .ite (onSup_changedOnly _ s).books (resetNow_books_of_keepsRam hram s)

theorem byteAt_le (b : List Byte) (i : Nat) : byteAt b i ≤ 255 := Nat.le_of_lt_succ (b.getD i 0).isLt

/-- The carry is a byte of the retained record, or 0 where that was lost. -/
theorem sacRetained_r (a : SacSettings) (found : Found) (x : Sac) : (sacRetained a (retainedFrom found) x).r ≤ 255 := by
  cases found with
  | inl e => exact Nat.zero_le _
  | inr b => exact byteAt_le b 4

/-- LOAD clamps the count to the capacity it loads (R47). -/
theorem loadBlocks_chargeInRange (found : Nat → Found) (hs : s.ChargeInRange) : (loadBlocks found s).ChargeInRange := by
  obtain ⟨-, -, hr, -⟩ := hs
  rw [State.chargeInRange_iff, loadBlocks_sac, loadBlocks_settings]
  refine sacAtLoad_inRange _ ?_
  split
  · exact hr
  · exact sacRetained_r _ _ _

theorem endLoad_books (order : List Taker) (programmed : List (Nat × Byte)) (silent : List Nat) (s : State) :
    s.BooksBut [.count, .run, .days] (endLoad order programmed silent s) := fun a ha => by
  cases a with
  | range =>
    intro hs
    have hblocks : (loaded programmed silent s).ChargeInRange := loadBlocks_chargeInRange _ (hs.congr rfl rfl)
    obtain ⟨-, hrest⟩ := endLoad_loaded order programmed silent s
    exact hblocks.congr hrest.sac hrest.settings
  | count | run | days => exact absurd (by decide) ha

/-! ## Every command -/

/-- The accounts that a command moves. The ranges are no command's to leave. -/
def Instr.moves : Instr → List Account
  | .measurementSet _ _ => [.count, .days]
  | .resyncFull _ _ => [.count]
  | .rotationTick _ => [.run]
  | .powerOn _ => [.count, .run, .days]
  | .brownOut _ => [.count, .run, .days]
  | .loadEnd _ _ _ => [.count, .run, .days]
  | _ => []

/-- A command keeps what its body keeps: the time before it and a change found in CHECK, which may follow it, keep every
account. -/
theorem command_books {w : Moment} {body : State → State} (h : command w body s = .next t)
    (hb : ∀ s : State, s.BooksBut l (body s)) : s.BooksBut l t := by
  cases h
  exact (State.BooksBut.trans (advance_changedOnly _ s).books (hb _)).trans (leaveCheck_books _ _)

/-- A change of SUP or of PLI alone keeps every account. -/
theorem onSup_books (f : Sup → Sup) (s : State) : s.BooksBut l (s.onSup f) := (onSup_changedOnly f s).books

theorem onPli_books (f : Pli → Pli) (s : State) : s.BooksBut l (s.onPli f) := (onPli_changedOnly f s).books

theorem exec_books {c : Instr} (h : exec c s = .next t) : s.BooksBut (Instr.moves c) t := by
  unfold exec at h
  cases c <;> dsimp only at h
  case powerOn _ => exact command_books h (resetNow_books _)
  case pin _ => exact command_books h (resetCause_books_of_keepsRam rfl)
  case brownOut _ => exact command_books h fun s => .ite (resetCause_books _ s) (.refl s _)
  case restartReset _ => exact command_books h fun s => .ite (resetNow_books_of_keepsRam rfl s) (.refl s _)
  case heldEnd _ _ => exact command_books h fun s => .ite (onSup_books _ s) (.refl s _)
  case loadEnd w programmed silent =>
    exact command_books h fun s => .ite (endLoad_books w.order programmed silent s) (.refl s _)
  case supplyCheck _ zone => exact command_books h (checkSupply_books zone)
  case listenEnd _ =>
    exact command_books h fun s => .ite (.ite (onSup_books _ s) (enterOperating_books _ s)) (.refl s _)
  case checkEnd _ => exact command_books h fun s => .ite (fallAsleep_books _ s) (.refl s _)
  case measurementSet w sums =>
    rw [execMeasurementSet] at h
    split at h
    · exact command_books h (endPeriod_books w.order sums)
    · cases h
  case acEdge _ | edgeTimeout _ => exact command_books h fun s => .ite (acMove_books _ _ s) (.refl s _)
  case contactQualified _ i => exact command_books h (qualifyContact_books _ i)
  case contactSample _ _ => exact command_books h fun s => .ite (onMch_changedOnly _ s).books (.refl s _)
  case pulseEnd _ =>
    refine command_books h fun s => ?_
    split
    · exact .ite (onSdo_changedOnly _ s).books (.refl s _)
    · exact .refl s _
  case confirmationWindowExpiry _ =>
    refine command_books h fun s => ?_
    split
    · exact .ite (sdoOnWindow_books _ _ s) (.refl s _)
    · exact .refl s _
  case frameBegin _ => exact command_books h fun s => (beginFrame_changedOnly s).books
  case frameComplete _ => exact command_books h (completeFrame_books _)
  case contentionLoss _ => exact command_books h fun s => (loseContention_changedOnly s).books
  case driveFault _ => exact command_books h fun s => (failDrive_changedOnly _ s).books
  case lineStuck _ | lineStuckClear _ =>
    exact command_books h fun s => .ite (onPli_then_takeCondition_books _ _ _ s) (.refl s _)
  case lineError _ _ => exact command_books h fun s => (discardFrame_changedOnly _ s).books
  case faultTimeExpiry _ => exact command_books h faultTimeOut_books
  case rateFaultClear _ => exact command_books h (rateFaultEnd_books _)
  case statusNote _ _ _ _ => exact command_books h (hearNote_books _ _ _ _ (statusContent_bookless _ _ _))
  case genNote _ _ _ _ _ => exact command_books h (hearNote_books _ _ _ _ fun _ => genContent_bookless _ _ _ _)
  case restNote _ _ _ _ _ => exact command_books h (hearNote_books _ _ _ _ (restContent_bookless _ _ _ _))
  case wakeNote _ _ _ _ _ => exact command_books h (hearNote_books _ _ _ _ (wakeContent_bookless _ _))
  case pointNote _ _ _ _ | helloNote _ _ _ _ _ | quietNote _ _ _ _ =>
    exact command_books h (hearNote_books _ _ _ _ fun _ => .of_idle rfl rfl)
  case dormantLineFrame _ frame => exact command_books h (hearAsleep_books _ frame)
  case statusPeriodicTimer _ =>
    exact command_books h fun s => .ite (enqueueStatus_changedOnly s).books (.refl s _)
  case statusSpacingEnd _ =>
    exact command_books h fun s => .ite (.ite (enqueueStatus_changedOnly s).books (onPli_books _ s)) (.refl s _)
  case agingCheck _ => exact command_books h fun s => .ite (ageRecords_books _ s) (.refl s _)
  case intentExpiry _ _ => exact command_books h fun s => .ite (expireIntent_changedOnly _ s).books (.refl s _)
  case rotationTick _ => exact command_books h fun s => .ite (rotTick_books _ s) (.refl s _)
  case settleExpiry _ | failClearExpiry _ => exact command_books h fun s => .ite (enterRect_books _ _ s) (.refl s _)
  case rampStep _ =>
    refine command_books h fun s => ?_
    split
    · exact .ite (rotRamp_books _ _ s) (.refl s _)
    · exact .refl s _
  case genCheck _ => exact command_books h fun s => .ite (gcoTick_changedOnly _ s).books (.refl s _)
  case startTimeout _ => exact command_books h fun s => .ite (gcoStartFailure_changedOnly _ s).books (.refl s _)
  case restTimerExpiry _ => exact command_books h fun s => .ite (gcoRestEnd_changedOnly _ s).books (.refl s _)
  case epochSettle _ => exact command_books h fun s => .ite (gcoSettle_changedOnly _ s).books (.refl s _)
  case qualifyExpiry _ _ => exact command_books h fun s => .ite (handPoint_changedOnly _ _ _ s).books (.refl s _)
  case pointTimer _ => exact command_books h fun s => .ite (enqueuePoint_changedOnly s).books (.refl s _)
  case leanDwell _ => exact command_books h fun s => .ite (tryLean_changedOnly _ s).books (.refl s _)
  case siteHoldEnd _ =>
    exact command_books h fun s => .ite
      (((onSup_books _ s).trans (tryLean_changedOnly _ _).books).trans (tryDormant_changedOnly _ _).books) (.refl s _)
  case dormantDwell _ => exact command_books h fun s => .ite (tryDormant_changedOnly _ s).books (.refl s _)
  case entryWaitTimeout _ => exact command_books h fun s => .ite (stopStation_books _ s) (.refl s _)
  case wakeTimer _ => exact command_books h fun s => .ite (wakeUp_books _ _ s) (.refl s _)
  case sitePortWake _ => exact command_books h (siteWake_books _)
  case periodicWriteTimer _ =>
    exact command_books h fun s => .ite ((onSup_books _ s).trans (triggerWrite_changedOnly _).books) (.refl s _)
  case retainedWriteEnd _ _ =>
    refine command_books h fun s => ?_
    split
    · exact endWrite_books _ _ _ s
    · exact .refl s _
  case siteBadFrame _ why => exact command_books h (siteBadFrame_books _ why)
  case unknown _ code _ => exact command_books h (siteUnknown_books _ code)
  case statusRead _ args | pointsRead _ args => exact command_books h (siteRequest_books _ _ args fun s => .refl s _)
  case peerRead _ args => exact command_books h (siteRequest_books _ _ args (peerRead_books _))
  case logRead _ args => exact command_books h (siteRequest_books _ _ args fun s => (aluConsumeLog_changedOnly s).books)
  case ack _ args => exact command_books h (siteRequest_books _ _ args fun s => (aluAck_changedOnly _ s).books)
  case rectForceRun _ args | rectForceRest _ args | release _ args =>
    exact command_books h (siteRequest_books _ _ args (rectForce_books _ _))
  case genTest _ args =>
    exact command_books h (siteRequest_books _ _ args fun s => answerOf_books fun _ => gcoTest_books _ _)
  case lockoutClear _ args =>
    exact command_books h (siteRequest_books _ _ args fun s => answerOf_books fun _ => gcoClear_books _)
  case equalizeStart _ args | equalizeStop _ args =>
    exact command_books h (siteRequest_books _ _ args (equalize_books _ _))
  case resyncFull _ args => exact command_books h (siteRequest_books _ _ args (sacFullResync_books _))
  case forgetPeer _ args => exact command_books h (siteRequest_books _ _ args (forgetPeer_books _ _))
  case restart _ args => exact command_books h (siteRequest_books _ _ args beginRestart_books)
  case lineIdle _ | courtesySatisfied _ => exact command_books h fun s => .ite (onPli_books _ s) (.refl s _)
  case overrun _ | sitePortGap _ => exact command_books h fun s => .ite (onSup_books _ s) (.refl s _)

/-! ## The obligations -/

theorem count_notMem_moves {c : Instr} (hload : c.isLoadEnd = false) (hram : c.canLoseRam = false)
    (hset : c.isSet = false) (hresync : c.isResync = false) : Account.count ∉ Instr.moves c := by
  cases c <;> simp_all [Instr.moves, Instr.isLoadEnd, Instr.canLoseRam, Instr.isSet, Instr.isResync]

theorem run_notMem_moves {c : Instr} (hload : c.isLoadEnd = false) (hram : c.canLoseRam = false)
    (htick : c.isRotationTick = false) : Account.run ∉ Instr.moves c := by
  cases c <;> simp_all [Instr.moves, Instr.isLoadEnd, Instr.canLoseRam, Instr.isRotationTick]

theorem days_notMem_moves {c : Instr} (hload : c.isLoadEnd = false) (hram : c.canLoseRam = false)
    (hset : c.isSet = false) : Account.days ∉ Instr.moves c := by
  cases c <;> simp_all [Instr.moves, Instr.isLoadEnd, Instr.canLoseRam, Instr.isSet]

theorem range_notMem_moves (c : Instr) : Account.range ∉ Instr.moves c := by
  cases c <;> simp [Instr.moves]

/-- Settles O21. -/
theorem retainedQuantitiesMoveOnlyByTheirRules : Obligations.RetainedQuantitiesMoveOnlyByTheirRules :=
  fun _ _ _ h hload hram =>
    ⟨fun hset hresync => exec_books h .count (count_notMem_moves hload hram hset hresync),
      fun htick => exec_books h .run (run_notMem_moves hload hram htick),
      fun hset => exec_books h .days (days_notMem_moves hload hram hset)⟩

/-- Settles O6: the ranges are an account that every command keeps. -/
theorem theChargeStaysInRange : Obligations.TheChargeStaysInRange := fun s t hs h => by
  unfold step at h
  split at h
  · cases h
    exact hs
  · next c rest _ =>
    exact exec_books h .range (range_notMem_moves c) (hs.congr (t := s.onPending fun _ => rest) rfl rfl)

end Sys2Proof.Machine
end

section
/-! SUPPORT. The stage and the contactor's feedback (R64, R65, R67): CTR_FB alone moves the stage into ISOLATED or out of it,
and every command that CSC makes is for the other position. -/
namespace Sys2Proof.Machine

set_option Elab.async false

variable {s t u : State} {c d e : Csc} {parts : List Part}

/-! ## What CTR_FB shows, and what CSC may do without it -/

/-- CSC as CTR_FB shows the contactor at `p`: ISOLATED where it is open, in a stage of a closed one where it is closed, and
with no command for `p` recorded. -/
def Csc.Shows (c : Csc) : Direction → Prop
  | .opening => c.stage = .isolated ∧ c.record ≠ some .opening
  | .closing => c.stage ≠ .isolated ∧ c.stage ≠ .absent ∧ c.record ≠ some .closing

theorem State.stageFollowsContactor_iff :
    s.StageFollowsContactor ↔ ∀ p, s.position = some p → s.csc.Shows p := by
  unfold State.StageFollowsContactor State.position
  constructor
  · rintro ⟨hopen, hclosed, hrecord⟩ p hp
    cases hcontact : s.contact .ctrFb <;> rw [hcontact] at hopen hclosed hrecord hp <;> cases hp
    · exact ⟨hopen rfl, fun h => hrecord _ h rfl⟩
    · exact ⟨(hclosed rfl).1, (hclosed rfl).2, fun h => hrecord _ h rfl⟩
  · intro h
    refine ⟨fun hcontact => ?_, fun hcontact => ?_, fun p hp hshown => ?_⟩
    · rw [hcontact] at h
      exact (h .opening rfl).1
    · rw [hcontact] at h
      exact ⟨(h .closing rfl).1, (h .closing rfl).2.1⟩
    · have hshows := h p hshown
      cases p with
      | opening => exact hshows.2 hp
      | closing => exact hshows.2.2 hp

/-- From one stage to another without a movement of the contactor. -/
def Stage.StaysBy (old new : Stage) : Prop := (new = .isolated ↔ old = .isolated) ∧ (new = .absent ↔ old = .absent)

theorem Stage.StaysBy.trans {x y z : Stage} (h : x.StaysBy y) (g : y.StaysBy z) : x.StaysBy z :=
  ⟨g.1.trans h.1, g.2.trans h.2⟩

/-- What CSC does without CTR_FB: the stage stays ISOLATED, or out of it, and a command newly recorded is CLOSE in ISOLATED
and OPEN out of it (R63, R66). -/
def Csc.Steps (c d : Csc) : Prop :=
  c.stage.StaysBy d.stage ∧
    ∀ p, d.record = some p → c.record = some p ∨ p = if c.stage = .isolated then .closing else .opening

theorem Csc.Steps.of_eq (hstage : d.stage = c.stage) (hrecord : d.record = c.record) : c.Steps d :=
  ⟨by rw [hstage]; exact ⟨Iff.rfl, Iff.rfl⟩, fun _ hp => .inl (hrecord ▸ hp)⟩

theorem Csc.Steps.of_stage (hstage : c.stage.StaysBy d.stage) (hrecord : d.record = c.record) : c.Steps d :=
  ⟨hstage, fun _ hp => .inl (hrecord ▸ hp)⟩

theorem Csc.Steps.enterUnlessIn {x : Stage} (h : c.stage.StaysBy x) : c.Steps (if x = c.stage then c else enterStage x c) := by
  split
  · exact .of_eq rfl rfl
  · exact .of_stage h rfl

theorem Csc.Steps.trans (h : c.Steps d) (g : d.Steps e) : c.Steps e := by
  obtain ⟨hstage, hrecord⟩ := h
  obtain ⟨gstage, grecord⟩ := g
  refine ⟨hstage.trans gstage, fun p hp => ?_⟩
  rcases grecord p hp with hold | hnew
  · exact hrecord p hold
  · right
    simpa only [hstage.1] using hnew

theorem Csc.Shows.step {p : Direction} (h : c.Shows p) (hstep : c.Steps d) : d.Shows p := by
  obtain ⟨⟨hisolated, habsent⟩, hrecord⟩ := hstep
  cases p with
  | opening =>
    obtain ⟨hstage, hnone⟩ := h
    refine ⟨hisolated.mpr hstage, fun hp => ?_⟩
    simpa [hnone, hstage] using hrecord _ hp
  | closing =>
    obtain ⟨hstage, hpresent, hnone⟩ := h
    refine ⟨mt hisolated.mp hstage, mt habsent.mp hpresent, fun hp => ?_⟩
    simpa [hnone, hstage] using hrecord _ hp

/-! ## The steps of CSC -/

theorem Stage.FollowsAtSet.staysBy {old new : Stage} (h : old.FollowsAtSet new) : old.StaysBy new := by
  rcases h with rfl | hmoved
  · exact ⟨Iff.rfl, Iff.rfl⟩
  · simp only [List.mem_cons, Prod.mk.injEq, List.not_mem_nil, or_false] at hmoved
    rcases hmoved with ⟨rfl, rfl⟩ | ⟨rfl, rfl⟩ | ⟨rfl, rfl⟩ | ⟨rfl, rfl⟩ | ⟨rfl, rfl⟩ <;> simp [Stage.StaysBy]

theorem stageOnView_staysBy (view : SourceView) (x : Stage) : x.StaysBy (stageOnView view x) := by
  unfold Stage.StaysBy
  cases x <;> cases view <;> simp [stageOnView]

theorem decidedStage_present (s : State) : s.decidedStage ≠ .isolated ∧ s.decidedStage ≠ .absent := by
  unfold State.decidedStage
  split
  · decide
  · split <;> decide

theorem State.entryStage_staysBy (s : State) : s.csc.stage.StaysBy s.entryStage := by
  obtain ⟨hisolated, habsent⟩ := decidedStage_present s
  unfold State.entryStage Stage.StaysBy
  split
  · next h => simp [h, hisolated, habsent]
  · exact ⟨Iff.rfl, Iff.rfl⟩

section
variable (b : CscSettings) (j : CscInput) (n : Nat) (v : Int) (c : Csc)

/-- Before its contactor's thresholds are judged, a set moves neither the stage nor the record. -/
def cscBefore : Csc := cscTimer j.p (cscWarn b j (cscImbalance b j (cscHot b j.t c)))

/-- HOT, the command recorded and the contactor's two dwells, which each step of a set but its own leaves. -/
def Csc.judged (c : Csc) : Bool × Option Direction × Nat × Nat := (c.hot, c.record, c.lvdDwell, c.reconnectDwell)

/-- HOT with its hysteresis of 5.0 degrees (R54). -/
theorem cscHot_judged : (cscHot b v c).judged =
    (if c.hot then decide ((b.hotDC : Int) - 50 < v) else decide ((b.hotDC : Int) ≤ v), c.record, c.lvdDwell,
      c.reconnectDwell) := by
  unfold cscHot
  split
  · simp only [Csc.judged, ← decide_not, not_le]
  · rfl

theorem cscImbalance_judged : (cscImbalance b j c).judged = c.judged := by unfold cscImbalance; split <;> rfl

theorem cscTimer_judged : (cscTimer n c).judged = c.judged := by unfold cscTimer; split <;> rfl

theorem cscDay_judged : (cscDay b n c).judged = c.judged := by unfold cscDay; split <;> rfl

theorem cscTransition_judged : (cscTransition b j c).judged = c.judged := by
  unfold cscTransition
  split
  · split
    · rfl
    · split <;> rfl
  · split <;> rfl
  · dsimp only
    split <;> split <;> rfl
  · split
    · rfl
    · split <;> rfl
  · rfl

theorem cscBefore_judged : (cscBefore b j c).judged = (cscHot b j.t c).judged :=
  (cscTimer_judged _ _).trans (cscImbalance_judged b j _)

/-- What leaves the judged fields leaves the record. -/
theorem Csc.record_of_judged {c d : Csc} (h : d.judged = c.judged) : d.record = c.record := congrArg (·.2.1) h

theorem cscBefore_stage : (cscBefore b j c).stage = c.stage :=
  (cscTimer_stage _ _).trans ((cscImbalance_stage b j _).trans (cscHot_stage b j.t c))

theorem cscBefore_record : (cscBefore b j c).record = c.record :=
  congrArg (·.2.1) ((cscBefore_judged b j c).trans (cscHot_judged b j.t c))

theorem cscLvd_steps : c.Steps (cscLvd b j c) := by
  unfold cscLvd
  split
  · next hmet =>
    obtain ⟨hstage, -⟩ := hmet
    split
    · exact ⟨⟨Iff.rfl, Iff.rfl⟩, fun p hp => .inr (by cases hp; rw [if_neg hstage])⟩
    · exact .of_eq rfl rfl
  · exact .of_eq rfl rfl

theorem cscReconnect_steps : c.Steps (cscReconnect b j c) := by
  unfold cscReconnect
  split
  · next hmet =>
    obtain ⟨hstage, -⟩ := hmet
    split
    · exact ⟨⟨Iff.rfl, Iff.rfl⟩, fun p hp => .inr (by cases hp; rw [if_pos hstage])⟩
    · exact .of_eq rfl rfl
  · exact .of_eq rfl rfl

/-- A set out of OPERATING takes its first three steps alone, and in OPERATING all of them (R52). -/
theorem cscTakeSet_eq : cscTakeSet b j c = cscTarget b j.t (if j.operating then
    cscDay b j.p (cscReconnect b j (cscTransition b j (cscLvd b j (cscBefore b j c)))) else cscBefore b j c) := rfl

theorem cscTakeSet_steps : c.Steps (cscTakeSet b j c) := by
  have hbefore : c.Steps (cscBefore b j c) := .of_eq (cscBefore_stage b j c) (cscBefore_record b j c)
  have htransition : ∀ x : Csc, x.Steps (cscTransition b j x) := fun x =>
    .of_stage (cscTransition_stage b j x).staysBy (Csc.record_of_judged (cscTransition_judged b j x))
  have hday : ∀ x : Csc, x.Steps (cscDay b j.p x) := fun x =>
    .of_eq (cscDay_stage b _ x) (Csc.record_of_judged (cscDay_judged b _ x))
  have htarget : ∀ x : Csc, x.Steps (cscTarget b j.t x) := fun x => .of_eq rfl rfl
  rw [cscTakeSet_eq]
  split
  · exact ((((hbefore.trans (cscLvd_steps b j _)).trans (htransition _)).trans (cscReconnect_steps b j _)).trans
      (hday _)).trans (htarget _)
  · exact hbefore.trans (htarget _)

end

/-! ## What the operations keep -/

/-- Where the stage follows the contactor in `s`, it does in `t`. -/
def State.StageKept (s t : State) : Prop := s.StageFollowsContactor → t.StageFollowsContactor

namespace State.StageKept

theorem refl (s : State) : s.StageKept s := id

theorem trans (h : s.StageKept t) (g : t.StageKept u) : s.StageKept u := fun hs => g (h hs)

theorem ite {c : Prop} [Decidable c] (h : s.StageKept t) (g : s.StageKept u) : s.StageKept (if c then t else u) := by
  split <;> assumption

/-- With CTR_FB unqualified there is nothing to follow. -/
theorem of_unqualified (h : t.position = none) : s.StageKept t := fun _ =>
  State.stageFollowsContactor_iff.mpr fun p hp => by rw [h] at hp; cases hp

theorem of_steps (hposition : t.position = s.position) (hstep : s.csc.Steps t.csc) : s.StageKept t := fun hs =>
  State.stageFollowsContactor_iff.mpr fun p hp =>
    (State.stageFollowsContactor_iff.mp hs p (hposition ▸ hp)).step hstep

theorem fan (order : List Taker) {takers : List Taker} {f : Taker → State → State}
    (h : ∀ x ∈ takers, ∀ s : State, s.StageKept (f x s)) (s : State) : s.StageKept (fan order takers f s) :=
  fan_induction order (P := State.StageKept s) (fun x hx t ht => ht.trans (h x hx t)) s (.refl s)

end State.StageKept

/-- A change of CSC's that is one of its steps, with what else it brings about. -/
theorem State.ChangedOnly.stageKept_of_steps (h : s.ChangedOnly parts t) (hstep : s.csc.Steps t.csc)
    (hmch : .mch ∉ parts := by decide) : s.StageKept t := .of_steps (position_congr (h.mch hmch)) hstep

/-- A change of neither MCH nor CSC. -/
theorem State.ChangedOnly.stageKept (h : s.ChangedOnly parts t) (hmch : .mch ∉ parts := by decide)
    (hcsc : .csc ∉ parts := by decide) : s.StageKept t :=
  h.stageKept_of_steps (.of_eq (by rw [h.csc hcsc]) (by rw [h.csc hcsc])) hmch

/-- A change of MCH that leaves CTR_FB. -/
theorem onMch_stageKept {f : Mch → Mch} (h : (f s.mch).contacts.ctrFb.state = s.mch.contacts.ctrFb.state) :
    s.StageKept (s.onMch f) :=
  .of_steps (by unfold State.position State.contact contactGet; rw [State.onMch_mch, h]) (.of_eq rfl rfl)

/-! ## CSC's own events -/

theorem cscOnSet_stageKept (order : List Taker) (p : Nat) (s : State) : s.StageKept (cscOnSet order p s) :=
  (cscOnSet_changedOnly order p s).stageKept_of_steps (by rw [cscOnSet, cscHand_csc]; exact cscTakeSet_steps _ _ _)

theorem stageEvent_stageKept (order : List Taker) {new : Csc} (manual : Option Direction) (hstep : s.csc.Steps new) :
    s.StageKept (stageEvent order new manual s) := by
  obtain ⟨target, hcsc⟩ := stageEvent_csc order new manual s
  exact (stageEvent_changedOnly order new manual s).stageKept_of_steps
    (by rw [hcsc]; exact hstep.trans (.of_eq rfl rfl))

theorem cscOnView_stageKept (order : List Taker) (old : SourceView) (s : State) : s.StageKept (cscOnView order old s) := by
  refine .ite (stageEvent_stageKept order none ?_) (.refl s)
  have hdwell : s.csc.Steps (if s.ptb.view = .noSource then { s.csc with reconnectDwell := 0 } else s.csc) := by
    split <;> exact .of_eq rfl rfl
  refine hdwell.trans ?_
  generalize (if s.ptb.view = .noSource then { s.csc with reconnectDwell := 0 } else s.csc) = c
  refine .enterUnlessIn ?_
  split
  · exact ⟨Iff.rfl, Iff.rfl⟩
  · exact stageOnView_staysBy _ _

theorem cscOnOperating_stageKept (order : List Taker) (s : State) : s.StageKept (cscOnOperating order s) := by
  refine (cscOnOperating_changedOnly order s).stageKept_of_steps (.of_stage ?_ (cscOnOperating_side order s).2)
  rw [(cscOnOperating_effect order s).1]
  exact s.entryStage_staysBy

theorem cscEqualizeStop_stageKept (order : List Taker) (s : State) : s.StageKept (cscEqualizeStop order s) := by
  refine stageEvent_stageKept order none ?_
  split
  · next hstage => exact .of_stage (by rw [show s.csc.stage = .equalize from hstage]; simp [Stage.StaysBy, enterStage]) rfl
  · exact .of_eq rfl rfl

/-- The end of an operation at most removes the record (R64). -/
theorem endOperation_stageKept (order : List Taker) (op : ContactorOp) (failed : Bool) (s : State) :
    s.StageKept (endOperation order op failed s) := by
  refine (endOperation_changedOnly order op failed s).stageKept_of_steps ?_
  rw [endOperation_csc]
  split
  · exact ⟨⟨Iff.rfl, Iff.rfl⟩, fun _ => nofun⟩
  · exact .of_eq rfl rfl

theorem sdoOnWindow_stageKept (order : List Taker) (op : ContactorOp) (s : State) : s.StageKept (sdoOnWindow order op s) :=
  .ite (beginAttempt_changedOnly _ _ s).stageKept (endOperation_stageKept order op true s)

/-! ## CTR_FB (R65) -/

/-- A closed contactor is never ISOLATED, and the stage is present (R65, R67). -/
theorem cscOnCtrFb_present (order : List Taker) (s : State) :
    (cscOnCtrFb order .closing s).csc.stage ≠ .isolated ∧ (cscOnCtrFb order .closing s).csc.stage ≠ .absent := by
  have hevent : ∀ {new : Csc} {manual : Option Direction}, new.stage ≠ .isolated ∧ new.stage ≠ .absent →
      (stageEvent order new manual s).csc.stage ≠ .isolated ∧ (stageEvent order new manual s).csc.stage ≠ .absent :=
    fun {new manual} hnew => by
      obtain ⟨target, hcsc⟩ := stageEvent_csc order new manual s
      rwa [hcsc]
  unfold cscOnCtrFb
  dsimp only
  generalize (if s.csc.record = some .closing then { s.csc with record := none } else s.csc) = c
  split
  · next hp => cases hp
  · split
    · exact hevent (decidedStage_present s)
    · exact hevent (by simp [enterStage])
  · next hp => cases hp
  · exact hevent (by unfold enterStage; dsimp only; split <;> decide)
  · next hp _ _ => cases hp
  · next habsent hisolated => exact ⟨hisolated, habsent⟩

theorem cscOnCtrFb_shows (order : List Taker) (p : Direction) (s : State) : (cscOnCtrFb order p s).csc.Shows p := by
  obtain ⟨-, hrecord, hopen⟩ := cscOnCtrFb_answers order p s
  cases p with
  | opening => exact ⟨hopen rfl, hrecord⟩
  | closing =>
    obtain ⟨hisolated, habsent⟩ := cscOnCtrFb_present order s
    exact ⟨hisolated, habsent, hrecord⟩

/-- A change of CTR_FB handed on leaves CSC as CTR_FB shows the contactor, whatever it was before. -/
theorem handCtrFb_follows (order : List Taker) {p : Direction} (hposition : s.position = some p) :
    (handCtrFb order s).StageFollowsContactor := by
  have hshows : ∀ u : State, u.position = some p → (ctrFbTakes order .csc u).csc.Shows p := fun u hu => by
    rw [ctrFbTakes_csc order hu]
    exact cscOnCtrFb_shows order p u
  obtain ⟨hkept, hcsc⟩ := fan_establishes order (takers := [.sdo, .csc, .pli]) (f := ctrFbTakes order)
    (I := fun u => u.position = some p) (P := fun u => u.position = some p ∧ u.csc.Shows p) .csc (by decide)
    (fun x _ _ u hu => (ctrFbTakes_position order x u).trans hu)
    (fun u hu => ⟨(ctrFbTakes_position order .csc u).trans hu, hshows u hu⟩)
    (fun x _ u hu => ⟨(ctrFbTakes_position order x u).trans hu.1, by
      by_cases hx : x = .csc
      · subst hx; exact hshows u hu.1
      · rw [ctrFbTakes_csc_of_ne order hx u]; exact hu.2⟩) s hposition
  rw [handCtrFb_eq, State.stageFollowsContactor_iff]
  intro q hq
  rw [hkept] at hq
  cases hq
  exact hcsc

end Sys2Proof.Machine
end

section
/-! SUPPORT. What the peer table, the phases, the lines, the contacts and the site port keep of the stage, and O12. -/
namespace Sys2Proof.Machine

set_option Elab.async false

variable {s t u : State}

/-! ## The source view and the peer table -/

theorem recomputeViews_stageKept (order : List Taker) (s : State) : s.StageKept (recomputeViews order s) := by
  refine .ite (State.StageKept.trans (onPtb_changedOnly _ s).stageKept (.fan order ?_ _)) (.refl s)
  simp only [List.forall_mem_cons]
  exact ⟨fun s => .ite (cscOnView_stageKept order _ s) (.refl s), fun s => .ite (cbuOnEvent_changedOnly s).stageKept (.refl s),
    fun s => .ite (rotOnView_changedOnly order s).stageKept (.refl s),
    fun s => .ite (gcoOnView_changedOnly _ s).stageKept (.refl s),
    fun s => .ite (requestStatus_changedOnly s).stageKept (.refl s),
    fun s => .ite (supOnView_changedOnly _ s).stageKept (.refl s), fun s => (takeCondition_changedOnly _ _ s).stageKept,
    fun s => .ite (gcoOnKnowledge_changedOnly _ s).stageKept (.refl s), List.forall_mem_nil _⟩

/-- A change of the table, and then what it brings about. -/
theorem onPtb_then_peerHand_stageKept (order : List Taker) (logs : List (Nat × Nat)) (subs views : Bool) (f : Ptb → Ptb)
    {also : Taker → State → State} (h : ∀ (x : Taker) (s : State), s.StageKept (also x s)) (s : State) :
    s.StageKept (peerHand order logs subs views also (s.onPtb f)) := by
  refine State.StageKept.trans (onPtb_changedOnly f s).stageKept (.fan order ?_ _)
  simp only [List.forall_mem_cons]
  exact ⟨fun s => (foldl_changedOnly (fun s (e : Nat × Nat) => logEntry_changedOnly .peer e.1 e.2 s) logs s).stageKept,
    fun s => State.StageKept.trans (takeConditions_changedOnly _ _ s).stageKept
      (.ite (aluRecompute_changedOnly _ _).stageKept (.refl _)),
    fun s => .ite (recomputeViews_stageKept order s) (.refl s), h .pli, h .gco, h .rot, List.forall_mem_nil _⟩

theorem ageRecords_stageKept (order : List Taker) (s : State) : s.StageKept (ageRecords order s) :=
  onPtb_then_peerHand_stageKept order _ _ _ _ (fun _ s => .refl s) s

theorem forgetRecord_stageKept (order : List Taker) (p : PeerRecord) (s : State) : s.StageKept (forgetRecord order p s) :=
  onPtb_then_peerHand_stageKept order _ _ _ _ (fun _ s => .refl s) s

theorem clearPeers_stageKept (order : List Taker) (s : State) : s.StageKept (clearPeers order s) :=
  onPtb_then_peerHand_stageKept order _ _ _ _ (fun _ s => .refl s) s

/-! ## The phases (R178 to R182) -/

theorem mchOnListen_ctrFb (wired : Bool) (m : Mch) : (mchOnListen wired m).contacts.ctrFb = m.contacts.ctrFb := by
  unfold mchOnListen
  dsimp only
  split <;> rfl

theorem listenEntry_stageKept (order : List Taker) (wake : Bool) (s : State) : s.StageKept (listenEntry order wake s) := by
  refine State.StageKept.trans (onSup_changedOnly _ s).stageKept (.fan order ?_ _)
  simp only [List.forall_mem_cons]
  exact ⟨fun s => onMch_stageKept (congrArg ContactInput.state (mchOnListen_ctrFb _ s.mch)),
    fun s => (onPli_changedOnly _ s).stageKept, fun s => .ite (clearPeers_stageKept order s) (.refl s),
    fun s => .ite (.refl s) (rectDrive_changedOnly s).stageKept, fun s => (aluOnListen_changedOnly _ s).stageKept,
    List.forall_mem_nil _⟩

theorem enterOperating_stageKept (order : List Taker) (s : State) : s.StageKept (enterOperating order s) := by
  rw [enterOperating_eq]
  refine State.StageKept.trans (operatingNotes_changedOnly s).stageKept (.fan order (fun x _ s => ?_) _)
  by_cases hx : x = .csc
  · subst hx
    exact cscOnOperating_stageKept order s
  · exact (operatingTakes_changedOnly_of_ne order hx s).stageKept

theorem leaveCheck_stageKept (order : List Taker) (s : State) : s.StageKept (leaveCheck order s) :=
  .ite (enterOperating_stageKept order s) (.refl s)

/-- A station that falls asleep holds every input unqualified (R180). -/
theorem State.FallenAsleep.position (h : s.FallenAsleep t) : t.position = none := by
  obtain ⟨-, -, -, -, -, -, -, -, -, hcontacts, -⟩ := h
  rw [State.position, State.contact, hcontacts]
  rfl

theorem fallAsleep_stageKept (order : List Taker) (s : State) : s.StageKept (fallAsleep order s) :=
  .of_unqualified (fallAsleep_fallenAsleep order s).position

theorem stopStation_stageKept (order : List Taker) (s : State) : s.StageKept (stopStation order s) :=
  .of_unqualified (stopStation_fallenAsleep order s).position

theorem wakeUp_stageKept (order : List Taker) (cause : StartCause) (s : State) : s.StageKept (wakeUp order cause s) := by
  by_cases hasleep : s.asleep = true
  · rw [wakeUp_of_asleep order cause hasleep]
    exact State.StageKept.trans (wakeSup_changedOnly cause s).stageKept (listenEntry_stageKept order true _)
  · rw [wakeUp_of_awake order cause (by simpa using hasleep)]
    exact .refl s

theorem siteWake_stageKept (order : List Taker) (s : State) : s.StageKept (siteWake order s) :=
  .ite (wakeUp_stageKept order _ s) (.refl s)

/-! ## The starts (R175, R176) -/

theorem resetNow_stageKept (kind : ResetKind) (s : State) : s.StageKept (resetNow kind s) :=
  .of_unqualified (by rw [State.position, State.contact, resetNow_mch]; rfl)

theorem resetCause_stageKept (kind : ResetKind) (s : State) : s.StageKept (resetCause kind s) :=
  .ite (onSup_changedOnly _ s).stageKept (resetNow_stageKept kind s)

/-- LOAD gives CSC the retained days alone (R55, R176). -/
theorem loaded_stageKept (programmed : List (Nat × Byte)) (silent : List Nat) (s : State) :
    s.StageKept (loaded programmed silent s) := by
  refine .of_steps ?_ ?_
  · obtain ⟨c, hmch⟩ := loadBlocks_mch (loadFound programmed silent s) (s.onStore fun m => storeProgram m programmed)
    rw [State.position, State.contact, loaded, hmch]
    rfl
  · rw [loaded, loadBlocks_csc]
    split <;> exact .of_eq rfl rfl

theorem endLoad_stageKept (order : List Taker) (programmed : List (Nat × Byte)) (silent : List Nat) (s : State) :
    s.StageKept (endLoad order programmed silent s) := by
  rw [endLoad_eq]
  exact ((loaded_stageKept programmed silent s).trans (loadNotes_changedOnly programmed silent s).stageKept).trans
    (listenEntry_stageKept order false _)

/-! ## The measurement chain and the contacts -/

theorem deliverSet_stageKept (order : List Taker) (p number : Nat) (s : State) :
    s.StageKept (deliverSet order p number s) := by
  refine .fan order ?_ s
  simp only [List.forall_mem_cons]
  exact ⟨fun s => (takeCondition_changedOnly _ _ s).stageKept, fun s => (sacOnSet_changedOnly order p s).stageKept,
    cscOnSet_stageKept order p, fun s => (cbuOnSet_changedOnly _ _ s).stageKept,
    fun s => (aluOnSet_changedOnly _ s).stageKept, List.forall_mem_nil _⟩

theorem endPeriod_stageKept (order : List Taker) (sums : PerChannel Nat) (s : State) :
    s.StageKept (endPeriod order sums s) := by
  unfold endPeriod
  split
  · exact .ite ((onMch_stageKept (by rfl)).trans (deliverSet_stageKept order _ _ _)) (.refl s)
  · exact .refl s

theorem acMove_stageKept (order : List Taker) (f : AcCapture → AcCapture) (s : State) : s.StageKept (acMove order f s) := by
  have hmove : s.StageKept (s.onMch fun m => { m with ac := f m.ac }) := onMch_stageKept rfl
  refine .ite hmove (hmove.trans (.fan order ?_ _))
  simp only [List.forall_mem_cons]
  exact ⟨recomputeViews_stageKept order, fun s => .ite (wakeUp_stageKept order _ s) (.refl s), List.forall_mem_nil _⟩

theorem sampleContact_state (level : Bool) (c : ContactInput) : (sampleContact level c).state = c.state := by
  unfold sampleContact
  split
  · rfl
  · split <;> rfl

/-- A sample moves an input's candidate, and no qualified state (R18). -/
theorem contactSamples_stageKept (levels : PerContact Bool) (s : State) :
    s.StageKept (s.onMch fun m => { m with contacts := contactMap (fun i c =>
      if sampled s.wired i then sampleContact (contactGet levels i) c else c) m.contacts }) := by
  refine onMch_stageKept ?_
  dsimp only [contactMap]
  split
  · exact sampleContact_state _ _
  · rfl

theorem handContact_stageKept (order : List Taker) {i : Contact} (hi : i ≠ .ctrFb) (s : State) :
    s.StageKept (handContact order i s) := by
  cases i with
  | xferGen | genRunFb => exact recomputeViews_stageKept order s
  | rectAcok =>
    refine .fan order ?_ s
    simp only [List.forall_mem_cons]
    exact ⟨recomputeViews_stageKept order, fun s => (rotOnAcok_changedOnly order s).stageKept, List.forall_mem_nil _⟩
  | rectFail => exact (rotOnFail_changedOnly order s).stageKept
  | ctrFb => exact absurd rfl hi
  | in1 | in2 | in3 | in4 | in5 | in6 | in7 | in8 => exact (takeCondition_changedOnly _ _ s).stageKept

/-- A candidate taken at CTR_FB is handed on and followed (R65), and one at another input leaves CTR_FB. -/
theorem takeCandidate_then_handContact_stageKept (order : List Taker) (i : Contact) (level : Bool) (s : State) :
    s.StageKept (handContact order i (takeCandidate i level s)) := by
  by_cases hi : i = .ctrFb
  · subst hi
    exact fun _ => handCtrFb_follows order (takeCandidate_position level s)
  · refine State.StageKept.trans (t := takeCandidate i level s) (.of_steps ?_ (.of_eq rfl rfl))
      (handContact_stageKept order hi _)
    rw [State.position, State.contact, takeCandidate, State.onMch_mch, contactGet_contactSet, if_neg (Ne.symm hi)]
    rfl

theorem qualifyContact_stageKept (order : List Taker) (i : Contact) (s : State) :
    s.StageKept (qualifyContact order i s) := by
  unfold qualifyContact
  dsimp only
  split
  · exact .ite (takeCandidate_then_handContact_stageKept order i _ s) (.refl s)
  · exact .refl s

/-! ## The line -/

theorem onPli_then_takeCondition_stageKept (order : List Taker) (id : Nat) (f : Pli → Pli) (s : State) :
    s.StageKept (takeCondition order id (s.onPli f)) :=
  State.StageKept.trans (onPli_changedOnly f s).stageKept (takeCondition_changedOnly _ _ _).stageKept

theorem rateFaultEnd_stageKept (order : List Taker) (s : State) : s.StageKept (rateFaultEnd order s) := by
  unfold rateFaultEnd
  split
  · exact .ite (onPli_then_takeCondition_stageKept order _ _ s) (.refl s)
  · exact .refl s

theorem faultTimeOut_stageKept (s : State) : s.StageKept (faultTimeOut s) := by
  unfold faultTimeOut
  split
  · exact .ite (onPli_changedOnly _ s).stageKept (.refl s)
  · exact .refl s

theorem quietCompleted_stageKept (order : List Taker) (r : Nat) (s : State) : s.StageKept (quietCompleted order r s) :=
  .ite (stopStation_stageKept order s) (.ite (onSup_changedOnly _ s).stageKept (.refl s))

theorem completeFrame_stageKept (order : List Taker) (s : State) : s.StageKept (completeFrame order s) := by
  unfold completeFrame
  split
  · refine State.StageKept.trans (onPli_changedOnly completeSlot s).stageKept ?_
    unfold handCompletion
    split
    · exact (rotOnSent_changedOnly _ _).stageKept
    · exact (rotOnSent_changedOnly _ _).stageKept
    · exact quietCompleted_stageKept order _ _
    · exact .refl _
  · exact .refl s

theorem hearAsleep_stageKept (order : List Taker) (frame : List Byte) (s : State) :
    s.StageKept (hearAsleep order frame s) := by
  have hseen : s.StageKept (frameSeen s) := (frameSeen_changedOnly s).stageKept
  exact .ite (.ite (hseen.trans (wakeUp_stageKept order _ _)) hseen) (.refl s)

/-! ## The received notes -/

/-- What a note's content hands on to GCO and ROT moves neither the stage nor CTR_FB. -/
def NoteContent.KeepsStage (n : NoteContent) : Prop :=
  (∀ s : State, s.StageKept (n.gco s)) ∧ ∀ s : State, s.StageKept (n.rot s)

theorem NoteContent.KeepsStage.of_idle {n : NoteContent} (hgco : n.gco = id) (hrot : n.rot = id) : n.KeepsStage := by
  unfold NoteContent.KeepsStage
  rw [hgco, hrot]
  exact ⟨.refl, .refl⟩

theorem takeNote_stageKept (order : List Taker) (station seq : Nat) {n : NoteContent} (hn : n.KeepsStage) (s : State) :
    s.StageKept (takeNote order station seq n s) := by
  refine .ite (.refl s) (onPtb_then_peerHand_stageKept order _ _ _ _ (fun x s => ?_) s)
  split
  · exact .ite (State.StageKept.trans (requestStatus_changedOnly s).stageKept (enqueuePoint_changedOnly _).stageKept)
      (.refl s)
  · exact hn.1 s
  · exact hn.2 s
  · exact .refl s

theorem gcoHear_stageKept (order : List Taker) (n : Nat) (b : Bool) (e : Nat) (s : State) :
    s.StageKept (gcoHear order n b e s) := (gcoHear_changedOnly order n b e s).stageKept

theorem statusContent_keepsStage (order : List Taker) (station : Nat) (payload : List Byte) (s : State) :
    (statusContent order station payload s).KeepsStage := by
  unfold statusContent
  split
  · exact .of_idle rfl rfl
  · refine ⟨fun s => ?_, .refl⟩
    dsimp only
    split
    · exact gcoHear_stageKept order _ _ _ s
    · exact gcoHear_stageKept order _ _ _ s
    · exact .refl s

theorem genContent_keepsStage (order : List Taker) (station event epoch : Nat) :
    (genContent order station event epoch).KeepsStage :=
  ⟨fun s => .ite (gcoHear_stageKept order _ _ _ s) (.ite (gcoHear_stageKept order _ _ _ s) (.refl s)), .refl⟩

theorem restContent_keepsStage (order : List Taker) (station hours : Nat) (flags : Byte) (s : State) :
    (restContent order station hours flags s).KeepsStage :=
  ⟨.refl, fun s => (rotOnRest_changedOnly order station hours s).stageKept⟩

theorem wakeContent_keepsStage (hours : Nat) (reason : Byte) (s : State) : (wakeContent hours reason s).KeepsStage := by
  unfold wakeContent
  split <;> exact .of_idle rfl rfl

theorem hearNote_stageKept (order : List Taker) (station seq length : Nat) {n : State → NoteContent}
    (hn : ∀ s, (n s).KeepsStage) (s : State) : s.StageKept (hearNote order station seq length n s) := by
  have hseen : s.StageKept (frameSeen s) := (frameSeen_changedOnly s).stageKept
  unfold hearNote
  dsimp only
  refine .ite (discardFrame_changedOnly order s).stageKept (.ite (.refl s) (.ite (hseen.trans (wakeUp_stageKept order _ _))
    (.ite (hseen.trans (duplicateFound_changedOnly order _).stageKept) ?_)))
  exact (hseen.trans (onSup_changedOnly _ _).stageKept).trans (takeNote_stageKept order station seq (hn _) _)

/-! ## The supervisor and the site port -/

theorem checkSupply_stageKept (zone : SupplyZone) (s : State) : s.StageKept (checkSupply zone s) := by
  have hsup : ∀ (f : Sup → Sup) (t : State), t.StageKept (t.onSup f) := fun f t => (onSup_changedOnly f t).stageKept
  unfold checkSupply
  dsimp only
  split
  · exact (hsup _ s).trans (hsup _ _)
  · exact .ite (((hsup _ s).trans (hsup _ _)).trans (triggerWrite_changedOnly _).stageKept) ((hsup _ s).trans (hsup _ _))

theorem endWrite_stageKept (order : List Taker) (v : Retained) (b : Bool) (s : State) :
    s.StageKept (endWrite order v b s) := by
  have hstored : s.StageKept (storeWritten v b s) := .ite (onStore_changedOnly _ s).stageKept
    (State.StageKept.trans (onStore_changedOnly _ s).stageKept (onSpoiled_changedOnly _ _).stageKept)
  refine ((hstored.trans (onSup_changedOnly _ _).stageKept).trans (.fan order ?_ _)).trans
    (beginPendingWrite_changedOnly _).stageKept
  simp only [List.forall_mem_cons]
  exact ⟨fun s => .ite (.refl s) (logEntry_changedOnly _ _ _ s).stageKept,
    fun s => (takeCondition_changedOnly _ _ s).stageKept, List.forall_mem_nil _⟩

theorem validFrame_stageKept (order : List Taker) (s : State) : s.StageKept (validFrame order s) :=
  ((State.StageKept.trans (onSup_changedOnly _ s).stageKept (abandonEntryWait_changedOnly _).stageKept).trans
    (leaveCheck_stageKept order _)).trans (leaveLean_changedOnly order _).stageKept

/-- A request keeps what its owner's answer keeps. -/
theorem siteRequest_stageKept (order : List Taker) (c : SiteCommand) (args : List Byte) {owner : State → Answer}
    (h : ∀ s : State, s.StageKept (owner s).after) (s : State) : s.StageKept (siteRequest order c args owner s) := by
  refine .ite (siteWake_stageKept order s) (.ite (.refl s) (State.StageKept.trans (validFrame_stageKept order s)
    (State.StageKept.trans (t := (answerRequest c args owner (validFrame order s)).after) ?_
      (respond_changedOnly c _).stageKept)))
  unfold answerRequest
  split
  · exact .refl _
  · split
    · split <;> exact .refl _
    · exact h _

theorem answerOf_stageKept {r : RefuseReason ⊕ State} (h : ∀ t, r = .inr t → s.StageKept t) :
    s.StageKept (answerOf s r).after := by
  cases r with
  | inl reason => exact .refl s
  | inr t => exact h t rfl

theorem rotForceRun_stageKept (order : List Taker) (h : rotForceRun order s = .inr t) : s.StageKept t := by
  unfold rotForceRun at h
  split at h
  · cases h
  · split at h <;> cases h
    · exact .refl s
    · exact (enterRect_changedOnly order _ s).stageKept

theorem rotForceRest_stageKept (order : List Taker) (h : rotForceRest order s = .inr t) : s.StageKept t := by
  unfold rotForceRest at h
  iterate 3 (split at h; · cases h)
  split at h <;> cases h
  · exact .refl s
  · exact (enterRect_changedOnly order _ s).stageKept

theorem rotRelease_stageKept (order : List Taker) (h : rotRelease order s = .inr t) : s.StageKept t := by
  unfold rotRelease at h
  split at h <;> cases h <;> exact (enterRect_changedOnly order _ s).stageKept

theorem rectForce_stageKept (order : List Taker) (arg : Nat) (s : State) : s.StageKept (rectForce order arg s).after := by
  unfold rectForce
  split
  · exact answerOf_stageKept fun _ => rotForceRun_stageKept order
  · exact answerOf_stageKept fun _ => rotForceRest_stageKept order
  · exact answerOf_stageKept fun _ => rotRelease_stageKept order
  · exact .refl s

theorem gcoTest_stageKept (order : List Taker) (n : Nat) (h : gcoTest order n s = .inr t) : s.StageKept t := by
  unfold gcoTest at h
  dsimp only at h
  split at h
  · cases h
    exact .ite (gcoRelease_changedOnly _ s).stageKept (.refl s)
  · iterate 6 (split at h; · cases h)
    split_ifs at h
    · cases h
      exact (onGco_changedOnly _ s).stageKept
    · cases h
      exact (gcoRaiseNow_changedOnly _ _ _ s).stageKept

theorem gcoClear_stageKept (order : List Taker) (h : gcoClear order s = .inr t) : s.StageKept t := by
  unfold gcoClear at h
  dsimp only at h
  iterate 3 (split at h; · cases h)
  cases h
  exact State.StageKept.trans (onGco_changedOnly _ s).stageKept (gcoHand_changedOnly _ _ _ _ _ _).stageKept

theorem equalize_stageKept (order : List Taker) (arg : Nat) (s : State) : s.StageKept (equalize order arg s).after := by
  unfold equalize
  split
  · exact .of_steps rfl (.of_eq rfl rfl)
  · exact cscEqualizeStop_stageKept order s
  · exact .refl s

theorem forgetPeer_stageKept (order : List Taker) (n : Nat) (s : State) : s.StageKept (forgetPeer order n s).after := by
  unfold forgetPeer
  split
  · exact .refl s
  · split
    · exact forgetRecord_stageKept order _ s
    · exact .refl s

theorem peerRead_stageKept (n : Nat) (s : State) : s.StageKept (peerRead n s).after := by
  unfold peerRead
  split
  · exact .refl s
  · split <;> exact .refl s

theorem beginRestart_stageKept (s : State) : s.StageKept (beginRestart s) :=
  (State.StageKept.trans (enqueue_changedOnly _ _ s).stageKept (triggerWrite_changedOnly _).stageKept).trans
    (onSup_changedOnly _ _).stageKept

theorem siteUnknown_stageKept (order : List Taker) (code : Byte) (s : State) : s.StageKept (siteUnknown order code s) :=
  .ite (siteWake_stageKept order s)
    (.ite (.refl s) ((validFrame_stageKept order s).trans (onSup_changedOnly _ _).stageKept))

theorem siteBadFrame_stageKept (order : List Taker) (why : SiteFrameFault) (s : State) :
    s.StageKept (siteBadFrame order why s) :=
  .ite (siteWake_stageKept order s) (.ite (.refl s) (onSup_changedOnly _ s).stageKept)

/-! ## Every command -/

/-- A command keeps what its body keeps: the time before it and a change found in CHECK, which may follow it, move neither
stage nor contactor apart from each other. -/
theorem command_stageKept {w : Moment} {body : State → State} (h : command w body s = .next t)
    (hb : ∀ s : State, s.StageKept (body s)) : s.StageKept t := by
  cases h
  exact (State.StageKept.trans (advance_changedOnly _ s).stageKept (hb _)).trans (leaveCheck_stageKept _ _)

theorem exec_stageKept {c : Instr} (h : exec c s = .next t) : s.StageKept t := by
  have hsup : ∀ (f : Sup → Sup) (s : State), s.StageKept (s.onSup f) := fun f s => (onSup_changedOnly f s).stageKept
  have hpli : ∀ (f : Pli → Pli) (s : State), s.StageKept (s.onPli f) := fun f s => (onPli_changedOnly f s).stageKept
  unfold exec at h
  cases c <;> dsimp only at h
  case powerOn _ => exact command_stageKept h (resetNow_stageKept _)
  case pin _ => exact command_stageKept h (resetCause_stageKept _)
  case brownOut _ => exact command_stageKept h fun s => .ite (resetCause_stageKept _ s) (.refl s)
  case restartReset _ => exact command_stageKept h fun s => .ite (resetNow_stageKept _ s) (.refl s)
  case heldEnd _ _ => exact command_stageKept h fun s => .ite (hsup _ s) (.refl s)
  case loadEnd _ _ _ => exact command_stageKept h fun s => .ite (endLoad_stageKept _ _ _ s) (.refl s)
  case supplyCheck _ zone => exact command_stageKept h (checkSupply_stageKept zone)
  case listenEnd _ =>
    exact command_stageKept h fun s => .ite (.ite (hsup _ s) (enterOperating_stageKept _ s)) (.refl s)
  case checkEnd _ => exact command_stageKept h fun s => .ite (fallAsleep_stageKept _ s) (.refl s)
  case measurementSet w sums =>
    rw [execMeasurementSet] at h
    split at h
    · exact command_stageKept h (endPeriod_stageKept w.order sums)
    · cases h
  case acEdge _ | edgeTimeout _ => exact command_stageKept h fun s => .ite (acMove_stageKept _ _ s) (.refl s)
  case contactQualified _ i => exact command_stageKept h (qualifyContact_stageKept _ i)
  case contactSample _ levels => exact command_stageKept h fun s => .ite (contactSamples_stageKept levels s) (.refl s)
  case pulseEnd _ =>
    refine command_stageKept h fun s => ?_
    split
    · exact .ite (onSdo_changedOnly _ s).stageKept (.refl s)
    · exact .refl s
  case confirmationWindowExpiry _ =>
    refine command_stageKept h fun s => ?_
    split
    · exact .ite (sdoOnWindow_stageKept _ _ s) (.refl s)
    · exact .refl s
  case frameBegin _ => exact command_stageKept h fun s => (beginFrame_changedOnly s).stageKept
  case frameComplete _ => exact command_stageKept h (completeFrame_stageKept _)
  case contentionLoss _ => exact command_stageKept h fun s => (loseContention_changedOnly s).stageKept
  case driveFault _ => exact command_stageKept h fun s => (failDrive_changedOnly _ s).stageKept
  case lineStuck _ | lineStuckClear _ =>
    exact command_stageKept h fun s => .ite (onPli_then_takeCondition_stageKept _ _ _ s) (.refl s)
  case lineError _ _ => exact command_stageKept h fun s => (discardFrame_changedOnly _ s).stageKept
  case faultTimeExpiry _ => exact command_stageKept h faultTimeOut_stageKept
  case rateFaultClear _ => exact command_stageKept h (rateFaultEnd_stageKept _)
  case statusNote _ _ _ _ => exact command_stageKept h (hearNote_stageKept _ _ _ _ (statusContent_keepsStage _ _ _))
  case genNote _ _ _ _ _ =>
    exact command_stageKept h (hearNote_stageKept _ _ _ _ fun _ => genContent_keepsStage _ _ _ _)
  case restNote _ _ _ _ _ => exact command_stageKept h (hearNote_stageKept _ _ _ _ (restContent_keepsStage _ _ _ _))
  case wakeNote _ _ _ _ _ => exact command_stageKept h (hearNote_stageKept _ _ _ _ (wakeContent_keepsStage _ _))
  case pointNote _ _ _ _ | helloNote _ _ _ _ _ | quietNote _ _ _ _ =>
    exact command_stageKept h (hearNote_stageKept _ _ _ _ fun _ => .of_idle rfl rfl)
  case dormantLineFrame _ frame => exact command_stageKept h (hearAsleep_stageKept _ frame)
  case statusPeriodicTimer _ =>
    exact command_stageKept h fun s => .ite (enqueueStatus_changedOnly s).stageKept (.refl s)
  case statusSpacingEnd _ =>
    exact command_stageKept h fun s => .ite (.ite (enqueueStatus_changedOnly s).stageKept (hpli _ s)) (.refl s)
  case agingCheck _ => exact command_stageKept h fun s => .ite (ageRecords_stageKept _ s) (.refl s)
  case intentExpiry _ _ => exact command_stageKept h fun s => .ite (expireIntent_changedOnly _ s).stageKept (.refl s)
  case rotationTick _ => exact command_stageKept h fun s => .ite (rotTick_changedOnly _ s).stageKept (.refl s)
  case settleExpiry _ | failClearExpiry _ =>
    exact command_stageKept h fun s => .ite (enterRect_changedOnly _ _ s).stageKept (.refl s)
  case rampStep _ =>
    refine command_stageKept h fun s => ?_
    split
    · exact .ite (rotRamp_changedOnly _ _ s).stageKept (.refl s)
    · exact .refl s
  case genCheck _ => exact command_stageKept h fun s => .ite (gcoTick_changedOnly _ s).stageKept (.refl s)
  case startTimeout _ => exact command_stageKept h fun s => .ite (gcoStartFailure_changedOnly _ s).stageKept (.refl s)
  case restTimerExpiry _ => exact command_stageKept h fun s => .ite (gcoRestEnd_changedOnly _ s).stageKept (.refl s)
  case epochSettle _ => exact command_stageKept h fun s => .ite (gcoSettle_changedOnly _ s).stageKept (.refl s)
  case qualifyExpiry _ _ => exact command_stageKept h fun s => .ite (handPoint_changedOnly _ _ _ s).stageKept (.refl s)
  case pointTimer _ => exact command_stageKept h fun s => .ite (enqueuePoint_changedOnly s).stageKept (.refl s)
  case leanDwell _ => exact command_stageKept h fun s => .ite (tryLean_changedOnly _ s).stageKept (.refl s)
  case siteHoldEnd _ =>
    exact command_stageKept h fun s => .ite
      (((hsup _ s).trans (tryLean_changedOnly _ _).stageKept).trans (tryDormant_changedOnly _ _).stageKept) (.refl s)
  case dormantDwell _ => exact command_stageKept h fun s => .ite (tryDormant_changedOnly _ s).stageKept (.refl s)
  case entryWaitTimeout _ => exact command_stageKept h fun s => .ite (stopStation_stageKept _ s) (.refl s)
  case wakeTimer _ => exact command_stageKept h fun s => .ite (wakeUp_stageKept _ _ s) (.refl s)
  case sitePortWake _ => exact command_stageKept h (siteWake_stageKept _)
  case periodicWriteTimer _ =>
    exact command_stageKept h fun s => .ite ((hsup _ s).trans (triggerWrite_changedOnly _).stageKept) (.refl s)
  case retainedWriteEnd _ _ =>
    refine command_stageKept h fun s => ?_
    split
    · exact endWrite_stageKept _ _ _ s
    · exact .refl s
  case siteBadFrame _ why => exact command_stageKept h (siteBadFrame_stageKept _ why)
  case unknown _ code _ => exact command_stageKept h (siteUnknown_stageKept _ code)
  case statusRead _ args | pointsRead _ args => exact command_stageKept h (siteRequest_stageKept _ _ args .refl)
  case peerRead _ args => exact command_stageKept h (siteRequest_stageKept _ _ args (peerRead_stageKept _))
  case logRead _ args =>
    exact command_stageKept h (siteRequest_stageKept _ _ args fun s => (aluConsumeLog_changedOnly s).stageKept)
  case ack _ args => exact command_stageKept h (siteRequest_stageKept _ _ args fun s => (aluAck_changedOnly _ s).stageKept)
  case rectForceRun _ args | rectForceRest _ args | release _ args =>
    exact command_stageKept h (siteRequest_stageKept _ _ args (rectForce_stageKept _ _))
  case genTest _ args =>
    exact command_stageKept h (siteRequest_stageKept _ _ args fun s => answerOf_stageKept fun _ => gcoTest_stageKept _ _)
  case lockoutClear _ args =>
    exact command_stageKept h (siteRequest_stageKept _ _ args fun s => answerOf_stageKept fun _ => gcoClear_stageKept _)
  case equalizeStart _ args | equalizeStop _ args =>
    exact command_stageKept h (siteRequest_stageKept _ _ args (equalize_stageKept _ _))
  case resyncFull _ args =>
    exact command_stageKept h (siteRequest_stageKept _ _ args fun s => (sacFullResync_changedOnly _ s).stageKept)
  case forgetPeer _ args => exact command_stageKept h (siteRequest_stageKept _ _ args (forgetPeer_stageKept _ _))
  case restart _ args => exact command_stageKept h (siteRequest_stageKept _ _ args beginRestart_stageKept)
  case lineIdle _ | courtesySatisfied _ => exact command_stageKept h fun s => .ite (hpli _ s) (.refl s)
  case overrun _ | sitePortGap _ => exact command_stageKept h fun s => .ite (hsup _ s) (.refl s)

/-! ## The obligation -/

/-- Settles O12: every command keeps the stage with the contactor. -/
theorem theStageFollowsTheContactor : Obligations.TheStageFollowsTheContactor := fun s t hs h => by
  unfold step at h
  split at h
  · cases h
    exact hs
  · next c rest _ => exact exec_stageKept h hs

end Sys2Proof.Machine
end

section
/-! SUPPORT. O36: what a set makes of CSC, of the charge target and of the contactor (R52 to R66). -/
namespace Sys2Proof.Machine

set_option Elab.async false

variable {s t u : State} {b : CscSettings} {j : CscInput} {c : Csc}

/-! ## A hand-off of which one taker stands out -/

/-- A hand-off is the work of a taker named once, with the others before it and after it. -/
theorem fan_around (order : List Taker) {takers : List Taker} {f : Taker → State → State} {x : Taker}
    {R : State → State → Prop} (hx : x ∈ takers) (hnodup : takers.Nodup) (hrefl : ∀ s, R s s)
    (htrans : ∀ {s t u}, R s t → R t u → R s u) (h : ∀ y ∈ takers, y ≠ x → ∀ s, R s (f y s)) (s : State) :
    ∃ u, R s u ∧ R (f x u) (fan order takers f s) := by
  have hrow : ∀ ts : List Taker, (∀ y ∈ ts, y ∈ takers ∧ y ≠ x) → ∀ s, R s (ts.foldl (fun s y => f y s) s) := fun ts => by
    induction ts with
    | nil => exact fun _ s => hrefl s
    | cons y ts ih =>
      intro hts s
      obtain ⟨hy, hne⟩ := hts y List.mem_cons_self
      exact htrans (h y hy hne s) (ih (fun z hz => hts z (List.mem_cons_of_mem y hz)) _)
  have hmem : ∀ y ∈ arrange order takers, y ∈ takers := fun _ => mem_arrange.mp
  unfold fan
  replace hnodup : (arrange order takers).Nodup := (arrange_perm order takers).nodup_iff.mpr hnodup
  replace hx : x ∈ arrange order takers := mem_arrange.mpr hx
  generalize arrange order takers = ts at hnodup hx hmem
  obtain ⟨pre, post, rfl⟩ := List.append_of_mem hx
  obtain ⟨-, hpost, hpre⟩ := List.nodup_append.mp hnodup
  rw [List.foldl_append, List.foldl_cons]
  exact ⟨_, hrow pre (fun y hy => ⟨hmem y (by simp [hy]), hpre y hy x (by simp)⟩) s,
    hrow post (fun y hy => ⟨hmem y (by simp [hy]), fun hyx => (List.nodup_cons.mp hpost).1 (hyx ▸ hy)⟩) _⟩

/-- What the takers beside CSC, and CSC's own beside SDO, leave as it is: CSC, the machine's readings, the phase, the
contactor's operation and the charge target. -/
structure State.Aside (s t : State) : Prop where
  parts : s.ChangedOnly [.sac, .cbu, .alu, .sdo, .pli, .sup, .gco] t
  kept : s.KeepsBut [.idle, .entryWait] t
  output : State.SameOutput .strVref s t

namespace State.Aside

theorem refl (s : State) : s.Aside s := ⟨.refl s _, .refl s _, rfl, rfl⟩

theorem trans (h : s.Aside t) (g : t.Aside u) : s.Aside u :=
  ⟨h.parts.trans g.parts, h.kept.trans g.kept, sameOutput_passed.trans h.output g.output⟩

theorem operating (h : s.Aside t) : t.operating = s.operating := by
  obtain ⟨-, hphase, -⟩ := h.kept .schedule (by decide)
  rw [State.operating, hphase, State.operating]

theorem operation (h : s.Aside t) : t.sdo.operation = s.sdo.operation := (h.kept .contactor (by decide)).1

end State.Aside

theorem cscTakes_aside (order : List Taker) (old new : Csc) (manual : Option Direction) {x : Taker} (hx : x ≠ .sdo)
    (s : State) : s.Aside (cscTakes order old new manual x s) := by
  refine ⟨(cscTakes_changedOnly order old new manual x s).mono rfl, ?_, cscTakes_sameOutput (by decide) _ _ _ _ hx s⟩
  cases x with
  | sdo => exact absurd rfl hx
  | alu => exact (takeConditions_keeps _ _ s).mono rfl
  | log =>
    have hstage : s.KeepsBut [.idle, .entryWait]
        (if old.stage ≠ new.stage then logEntry .stage 0 (twoParts old.stage.code new.stage.code) s else s) :=
      .ite ((logEntry_keeps _ _ _ s).mono rfl) (.refl s _)
    cases manual with
    | none => exact hstage
    | some d => exact hstage.trans ((logEntry_keeps _ _ _ _).mono rfl)
  | sac => exact .ite ((sacOnAbsorbEnd_keepsBut _ s).mono rfl) (.refl s _)
  | cbu => exact .ite ((cbuOnEvent_keeps s).mono rfl) (.refl s _)
  | pli => exact .ite ((requestStatus_keeps s).mono rfl) (.refl s _)
  | sup => exact .ite ((supOnStage_keepsBut s).mono rfl) (.refl s _)
  | _ => exact .refl s _

theorem setTakes_aside (order : List Taker) (p number : Nat) {x : Taker} (hx : x ≠ .csc) (s : State) :
    s.Aside (setTakes order p number x s) := by
  cases x with
  | csc => exact absurd rfl hx
  | mch => exact ⟨(takeCondition_changedOnly _ _ s).mono rfl, (takeCondition_keeps _ _ s).mono rfl,
      sameOutput_blind.takeCondition order (by decide) s⟩
  | sac => exact ⟨(sacOnSet_changedOnly _ _ s).mono rfl, (sacOnSet_keepsBut _ _ s).mono rfl, sacOnSet_sameOutput _ _ s⟩
  | cbu => exact ⟨(cbuOnSet_changedOnly _ _ s).mono rfl, (cbuOnSet_keeps _ _ s).mono rfl,
      cbuOnSet_sameOutput (by decide) _ _ s⟩
  | alu => exact ⟨(aluOnSet_changedOnly _ s).mono rfl, (aluOnSet_keeps _ s).mono rfl, aluOnSet_sameOutput _ s⟩
  | _ => exact .refl s

/-- What CSC hands on is SDO's part of it, and what leaves CSC, the contactor and the target alone. -/
theorem cscHand_aside (order : List Taker) (old : Csc) (manual : Option Direction) (s : State) :
    ∃ u, s.Aside u ∧ (cscTakes order old s.csc manual .sdo u).Aside (cscHand order old manual s) := by
  rw [cscHand_eq]
  exact fan_around order (x := .sdo) (by decide) (by decide) State.Aside.refl State.Aside.trans
    (fun y _ hy u => cscTakes_aside order old s.csc manual hy u) s

/-- A set delivered is CSC's part of it, and what leaves CSC, the contactor and the target alone. -/
theorem deliverSet_aside (order : List Taker) (p number : Nat) (s : State) :
    ∃ u, s.Aside u ∧ (cscOnSet order p u).Aside (deliverSet order p number s) := by
  rw [deliverSet_eq]
  exact fan_around order (x := .csc) (by decide) (by decide) State.Aside.refl State.Aside.trans
    (fun y _ hy u => setTakes_aside order p number hy u) s

/-! ## What CSC hands to SDO (R53, R63, R66) -/

/-- While SDO drives, the charge target that CSC hands on is the output's (R23). -/
theorem cscHand_target (order : List Taker) (old : Csc) (manual : Option Direction)
    (hlive : (cscHand order old manual s).sdo.live = true) :
    (cscHand order old manual s).sdo.outputs.strVref.target = s.csc.target := by
  obtain ⟨u, -, hrest⟩ := cscHand_aside order old manual s
  obtain ⟨hsame, hout⟩ := hrest.output
  rw [hlive] at hsame
  unfold cscTakes at hsame hout
  dsimp only at hsame hout
  generalize (match newCommand old s.csc with | some d => contactorCommand d u | none => u) = v at hsame hout
  rw [writeTarget_sdo] at hsame
  rw [dacGet_writeTarget, if_pos rfl, ← hsame] at hout
  exact (congrArg Output.target hout).trans Output.written_target

/-- A command newly recorded begins its first attempt, where no operation is in flight and the contactor is qualified in the
other position (R26, R27). -/
theorem cscHand_operation (order : List Taker) {old : Csc} (manual : Option Direction) {d q : Direction}
    (hnew : newCommand old s.csc = some d) (hidle : s.sdo.operation = none) (hposition : s.position = some q) (hq : q ≠ d) :
    (cscHand order old manual s).sdo.operation =
      some { direction := d, attempt := 1, pulseStart := s.now, driven := true } := by
  obtain ⟨u, hu, hrest⟩ := cscHand_aside order old manual s
  have hnow : u.now = s.now := congrArg (· / 1000) hu.parts.clock
  have hcommand : contactorCommand d u = beginAttempt d 1 u := by
    unfold contactorCommand
    rw [if_neg (by rw [hu.operation, hidle]; decide), position_congr hu.parts.mch, hposition]
    exact if_neg hq
  rw [hrest.operation, cscTakes, hnew]
  dsimp only
  rw [hcommand, writeTarget_sdo, ← hnow]
  rfl

/-! ## CSC over a set (R52) -/

theorem cscLvd_hot (b : CscSettings) (j : CscInput) (c : Csc) : (cscLvd b j c).hot = c.hot := by
  unfold cscLvd
  split
  · split <;> rfl
  · rfl

theorem cscReconnect_hot (b : CscSettings) (j : CscInput) (c : Csc) : (cscReconnect b j c).hot = c.hot := by
  unfold cscReconnect
  split
  · split <;> rfl
  · rfl

theorem cscReconnect_lvdDwell (b : CscSettings) (j : CscInput) (c : Csc) : (cscReconnect b j c).lvdDwell = c.lvdDwell := by
  unfold cscReconnect
  split
  · split <;> rfl
  · rfl

/-- Out of ISOLATED no reconnect is judged (R66). -/
theorem cscReconnect_record_of_closed (b : CscSettings) (j : CscInput) (h : c.stage ≠ .isolated) :
    (cscReconnect b j c).record = c.record := by
  unfold cscReconnect
  rw [if_neg fun hmet => h hmet.1]

/-- A set in OPERATING before its target is recomputed. -/
def cscStepped (b : CscSettings) (j : CscInput) (c : Csc) : Csc :=
  cscReconnect b j (cscTransition b j (cscLvd b j (cscBefore b j c)))

theorem cscTakeSet_of_operating (b : CscSettings) (c : Csc) (hop : j.operating = true) :
    cscTakeSet b j c = cscTarget b j.t (cscDay b j.p (cscStepped b j c)) := by
  rw [cscTakeSet_eq, if_pos hop]
  rfl

theorem cscTakeSet_stage_of_operating (b : CscSettings) (c : Csc) (hop : j.operating = true) :
    (cscTakeSet b j c).stage = (cscTransition b j (cscLvd b j (cscBefore b j c))).stage := by
  rw [cscTakeSet_of_operating b c hop]
  exact (cscDay_stage b _ _).trans (cscReconnect_stage b j _)

theorem cscTakeSet_judged (b : CscSettings) (c : Csc) (hop : j.operating = true) :
    (cscTakeSet b j c).judged = (cscStepped b j c).judged := by
  rw [cscTakeSet_of_operating b c hop]
  exact cscDay_judged b j.p _

theorem cscTakeSet_hot (b : CscSettings) (c : Csc) (hop : j.operating = true) :
    (cscTakeSet b j c).hot =
      if c.hot then decide ((b.hotDC : Int) - 50 < j.t) else decide ((b.hotDC : Int) ≤ j.t) := by
  have hstepped : (cscStepped b j c).hot = (cscBefore b j c).hot :=
    (cscReconnect_hot b j _).trans ((congrArg Prod.fst (cscTransition_judged b j _)).trans (cscLvd_hot b j _))
  calc (cscTakeSet b j c).hot = (cscStepped b j c).hot := congrArg Prod.fst (cscTakeSet_judged b c hop)
    _ = (cscHot b j.t c).hot := hstepped.trans (congrArg Prod.fst (cscBefore_judged b j c))
    _ = _ := congrArg Prod.fst (cscHot_judged b j.t c)

/-- BULK ends at a string within 200 mV of the absorb target (R56). -/
theorem cscTakeSet_bulk (b : CscSettings) (hop : j.operating = true) (hbulk : c.stage = .bulk) {v : Int}
    (hv : j.strV = some v) :
    (cscTakeSet b j c).stage = .absorb ↔ (targetFor b b.absorbCell j.t : Int) - 200 ≤ v := by
  have hstage : (cscLvd b j (cscBefore b j c)).stage = .bulk :=
    (cscLvd_stage b j _).trans ((cscBefore_stage b j c).trans hbulk)
  rw [cscTakeSet_stage_of_operating b c hop, cscTransition, hstage]
  simp only [hv, meets, absorbTarget]
  split
  · next hmet => exact ⟨fun _ => of_decide_eq_true hmet, fun _ => rfl⟩
  · next hunmet => exact ⟨fun h => absurd (hstage.symm.trans h) (by decide), fun h => absurd (decide_eq_true h) hunmet⟩

theorem cscTakeSet_target (b : CscSettings) (j : CscInput) (c : Csc) :
    (cscTakeSet b j c).target = targetFor b (stageCell b (cscTakeSet b j c).stage (cscTakeSet b j c).hot) j.t := rfl

/-! ## The contactor's thresholds (R63, R66) -/

/-- A closed string at a set: the record and the LVD dwell are those that R63 gives. -/
theorem cscTakeSet_of_closed (b : CscSettings) (hop : j.operating = true) (hstage : c.stage ≠ .isolated) :
    (cscTakeSet b j c).record = (cscLvd b j (cscBefore b j c)).record ∧
      (cscTakeSet b j c).lvdDwell = (cscLvd b j (cscBefore b j c)).lvdDwell := by
  have hclosed : (cscTransition b j (cscLvd b j (cscBefore b j c))).stage ≠ .isolated := by
    rw [← cscTakeSet_stage_of_operating b c hop]
    exact mt (cscTakeSet_stage b j c).staysBy.1.mp hstage
  have hjudged := cscTakeSet_judged b c hop
  have htransition := cscTransition_judged b j (cscLvd b j (cscBefore b j c))
  simp only [Csc.judged, Prod.mk.injEq] at hjudged htransition
  obtain ⟨-, hrecord, hdwell, -⟩ := hjudged
  obtain ⟨-, htrecord, htdwell, -⟩ := htransition
  exact ⟨hrecord.trans ((cscReconnect_record_of_closed b j hclosed).trans htrecord),
    hdwell.trans ((cscReconnect_lvdDwell b j _).trans htdwell)⟩

/-- A string at or below lvd_mV to the end of the LVD dwell has OPEN recorded, and above it nothing. -/
theorem cscTakeSet_lvd (b : CscSettings) (hop : j.operating = true) (hstage : c.stage ≠ .isolated) (hrecord : c.record = none)
    (hdwell : b.lvdDwellS * 1000 ≤ c.lvdDwell + j.p) {v : Int} (hv : j.strV = some v) :
    (cscTakeSet b j c).record = (if v ≤ b.lvdMV then some .opening else none) ∧ (cscTakeSet b j c).lvdDwell = 0 := by
  obtain ⟨hfinal, hfinalDwell⟩ := cscTakeSet_of_closed b hop hstage
  have hbefore := (cscBefore_judged b j c).trans (cscHot_judged b j.t c)
  simp only [Csc.judged, Prod.mk.injEq] at hbefore
  obtain ⟨-, hbrecord, hbdwell, -⟩ := hbefore
  rw [hfinal, hfinalDwell, cscLvd]
  by_cases hlow : v ≤ b.lvdMV
  · have hmet : (cscBefore b j c).stage ≠ .isolated ∧ (cscBefore b j c).record = none ∧
        meets j.strV (fun v => decide (v ≤ b.lvdMV)) = true :=
      ⟨by rwa [cscBefore_stage], hbrecord.trans hrecord, by rw [hv]; exact decide_eq_true hlow⟩
    rw [if_pos hmet, if_pos (by rw [hbdwell]; exact hdwell), if_pos hlow]
    exact ⟨rfl, rfl⟩
  · have hunmet : ¬meets j.strV (fun v => decide (v ≤ b.lvdMV)) = true := by rw [hv]; exact mt of_decide_eq_true hlow
    rw [if_neg fun hmet => hunmet hmet.2.2, if_neg hlow]
    exact ⟨hbrecord.trans hrecord, rfl⟩

/-- An isolated string with a source, and a bus at or above reconnect_mV to the end of the reconnect dwell, has CLOSE
recorded. -/
theorem cscTakeSet_reconnect (b : CscSettings) (hop : j.operating = true) (hstage : c.stage = .isolated)
    (hrecord : c.record = none) (hdwell : b.reconnectDwellS * 1000 ≤ c.reconnectDwell + j.p)
    (hview : j.view ≠ .noSource) {v : Int} (hv : j.busV = some v) (hhigh : (b.reconnectMV : Int) ≤ v) :
    (cscTakeSet b j c).record = some .closing ∧ (cscTakeSet b j c).reconnectDwell = 0 := by
  have hbstage : (cscBefore b j c).stage = .isolated := (cscBefore_stage b j c).trans hstage
  have hbefore := (cscBefore_judged b j c).trans (cscHot_judged b j.t c)
  have hlvd : cscLvd b j (cscBefore b j c) = { cscBefore b j c with lvdDwell := 0 } := if_neg fun hmet => hmet.1 hbstage
  have htransition : cscTransition b j (cscLvd b j (cscBefore b j c)) = { cscBefore b j c with lvdDwell := 0 } := by
    rw [hlvd]
    unfold cscTransition
    simp only [hbstage]
  have hjudged := cscTakeSet_judged b c hop
  simp only [Csc.judged, Prod.mk.injEq] at hjudged hbefore
  obtain ⟨-, hfinal, -, hfinalDwell⟩ := hjudged
  obtain ⟨-, hbrecord, -, hbdwell⟩ := hbefore
  have hmet : (cscBefore b j c).stage = .isolated ∧ (cscBefore b j c).record = none ∧ j.view ≠ .noSource ∧
      meets j.busV (fun v => decide ((b.reconnectMV : Int) ≤ v)) = true :=
    ⟨hbstage, hbrecord.trans hrecord, hview, by rw [hv]; exact decide_eq_true hhigh⟩
  have hdone : b.reconnectDwellS * 1000 ≤ (cscBefore b j c).reconnectDwell + j.p := by rw [hbdwell]; exact hdwell
  rw [hfinal, hfinalDwell, cscStepped, htransition, cscReconnect, if_pos hmet, if_pos hdone]
  exact ⟨rfl, rfl⟩

/-! ## The command -/

/-- What a set in OPERATING leaves of CSC and SDO: CSC has taken the set with readings of `t`, its target is SDO's, and a
command that it has newly recorded begins. -/
structure State.StageTaken (s t : State) (p now : Nat) (j : CscInput) : Prop where
  period : j.p = p
  operating : j.operating = true
  strV : j.strV = t.channel .strV
  busV : j.busV = t.busV
  temp : j.t = t.stringT
  view : j.view = s.ptb.view
  csc : t.csc = cscTakeSet s.settings.csc j s.csc
  target : t.sdo.live = true → t.sdo.outputs.strVref.target = t.csc.target
  idle : s.sdo.operation = none → newCommand s.csc t.csc = none → t.sdo.operation = none
  begun : s.sdo.operation = none → ∀ d q, newCommand s.csc t.csc = some d → s.position = some q → q ≠ d →
    t.sdo.operation = some { direction := d, attempt := 1, pulseStart := now, driven := true }

theorem deliverSet_stageTaken (order : List Taker) (p number : Nat) (hop : s.operating = true) :
    ∃ j, s.StageTaken (deliverSet order p number s) p s.now j := by
  obtain ⟨u, hbefore, hafter⟩ := deliverSet_aside order p number s
  generalize deliverSet order p number s = t at hafter
  have hcscOnSet := cscOnSet_changedOnly order p u
  have hcsc : t.csc = cscTakeSet u.settings.csc (u.cscInput p) u.csc := by rw [hafter.parts.csc, cscOnSet, cscHand_csc]; rfl
  have hmch : t.mch = u.mch := hafter.parts.mch.trans hcscOnSet.mch
  have hposition : u.position = s.position := position_congr hbefore.parts.mch
  have hnow : u.now = s.now := congrArg (· / 1000) hbefore.parts.clock
  have hchannel : ∀ ch, u.channel ch = t.channel ch := fun ch => by rw [State.channel, ← hmch, State.channel]
  have hnew : newCommand s.csc t.csc = newCommand u.csc (u.onCsc (cscTakeSet u.settings.csc (u.cscInput p))).csc := by
    rw [hcsc, ← hbefore.parts.csc]
    rfl
  refine ⟨u.cscInput p, rfl, hbefore.operating.trans hop, hchannel _, ?_, ?_, ?_, ?_, fun hlive => ?_, fun hidle hno => ?_,
    fun hidle d q hd hq hne => ?_⟩
  · change u.busV = t.busV
    rw [State.busV, State.busV, hchannel, hchannel, position_congr hmch]
  · change u.stringT = t.stringT
    rw [State.stringT, ← hmch, State.stringT]
  · change u.ptb.view = s.ptb.view
    rw [hbefore.parts.ptb]
  · rw [hcsc, hbefore.parts.csc, hbefore.parts.settings]
  · obtain ⟨hsame, hout⟩ := hafter.output
    rw [hlive] at hsame
    rw [hafter.parts.csc, cscOnSet, cscHand_csc, ← cscHand_target order u.csc none hsame.symm]
    exact congrArg Output.target hout
  · have hside := cscHand_side order (hnew ▸ hno) none
    simp only [State.side, Prod.mk.injEq] at hside
    obtain ⟨hkept, -⟩ := hside
    exact (hafter.operation.trans hkept).trans (hbefore.operation.trans hidle)
  · rw [← hnow]
    exact hafter.operation.trans (cscHand_operation order none (hnew ▸ hd) (hbefore.operation.trans hidle)
      (hposition.trans hq) hne)

/-- A set in OPERATING, with what it can change. -/
theorem measurementSet_stageTaken (w : Moment) (sums : PerChannel Nat) {p : Nat} (hop : s.operating = true)
    (hperiod : s.mch.period = some p) (hfit : s.sumsFit sums = true) :
    ∃ t j, exec (.measurementSet w sums) s = .next t ∧ s.StageTaken t p (s.upTo w).now j ∧
      (s.upTo w).ChangedOnly [.mch, .sac, .csc, .cbu, .alu, .sdo, .pli, .sup, .gco] t := by
  have hphase : s.sup.phase = .operating := by simpa [State.operating] using hop
  have hawake : s.awake = true := by rw [State.awake, hphase]
  obtain ⟨u, hu⟩ : ∃ u, u = (s.upTo w).onMch (mchEndPeriod p s.sup.mode sums) := ⟨_, rfl⟩
  have huop : u.operating = true := by rw [hu, State.operating, State.onMch_sup, upTo_sup, hphase]; rfl
  have huposition : u.position = s.position := by
    rw [hu, State.position, State.contact, State.onMch_mch, upTo_mch]
    rfl
  obtain ⟨t, hexec, -, hchanged⟩ := exec_measurementSet w sums hawake hperiod hfit
  obtain ⟨j, htaken⟩ := deliverSet_stageTaken w.order p s.mch.nextNumber huop
  have hend : t = deliverSet w.order p s.mch.nextNumber u := by
    rw [exec, execMeasurementSet, if_pos hfit, command_eq] at hexec
    have hstays : (deliverSet w.order p s.mch.nextNumber u).sup.phase ≠ .check := by
      obtain ⟨-, hkept, -⟩ := deliverSet_keepsBut w.order p s.mch.nextNumber u .schedule (by decide)
      rw [hkept, hu, State.onMch_sup, upTo_sup, hphase]
      decide
    simp only [endPeriod, upTo_mch, hperiod, upTo_awake, hawake, if_true, upTo_sup] at hexec
    rw [← hu, leaveCheck_of_phase _ hstays] at hexec
    cases hexec
    rfl
  rw [← hend] at htaken
  obtain ⟨hp, hjop, hstrV, hbusV, htemp, hview, hcsc, htarget, hidle, hbegun⟩ := htaken
  have hucsc : u.csc = s.csc := by rw [hu, State.onMch_csc, upTo_csc]
  have husettings : u.settings = s.settings := by rw [hu, State.onMch_settings, upTo_settings]
  have huptb : u.ptb = s.ptb := by rw [hu, State.onMch_ptb, upTo_ptb]
  have husdo : u.sdo = s.sdo := by rw [hu, State.onMch_sdo, upTo_sdo]
  have hunow : u.now = (s.upTo w).now := by rw [hu]; rfl
  rw [hucsc, husettings] at hcsc
  rw [huptb] at hview
  rw [hucsc, husdo] at hidle hbegun
  rw [huposition, hunow] at hbegun
  exact ⟨t, j, hexec, ⟨hp, hjop, hstrV, hbusV, htemp, hview, hcsc, htarget, hidle, hbegun⟩, hchanged⟩

/-! ## The obligation -/

/-- A bus voltage of its own is BUS_V's reading. -/
theorem State.busV_of_channel {v : Int} (h : s.channel .busV = some v) : s.busV = some v := by
  rw [State.busV, h]

/-- Settles O36: CSC takes the set with the readings that the set leaves, and hands SDO its target and its command. -/
theorem aSetMovesTheStageOneStep : Obligations.ASetMovesTheStageOneStep := by
  refine ⟨?_, ?_, ?_⟩
  · intro w s sums p hop hperiod hfit
    obtain ⟨t, j, hexec, htaken, hchanged⟩ := measurementSet_stageTaken w sums hop hperiod hfit
    refine ⟨t, hexec, ?_, ?_, fun hbulk v hv => ?_, ?_, htaken.target, hchanged⟩
    all_goals rw [htaken.csc]
    · exact cscTakeSet_stage _ _ _
    · rw [cscTakeSet_hot _ _ htaken.operating, htaken.temp]
    · rw [cscTakeSet_bulk _ htaken.operating hbulk (htaken.strV.trans hv), htaken.temp]
    · rw [cscTakeSet_target, htaken.temp]
  · intro w s sums p hop hperiod hfit hstage hrecord hdwell hidle hposition
    obtain ⟨t, j, hexec, htaken, hchanged⟩ := measurementSet_stageTaken w sums hop hperiod hfit
    have hnew : newCommand s.csc t.csc = t.csc.record := if_pos hrecord
    have hlvd : ∀ v, t.channel .strV = some v →
        t.csc.record = (if v ≤ s.settings.csc.lvdMV then some .opening else none) ∧ t.csc.lvdDwell = 0 := fun v hv => by
      rw [htaken.csc]
      exact cscTakeSet_lvd _ htaken.operating hstage hrecord (by rw [htaken.period]; exact hdwell) (htaken.strV.trans hv)
    refine ⟨t, hexec, fun v hv hlow => ?_, fun v hv habove => ?_, hchanged⟩
    · obtain ⟨hopen, hreset⟩ := hlvd v hv
      rw [if_pos hlow] at hopen
      exact ⟨hopen, hreset, htaken.begun hidle _ _ (hnew.trans hopen) hposition (by decide)⟩
    · obtain ⟨hnone, hreset⟩ := hlvd v hv
      rw [if_neg (not_le.mpr habove)] at hnone
      exact ⟨hnone, hreset, htaken.idle hidle (hnew.trans hnone)⟩
  · intro w s sums p hop hperiod hfit hstage hrecord hdwell hview hidle hposition
    obtain ⟨t, j, hexec, htaken, hchanged⟩ := measurementSet_stageTaken w sums hop hperiod hfit
    refine ⟨t, hexec, fun v hv hhigh => ?_, hchanged⟩
    have hbus : j.busV = some v := htaken.busV.trans (State.busV_of_channel hv)
    obtain ⟨hclose, hreset⟩ := cscTakeSet_reconnect s.settings.csc htaken.operating hstage hrecord
      (by rw [htaken.period]; exact hdwell) (by rw [htaken.view]; exact hview) hbus hhigh
    rw [← htaken.csc] at hclose hreset
    exact ⟨hclose, hreset, htaken.begun hidle _ _ ((if_pos hrecord).trans hclose) hposition (by decide)⟩

end Sys2Proof.Machine
end

section
/-! SUPPORT. O58: EQUALIZE, FORGET_PEER and RESTART at a station that nothing stands in the way of (R59, R101, R184). -/
namespace Sys2Proof.Machine

set_option Elab.async false

variable {s t u : State} {parts : List Part} {w : Moment} {a : Answer}

/-! ## A request at a plain station (R185, R186) -/

theorem heldOpen_phase (s : State) (w : Moment) : (s.upTo w).heldOpen.sup.phase = s.sup.phase := by
  rw [State.heldOpen, State.onSup_sup, upTo_sup]

theorem heldOpen_number (s : State) (w : Moment) : (s.upTo w).heldOpen.sup.number = s.sup.number := by
  rw [State.heldOpen, State.onSup_sup, upTo_sup]

/-- A request of the right length is answered by its owner, on the state with the site hold started again. -/
theorem command_siteRequest_of_plain {c : SiteCommand} {args : List Byte} (owner : State → Answer) (h : s.SitePlain)
    (hlength : args.length = c.argLength) (hphase : (owner (s.upTo w).heldOpen).after.sup.phase = s.sup.phase) :
    command w (siteRequest w.order c args owner) s = .next (respond c (owner (s.upTo w).heldOpen)) := by
  obtain ⟨-, hsteady, -⟩ := id h
  rw [command_eq, siteRequest_of_plain w.order owner (h.upTo w) hlength, leaveCheck_of_phase]
  rw [respond_sup]
  exact hphase ▸ hsteady

/-- A request changes what its owner changes, and with the answer SUP and ALU. -/
theorem respond_changedOnly_upTo (c : SiteCommand) (h : (s.upTo w).heldOpen.ChangedOnly parts a.after) :
    (s.upTo w).ChangedOnly (.sup :: .alu :: parts) (respond c a) := by
  have hwiden : ∀ {x y : State} {l : List Part}, (∀ p ∈ l, p ∈ Part.sup :: .alu :: parts) → x.ChangedOnly l y →
      x.ChangedOnly (.sup :: .alu :: parts) y := fun hl hxy p hp => hxy p fun hm => hp (hl p hm)
  exact ((hwiden (by simp) (onSup_changedOnly _ _)).trans (hwiden (by simp_all) h)).trans
    (hwiden (by simp) (respond_changedOnly c a))

theorem respond_logKept (c : SiteCommand) (a : Answer) : a.after.LogKept (respond c a) := by
  unfold respond
  split
  · exact .of_alu rfl
  · exact .trans (.of_alu rfl) (logEntry_keeps _ _ _ _ .log (by decide))

/-- An entry that the owner makes is among those that the request appends. -/
theorem State.Enters.logged_upTo {kind : LogKind} {origin value : Nat} (c : SiteCommand)
    (h : (s.upTo w).heldOpen.Enters a.after kind origin value) : (s.upTo w).Logged (respond c a) kind origin value :=
  State.Enters.logged (.after (.of_alu rfl) (h.before (respond_logKept c a)))

/-- Where the owner leaves SUP, the hold and the response alone have changed it. -/
theorem respond_sup_of_kept (c : SiteCommand) (h : a.after.sup = s.sup) :
    (respond c a).sup = { s.sup with response := (respond c a).sup.response } := by
  rw [respond_sup, h]

/-- A request that its owner takes is answered OK, and its entry is the last. -/
theorem respond_ok {c : SiteCommand} (hc : c.isRead = false) (s : State) :
    (respond c (okAnswer s)).Answered c .ok none ∧ (respond c (okAnswer s)).LoggedLast c .ok :=
  ⟨respond_answered c (okAnswer s), respond_loggedLast hc (okAnswer s)⟩

/-! ## EQUALIZE (R59) -/

theorem cscEqualizeStop_of_ne (order : List Taker) (h : s.csc.stage ≠ .equalize) :
    cscEqualizeStop order s = s.onCsc fun c => { c with eqDue := false } := by
  unfold cscEqualizeStop
  dsimp only
  rw [if_neg h]
  exact if_pos rfl

/-- An equalize that is stopped: FLOAT with its own target, and no equalize due. -/
def State.equalizeStopped (s : State) : Csc :=
  { s.csc with stage := .float, stageTimer := 0, tailDwell := 0, eqDue := false
               target := targetFor s.settings.csc s.settings.csc.floatCell s.stringT }

theorem cscEqualizeStop_of_equalize (order : List Taker) (h : s.csc.stage = .equalize) :
    cscEqualizeStop order s = cscHand order s.csc none (s.onCsc fun _ => s.equalizeStopped) := by
  have hcell : ∀ (b : CscSettings) (hot : Bool), stageCell b .float hot = b.floatCell := fun b hot => by cases hot <;> rfl
  have htarget : cscTarget s.settings.csc s.stringT (enterStage .float { s.csc with eqDue := false }) =
      s.equalizeStopped := by
    simp only [cscTarget, enterStage, hcell, State.equalizeStopped]
  unfold cscEqualizeStop
  dsimp only
  rw [if_pos h, stageEvent, if_neg (by rw [h]; exact nofun), htarget]

theorem takeCondition_length (order : List Taker) (id : Nat) (s : State) :
    (takeCondition order id s).alu.points.length = s.alu.points.length := by
  unfold takeCondition
  dsimp only
  split
  · rw [handPoint_points, pointSet, List.length_set]
  · rfl

theorem takeConditions_length (order : List Taker) (ids : List Nat) (s : State) :
    (takeConditions order ids s).alu.points.length = s.alu.points.length := by
  induction ids generalizing s with
  | nil => rfl
  | cons id ids ih => exact (ih _).trans (takeCondition_length order id s)

/-- CSC, the points and whether ALU runs are as before. -/
def State.PointsKept (s t : State) : Prop :=
  t.csc = s.csc ∧ t.alu.running = s.alu.running ∧ t.alu.points = s.alu.points

theorem State.ChangedOnly.pointsKept (h : s.ChangedOnly parts t) (hcsc : .csc ∉ parts := by decide)
    (halu : .alu ∉ parts := by decide) : s.PointsKept t := ⟨h.csc hcsc, by rw [h.alu halu], by rw [h.alu halu]⟩

theorem State.PointsKept.refl (s : State) : s.PointsKept s := ⟨rfl, rfl, rfl⟩

theorem State.PointsKept.trans (h : s.PointsKept t) (g : t.PointsKept u) : s.PointsKept u :=
  ⟨g.1.trans h.1, g.2.1.trans h.2.1, g.2.2.trans h.2.2⟩

theorem State.PointsKept.iteRefl {c : Prop} [Decidable c] (h : s.PointsKept t) : s.PointsKept (if c then t else s) := by
  split
  · exact h
  · exact .refl s

/-- Of what CSC hands on, the points are ALU's alone where ABSORB has not been left. -/
theorem cscTakes_pointsKept (order : List Taker) {old : Csc} (new : Csc) (hold : old.stage ≠ .absorb) {x : Taker}
    (hx : x ≠ .alu) (s : State) : s.PointsKept (cscTakes order old new none x s) := by
  cases x with
  | alu => exact absurd rfl hx
  | sdo =>
    refine .trans (t := match newCommand old new with | some d => contactorCommand d s | none => s) ?_
      (writeTarget_changedOnly _ _ _).pointsKept
    split
    · exact (contactorCommand_changedOnly _ s).pointsKept
    · exact .refl s
  | log => exact .iteRefl ⟨(logEntry_changedOnly _ _ _ s).csc, logEntry_keeps _ _ _ s .running (by decide), logEntry_points ..⟩
  | sac =>
    rw [show cscTakes order old new none .sac s = s from if_neg fun hleft => hold hleft.1]
    exact .refl s
  | cbu => exact .iteRefl (cbuOnEvent_changedOnly s).pointsKept
  | pli => exact .iteRefl (requestStatus_changedOnly s).pointsKept
  | sup => exact .iteRefl (supOnStage_changedOnly s).pointsKept
  | _ => exact .refl s

/-- Point 24 follows the stage that CSC hands on (R160), where ABSORB has not been left. -/
theorem cscHand_equalize (order : List Taker) {old : Csc} (hold : old.stage ≠ .absorb) (hrun : s.alu.running = true)
    (hlen : s.alu.points.length = 32) :
    (pointGet (cscHand order old none s).alu.points 24).condition = (s.csc.stage == .equalize) := by
  obtain ⟨u, ⟨hcsc, hurun, hpoints⟩, -, -, hafter⟩ := fan_around order (takers := [.sdo, .alu, .log, .sac, .cbu, .pli, .sup])
    (f := cscTakes order old s.csc none) (x := .alu) (by decide) (by decide) State.PointsKept.refl State.PointsKept.trans
    (fun y _ hy u => cscTakes_pointsKept order s.csc hold hy u) s
  have hlast : cscTakes order old s.csc none .alu u = takeCondition order 24 (takeConditions order [4, 5, 6, 7] u) := rfl
  have hkept : (takeConditions order [4, 5, 6, 7] u).alu.running = u.alu.running :=
    takeConditions_keeps order _ u .running (by decide)
  have htrun : (takeConditions order [4, 5, 6, 7] u).alu.running = true := hkept.trans (hurun.trans hrun)
  rw [cscHand_eq, hafter, hlast,
    condition_takeCondition_same order _ htrun (by rw [takeConditions_length, hpoints, hlen]; decide)]
  change ((takeConditions order [4, 5, 6, 7] u).csc.stage == .equalize) = _
  rw [(takeConditions_changedOnly order _ u).csc, hcsc]

/-- A stage left makes its entry (R188). -/
theorem cscHand_enters_stage (order : List Taker) {old : Csc} (hmoved : old.stage ≠ s.csc.stage) :
    s.Enters (cscHand order old none s) .stage 0 (twoParts old.stage.code s.csc.stage.code) := by
  have hlog : ∀ u : State, cscTakes order old s.csc none .log u =
      logEntry .stage 0 (twoParts old.stage.code s.csc.stage.code) u := fun u => if_pos hmoved
  rw [cscHand_eq]
  exact fan_enters order (I := fun _ => True) .log (by decide) (fun _ _ _ _ _ => trivial)
    (fun u _ => by rw [hlog]; exact logEntry_enters _ _ _ u) (fun x _ u => cscTakes_logKept order old s.csc none x u) trivial

/-- STOP in EQUALIZE: FLOAT is entered with its entry and handed on to SDO and to point 24. -/
theorem cscEqualizeStop_ends (order : List Taker) (h : s.csc.stage = .equalize) :
    (cscEqualizeStop order s).csc = s.equalizeStopped ∧
      s.Enters (cscEqualizeStop order s) .stage 0 (twoParts 5 4) ∧
      ((cscEqualizeStop order s).sdo.live = true →
        (cscEqualizeStop order s).sdo.outputs.strVref.target = (cscEqualizeStop order s).csc.target) ∧
      (s.alu.running = true → s.alu.points.length = 32 →
        (pointGet (cscEqualizeStop order s).alu.points 24).condition = false) := by
  have henters := cscHand_enters_stage order (s := s.onCsc fun _ => s.equalizeStopped) (old := s.csc)
    (by rw [h]; exact nofun)
  rw [h] at henters
  rw [cscEqualizeStop_of_equalize order h, cscHand_csc]
  exact ⟨rfl, henters.after (.of_alu rfl), cscHand_target order s.csc none, fun hrun hlen =>
    cscHand_equalize order (s := s.onCsc fun _ => s.equalizeStopped) (by rw [h]; decide) hrun hlen⟩

/-! ## FORGET_PEER (R101) -/

/-- Without a change from ABSORB to FLOAT a stage event leaves the accountant (R43). -/
theorem stageEvent_sac (order : List Taker) {new : Csc} (manual : Option Direction)
    (h : s.csc.stage = .absorb → new.stage ≠ .float) : (stageEvent order new manual s).sac = s.sac := by
  unfold stageEvent
  split
  · rfl
  · rw [cscHand_sac]
    exact Sac.overStage_of_ne (by by_cases habsorb : s.csc.stage = .absorb
                                  · exact .inr (h habsorb)
                                  · exact .inl habsorb) _

/-- No change of the source view ends ABSORB in FLOAT (R55). -/
theorem cscOnView_sac (order : List Taker) (old : SourceView) (s : State) : (cscOnView order old s).sac = s.sac := by
  have hdwell : (if s.ptb.view = .noSource then { s.csc with reconnectDwell := 0 } else s.csc).stage = s.csc.stage := by
    split <;> rfl
  unfold cscOnView
  dsimp only
  split
  · refine stageEvent_sac order none fun habsorb => ?_
    rw [habsorb] at hdwell
    generalize (if s.ptb.view = .noSource then { s.csc with reconnectDwell := 0 } else s.csc) = c at hdwell ⊢
    obtain ⟨hin, -⟩ :=
      enterUnlessIn (if c.stage = .discharge ∧ old ≠ .noSource then c.stage else stageOnView s.ptb.view c.stage) c
    rw [hin, hdwell]
    exact stageOnView_absorb s.ptb.view
  · rfl

theorem sac_iteRefl {c : Prop} [Decidable c] (h : t.sac = s.sac) : (if c then t else s).sac = s.sac := by
  split
  · exact h
  · rfl

theorem recomputeViews_sac (order : List Taker) (s : State) : (recomputeViews order s).sac = s.sac := by
  refine sac_iteRefl (fan_induction order (P := fun u => u.sac = s.sac) ?_ (s.onPtb _) rfl)
  simp only [List.forall_mem_cons]
  exact ⟨fun u hu => (sac_iteRefl (cscOnView_sac order _ u)).trans hu, fun u hu => (sac_iteRefl (cbuOnEvent_changedOnly u).sac).trans hu,
    fun u hu => (sac_iteRefl (rotOnView_changedOnly order u).sac).trans hu,
    fun u hu => (sac_iteRefl (gcoOnView_changedOnly order u).sac).trans hu,
    fun u hu => (sac_iteRefl (requestStatus_changedOnly u).sac).trans hu,
    fun u hu => (sac_iteRefl (supOnView_changedOnly order u).sac).trans hu,
    fun u hu => (takeCondition_changedOnly order _ u).sac.trans hu,
    fun u hu => (sac_iteRefl (gcoOnKnowledge_changedOnly order u).sac).trans hu, List.forall_mem_nil _⟩

theorem forgetRecord_sac (order : List Taker) (p : PeerRecord) (s : State) : (forgetRecord order p s).sac = s.sac := by
  refine fan_induction order (P := fun u => u.sac = s.sac) ?_ (s.onPtb _) rfl
  simp only [List.forall_mem_cons]
  exact ⟨fun u hu => (logEntry_changedOnly .peer _ _ u).sac.trans hu,
    fun u hu => ((sac_iteRefl (aluRecompute_changedOnly order _).sac).trans (takeConditions_changedOnly order _ u).sac).trans hu,
    fun u hu => (sac_iteRefl (recomputeViews_sac order u)).trans hu, fun _ hu => hu, fun _ hu => hu, fun _ hu => hu,
    List.forall_mem_nil _⟩

/-- A change of `parts` and the accountant's that leaves the accountant is one of `parts`. -/
theorem State.ChangedOnly.of_sac (h : s.ChangedOnly (.sac :: parts) t) (hsac : t.sac = s.sac) : s.ChangedOnly parts t :=
  fun p hp => by
    by_cases hp' : p = .sac
    · subst hp'; exact hsac.symm
    · exact h p (by simp [hp, hp'])

theorem forgetRecord_changedOnly_of_sac (order : List Taker) (p : PeerRecord) (s : State) :
    s.ChangedOnly [.ptb, .csc, .cbu, .rot, .gco, .pli, .sup, .alu, .sdo] (forgetRecord order p s) :=
  .of_sac ((forgetRecord_changedOnly order p s).mono rfl) (forgetRecord_sac order p s)

/-- A record forgotten is no longer in the table, and the others are (R101). -/
theorem forgetRecord_peers (order : List Taker) (p : PeerRecord) (s : State) :
    (forgetRecord order p s).ptb.peers = s.ptb.peers.filter fun x => x.station != p.station :=
  peerHand_keepsBut order _ _ _ (fun _ s => .refl s _)
    (s.onPtb fun t => { t with peers := dropPeer t.peers p.station }) .peers (by decide)

/-- The entry of a record removed (R188). -/
theorem forgetRecord_enters (order : List Taker) (p : PeerRecord) (s : State) :
    s.Enters (forgetRecord order p s) .peer p.station (twoParts p.state.code 0) := by
  have hviews : ∀ u : State, u.LogKept (if p.wired then recomputeViews order u else u) := fun u => by
    split
    · exact recomputeViews_keepsBut order u .log (by decide)
    · exact .of_alu rfl
  refine .after (t := s.onPtb fun t => { t with peers := dropPeer t.peers p.station }) (.of_alu rfl)
    (fan_enters order (I := fun _ => True) .log (by decide) (fun _ _ _ _ _ => trivial)
      (fun u _ => logEntry_enters _ _ _ u) ?_ trivial)
  simp only [List.forall_mem_cons]
  exact ⟨fun u => logEntry_keeps _ _ _ u .log (by decide),
    fun u => ((takeConditions_keeps order _ u).trans (aluRecompute_keeps order _)) .log (by decide),
    hviews, fun _ => .of_alu rfl, fun _ => .of_alu rfl, fun _ => .of_alu rfl, List.forall_mem_nil _⟩

theorem station_of_findPeer {ps : List PeerRecord} {n : Nat} {p : PeerRecord} (h : findPeer ps n = some p) :
    p.station = n := by
  simpa using List.find?_some h

/-! ## RESTART (R84, R184) -/

theorem enqueueSlot_kinds (k : NoteKind) (payload : List Byte) (sending : Bool) (q : List Slot) :
    (enqueueSlot k payload sending q).map (·.kind) =
      if k ∈ q.map (·.kind) then q.map (·.kind) else q.map (·.kind) ++ [k] := by
  induction q generalizing sending with
  | nil => rfl
  | cons x q ih =>
    unfold enqueueSlot
    by_cases hx : x.kind = k
    · simp [hx]
    · rw [if_neg hx, List.map_cons, List.map_cons, ih]
      simp only [List.mem_cons, Ne.symm hx, false_or]
      split <;> rfl

theorem enqueueSlot_holds (k : NoteKind) (payload : List Byte) (sending : Bool) (q : List Slot) :
    ∃ x ∈ enqueueSlot k payload sending q, x.kind = k ∧ x.payload = payload := by
  induction q generalizing sending with
  | nil => exact ⟨_, List.mem_singleton_self _, rfl, rfl⟩
  | cons x q ih =>
    unfold enqueueSlot
    split
    · next hx => exact ⟨_, List.mem_cons_self, hx, rfl⟩
    · obtain ⟨y, hy, hnote⟩ := ih false
      exact ⟨y, List.mem_cons_of_mem x hy, hnote⟩

/-- While transmission is granted a note takes its kind's slot, or a new one at the end (R84). -/
theorem enqueue_enqueuedTo (k : NoteKind) (payload : List Byte) (h : s.pli.granted = true) :
    s.pli.EnqueuedTo k payload (enqueue k payload s).pli := by
  rw [enqueue, if_pos h]
  exact ⟨enqueueSlot_holds k payload _ _, enqueueSlot_kinds k payload _ _⟩

theorem beginRestart_changedOnly (s : State) : s.ChangedOnly [.pli, .sup] (beginRestart s) :=
  (((enqueue_changedOnly _ _ s).mono rfl).trans ((triggerWrite_changedOnly _).mono rfl)).trans
    ((onSup_changedOnly _ _).mono rfl)

/-- A restart takes its QUIET as the queue has it, with the write prompted beside it. -/
theorem beginRestart_pli (s : State) : (beginRestart s).pli = (enqueue .quiet [2] s).pli :=
  (triggerWrite_changedOnly (enqueue .quiet [2] s)).pli

/-! ## The obligation -/

section
variable {n : Byte} {p : PeerRecord}

theorem equalizeStart_acts (hplain : s.SitePlain) :
    ∃ t, exec (.equalizeStart w [1]) s = .next t ∧ t.csc = { s.csc with eqDue := true } ∧
      t.Answered .equalize .ok none ∧ t.LoggedLast .equalize .ok ∧
      t.sup = { (s.upTo w).heldOpen.sup with response := t.sup.response } ∧
      (s.upTo w).ChangedOnly [.csc, .alu, .sup] t := by
  have hstart := cscEqualizeStart_changedOnly (s.upTo w).heldOpen
  obtain ⟨hanswered, hlogged⟩ := respond_ok (c := .equalize) rfl (cscEqualizeStart (s.upTo w).heldOpen)
  refine ⟨_, command_siteRequest_of_plain (equalize w.order 1) hplain rfl (heldOpen_phase s w), ?_, hanswered,
    hlogged, respond_sup_of_kept _ rfl, (respond_changedOnly_upTo .equalize hstart).mono rfl⟩
  rw [(respond_changedOnly _ _).csc]
  exact congrArg (fun c : Csc => { c with eqDue := true }) (upTo_csc s w)

theorem equalizeStop_acts_of_ne (hplain : s.SitePlain) (hstage : s.csc.stage ≠ .equalize) :
    ∃ t, exec (.equalizeStop w [2]) s = .next t ∧ t.csc = { s.csc with eqDue := false } ∧
      t.Answered .equalize .ok none ∧ t.LoggedLast .equalize .ok ∧
      t.sup = { (s.upTo w).heldOpen.sup with response := t.sup.response } ∧
      (s.upTo w).ChangedOnly [.csc, .alu, .sup] t := by
  have hstop : equalize w.order 2 (s.upTo w).heldOpen =
      okAnswer ((s.upTo w).heldOpen.onCsc fun c => { c with eqDue := false }) :=
    congrArg okAnswer (cscEqualizeStop_of_ne w.order (by simpa [State.heldOpen] using hstage))
  have hexec := command_siteRequest_of_plain (w := w) (c := .equalize) (args := [2]) (equalize w.order 2) hplain rfl
    (by rw [hstop]; exact heldOpen_phase s w)
  rw [hstop] at hexec
  obtain ⟨hanswered, hlogged⟩ := respond_ok (c := .equalize) rfl
    ((s.upTo w).heldOpen.onCsc fun c => { c with eqDue := false })
  refine ⟨_, hexec, ?_, hanswered, hlogged, respond_sup_of_kept _ rfl,
    (respond_changedOnly_upTo .equalize (onCsc_changedOnly _ _)).mono rfl⟩
  rw [(respond_changedOnly _ _).csc]
  exact congrArg (fun c : Csc => { c with eqDue := false }) (upTo_csc s w)

theorem heldOpen_equalizeStopped (s : State) (w : Moment) : (s.upTo w).heldOpen.equalizeStopped = s.equalizeStopped := by
  rw [State.equalizeStopped, State.equalizeStopped, State.stringT, State.heldOpen, State.onSup_csc, State.onSup_settings,
    State.onSup_mch, upTo_csc, upTo_settings, upTo_mch]
  rfl

theorem equalizeStop_acts_of_equalize (hplain : s.SitePlain) (hstage : s.csc.stage = .equalize) :
    ∃ t, exec (.equalizeStop w [2]) s = .next t ∧ t.csc = s.equalizeStopped ∧ t.Answered .equalize .ok none ∧
      (s.upTo w).Logged t .stage 0 (twoParts 5 4) ∧
      (t.sdo.live = true → t.sdo.outputs.strVref.target = t.csc.target) ∧
      (s.alu.running = true → s.alu.points.length = 32 → (pointGet t.alu.points 24).condition = false) ∧
      (s.upTo w).ChangedOnly [.csc, .sdo, .alu, .sac, .cbu, .pli, .sup] t := by
  obtain ⟨hcsc, henters, htarget, hpoint⟩ := cscEqualizeStop_ends w.order (s := (s.upTo w).heldOpen)
    (by rw [State.heldOpen, State.onSup_csc, upTo_csc, hstage])
  obtain ⟨-, hphase, -⟩ := cscEqualizeStop_keepsBut w.order (s.upTo w).heldOpen .schedule (by decide)
  have hresponds := respond_changedOnly .equalize (okAnswer (cscEqualizeStop w.order (s.upTo w).heldOpen))
  obtain ⟨hanswered, -⟩ := respond_ok (c := .equalize) rfl (cscEqualizeStop w.order (s.upTo w).heldOpen)
  refine ⟨_, command_siteRequest_of_plain (equalize w.order 2) hplain rfl (hphase.trans (heldOpen_phase s w)),
    hresponds.csc.trans (hcsc.trans (heldOpen_equalizeStopped s w)), hanswered,
    State.Enters.logged_upTo .equalize (a := okAnswer _) henters, fun hlive => ?_, fun hrun hlen => ?_,
    (respond_changedOnly_upTo .equalize (cscEqualizeStop_changedOnly w.order _)).mono rfl⟩
  · change (respond .equalize (okAnswer _)).sdo.live = true at hlive
    change (respond .equalize (okAnswer _)).sdo.outputs.strVref.target = (respond .equalize (okAnswer _)).csc.target
    rw [hresponds.sdo] at hlive ⊢
    rw [hresponds.csc]
    exact htarget hlive
  · rw [respond_points]
    exact hpoint (by simpa [State.heldOpen] using hrun) (by simpa [State.heldOpen] using hlen)

theorem forgetPeer_acts (hplain : s.SitePlain) (hpos : 1 ≤ n.toNat) (hle : n.toNat ≤ 15) (hother : n.toNat ≠ s.sup.number)
    (hfound : findPeer s.ptb.peers n.toNat = some p) :
    ∃ t, exec (.forgetPeer w [n]) s = .next t ∧ (t.ptb.peers = s.ptb.peers.filter fun x => x.station != n.toNat) ∧
      (s.upTo w).Logged t .peer p.station (twoParts p.state.code 0) ∧ t.Answered .forgetPeer .ok none ∧
      t.LoggedLast .forgetPeer .ok ∧
      (s.upTo w).ChangedOnly [.ptb, .csc, .cbu, .rot, .gco, .pli, .sup, .alu, .sdo] t := by
  have hanswer : forgetPeer w.order n.toNat (s.upTo w).heldOpen = okAnswer (forgetRecord w.order p (s.upTo w).heldOpen) := by
    have hvalid : ¬(n.toNat = 0 ∨ 15 < n.toNat ∨ n.toNat = (s.upTo w).heldOpen.sup.number) := by
      rw [heldOpen_number]
      omega
    have hrecord : findPeer (s.upTo w).heldOpen.ptb.peers n.toNat = some p := by
      rw [State.heldOpen, State.onSup_ptb, upTo_ptb, hfound]
    rw [forgetPeer, if_neg hvalid, hrecord]
  have hexec := command_siteRequest_of_plain (w := w) (c := .forgetPeer) (args := [n]) (forgetPeer w.order n.toNat) hplain rfl
    (by
      obtain ⟨-, hkept, -⟩ := forgetRecord_keepsBut w.order p (s.upTo w).heldOpen .schedule (by decide)
      rw [hanswer]
      exact hkept.trans (heldOpen_phase s w))
  rw [hanswer] at hexec
  obtain ⟨hanswered, hlogged⟩ := respond_ok (c := .forgetPeer) rfl (forgetRecord w.order p (s.upTo w).heldOpen)
  refine ⟨_, hexec, ?_, State.Enters.logged_upTo .forgetPeer (forgetRecord_enters w.order p _), hanswered, hlogged,
    (respond_changedOnly_upTo .forgetPeer (forgetRecord_changedOnly_of_sac w.order p _)).mono rfl⟩
  rw [(respond_changedOnly _ _).ptb]
  refine (forgetRecord_peers w.order p _).trans ?_
  rw [station_of_findPeer hfound, State.heldOpen, State.onSup_ptb, upTo_ptb]

/-- A number that is no other station's is refused before the table is read. -/
theorem forgetPeer_refuses (hplain : s.SitePlain) (hfound : findPeer s.ptb.peers n.toNat = none) :
    ∃ t, exec (.forgetPeer w [n]) s = .next t ∧
      (if n.toNat = 0 ∨ 15 < n.toNat ∨ n.toNat = s.sup.number then t.Answered .forgetPeer .badArg none
        else t.Answered .forgetPeer .refused (some .noRecord)) ∧
      t.ptb = s.ptb ∧ (s.upTo w).ChangedOnly [.alu, .sup] t := by
  have hrecord : findPeer (s.upTo w).heldOpen.ptb.peers n.toNat = none := by
    rw [State.heldOpen, State.onSup_ptb, upTo_ptb, hfound]
  have hnumber : (s.upTo w).heldOpen.sup.number = s.sup.number := heldOpen_number s w
  have hanswer : forgetPeer w.order n.toNat (s.upTo w).heldOpen =
      if n.toNat = 0 ∨ 15 < n.toNat ∨ n.toNat = s.sup.number then badArg (s.upTo w).heldOpen
      else refuse .noRecord (s.upTo w).heldOpen := by
    rw [forgetPeer, hrecord, hnumber]
  have hafter : (forgetPeer w.order n.toNat (s.upTo w).heldOpen).after = (s.upTo w).heldOpen := by
    rw [hanswer]
    split <;> rfl
  have hexec := command_siteRequest_of_plain (w := w) (c := .forgetPeer) (args := [n]) (forgetPeer w.order n.toNat) hplain rfl
    (by rw [hafter]; exact heldOpen_phase s w)
  have hkept : (s.upTo w).heldOpen.ChangedOnly [] (forgetPeer w.order n.toNat (s.upTo w).heldOpen).after := by
    rw [hafter]
    exact .refl _ _
  have hchanged := (respond_changedOnly_upTo .forgetPeer hkept).mono (m := [.alu, .sup]) rfl
  refine ⟨_, hexec, ?_, hchanged.ptb.trans (upTo_ptb s w), hchanged⟩
  rw [hanswer]
  split
  · exact respond_answered .forgetPeer (badArg _)
  · exact respond_answered .forgetPeer (refuse .noRecord _)

theorem restart_acts (hplain : s.SitePlain) :
    ∃ t, exec (.restart w []) s = .next t ∧
      (t.sup.restartWait = some { quietBy := if s.pli.granted then some ((s.upTo w).now + 1000) else none }) ∧
      (s.pli.granted = true → (s.pli).EnqueuedTo .quiet [2] t.pli) ∧ t.WritePrompted ∧ t.Answered .restart .ok none ∧
      t.LoggedLast .restart .ok ∧ (s.upTo w).ChangedOnly [.pli, .alu, .sup] t := by
  have hpli : (s.upTo w).heldOpen.pli = s.pli := upTo_pli s w
  obtain ⟨hanswered, hlogged⟩ := respond_ok (c := .restart) rfl (beginRestart (s.upTo w).heldOpen)
  refine ⟨_, command_siteRequest_of_plain (fun s => okAnswer (beginRestart s)) hplain rfl ?_, ?_, fun hgranted => ?_, ?_,
    hanswered, hlogged, (respond_changedOnly_upTo .restart (beginRestart_changedOnly _)).mono rfl⟩
  · exact (beginRestart_quiet (s.upTo w).heldOpen).phase.trans (heldOpen_phase s w)
  · rw [respond_sup, ← hpli]
    rfl
  · rw [(respond_changedOnly _ _).pli]
    change Pli.EnqueuedTo _ _ _ (beginRestart (s.upTo w).heldOpen).pli
    rw [beginRestart_pli, ← hpli]
    exact enqueue_enqueuedTo .quiet [2] (by rw [hpli]; exact hgranted)
  · unfold State.WritePrompted
    rw [respond_sup]
    exact triggerWrite_triggered _

end

/-- Settles O58: each request is answered by its owner. -/
theorem equalizeForgetAndRestartAct : Obligations.EqualizeForgetAndRestartAct :=
  ⟨fun _ _ => equalizeStart_acts, fun _ _ => equalizeStop_acts_of_ne, fun _ _ => equalizeStop_acts_of_equalize,
    fun _ _ _ _ => forgetPeer_acts, fun _ _ _ => forgetPeer_refuses, fun _ _ => restart_acts⟩

end Sys2Proof.Machine
end

section
/-! SUPPORT. What the blocks' own work does to the plant line: it queues notes and starts the STATUS timers, and moves
neither the frame on the line nor the receiver (R84, R86, R88, R89). -/
namespace Sys2Proof.Machine

set_option Elab.async false

/-! ## A queue fed -/

/-- R84, R85 of PLI's own fields: see `State.QueueInOrder`. -/
def Pli.InOrder (p : Pli) : Prop :=
  (p.queue.map (·.kind)).Nodup ∧ (p.tx = .empty → p.queue = []) ∧ (p.tx = .wait ∨ p.tx = .send → p.queue ≠ []) ∧
    (p.sending.isSome = true ↔ p.tx = .send)

theorem State.queueInOrder_iff (s : State) : s.QueueInOrder ↔ s.pli.InOrder := Iff.rfl

/-- `q` is `p` with notes queued, and with STATUS timers started or stopped: nothing of it without a grant. -/
structure Pli.Fed (p q : Pli) : Prop where
  rest : q = { p with tx := q.tx, queue := q.queue, statusDue := q.statusDue, spacingEnd := q.spacingEnd
                      deferred := q.deferred }
  ungranted : p.granted = false → q.tx = p.tx ∧ q.queue = p.queue
  send : q.tx = .send ↔ p.tx = .send
  inOrder : p.InOrder → q.InOrder

/-- PLI is fed at most, and the phase stays, with what the site port discards. -/
structure State.Feeds (s t : State) : Prop where
  line : s.pli.Fed t.pli
  phase : t.sup.phase = s.sup.phase
  discard : t.sup.siteDiscard = s.sup.siteDiscard

variable {s t u : State} {parts : List Part} {p q r : Pli}

theorem Pli.Fed.refl (p : Pli) : p.Fed p := ⟨rfl, fun _ => ⟨rfl, rfl⟩, .rfl, id⟩

theorem Pli.Fed.trans (h : p.Fed q) (g : q.Fed r) : p.Fed r where
  rest := by rw [g.rest, h.rest]
  ungranted hp := by
    obtain ⟨htx, hqueue⟩ := h.ungranted hp
    obtain ⟨gtx, gqueue⟩ := g.ungranted (by rw [h.rest]; exact hp)
    exact ⟨gtx.trans htx, gqueue.trans hqueue⟩
  send := g.send.trans h.send
  inOrder hp := g.inOrder (h.inOrder hp)

/-- The STATUS timers are no part of the queue. -/
theorem Pli.fed_timers (p : Pli) (due spacing : Option Nat) (deferred : Bool) :
    p.Fed { p with statusDue := due, spacingEnd := spacing, deferred := deferred } :=
  ⟨rfl, fun _ => ⟨rfl, rfl⟩, .rfl, id⟩

theorem enqueueSlot_nodup (k : NoteKind) (payload : List Byte) (sending : Bool) {q : List Slot}
    (h : (q.map (·.kind)).Nodup) : ((enqueueSlot k payload sending q).map (·.kind)).Nodup := by
  rw [enqueueSlot_kinds]
  split
  · exact h
  · next hk => exact List.nodup_append.mpr ⟨h, List.nodup_singleton k, fun x hx y hy => by
      rw [List.mem_singleton] at hy
      exact fun hxy => hk (hy ▸ hxy ▸ hx)⟩

theorem enqueueSlot_ne_nil (k : NoteKind) (payload : List Byte) (sending : Bool) (q : List Slot) :
    enqueueSlot k payload sending q ≠ [] := fun h => by
  obtain ⟨x, hx, -⟩ := enqueueSlot_holds k payload sending q
  rw [h] at hx
  cases hx

theorem Pli.fed_enqueueSlot {p : Pli} (hgranted : p.granted = true) (k : NoteKind) (payload : List Byte) :
    p.Fed { p with queue := enqueueSlot k payload (p.tx == .send) p.queue
                   tx := if p.tx = .empty then .wait else p.tx } where
  rest := rfl
  ungranted h := by rw [hgranted] at h; cases h
  send := by dsimp only; split <;> simp_all
  inOrder h := by
    obtain ⟨hkinds, -, -, hsending⟩ := h
    refine ⟨enqueueSlot_nodup k payload _ hkinds, fun htx => ?_, fun _ => enqueueSlot_ne_nil k payload _ _, ?_⟩
    · dsimp only at htx
      split at htx
      · cases htx
      · contradiction
    · dsimp only
      rw [hsending]
      split <;> simp_all

/-! ## Operations that feed -/

namespace State.Feeds

theorem refl (s : State) : s.Feeds s := ⟨.refl _, rfl, rfl⟩

theorem trans (h : s.Feeds t) (g : t.Feeds u) : s.Feeds u := 
  ⟨h.line.trans g.line, g.phase.trans h.phase, g.discard.trans h.discard⟩

theorem ite {c : Prop} [Decidable c] (h : s.Feeds t) (g : s.Feeds u) : s.Feeds (if c then t else u) := by
  split <;> assumption

/-- An operation on a condition, or none. -/
theorem orNot {c : Prop} [Decidable c] (h : s.Feeds t) : s.Feeds (if c then t else s) := h.ite (.refl s)

end State.Feeds

/-- An operation that touches neither PLI nor SUP. -/
theorem State.ChangedOnly.feeds (h : s.ChangedOnly parts t)
    (hl : (decide (.pli ∉ parts) && decide (.sup ∉ parts)) = true := by decide) : s.Feeds t := by
  simp only [Bool.and_eq_true, decide_eq_true_eq] at hl
  have hpli : s.pli = t.pli := h .pli hl.1
  have hsup : s.sup = t.sup := h .sup hl.2
  exact ⟨hpli ▸ .refl _, by rw [hsup], by rw [hsup]⟩

theorem fan_feeds (order : List Taker) {takers : List Taker} {f : Taker → State → State}
    (h : ∀ x ∈ takers, ∀ s : State, s.Feeds (f x s)) (s : State) : s.Feeds (fan order takers f s) :=
  fan_induction order (P := State.Feeds s) (fun x hx t ht => ht.trans (h x hx t)) s (.refl s)

theorem foldl_feeds {α : Type} {f : State → α → State} (h : ∀ (s : State) (x : α), s.Feeds (f s x)) (xs : List α)
    (s : State) : s.Feeds (xs.foldl f s) := by
  induction xs generalizing s with
  | nil => exact .refl s
  | cons x xs ih => exact (h s x).trans (ih _)

/-- A change of SUP's own that leaves the phase and what the site port discards. -/
theorem onSup_feeds {f : Sup → Sup} (s : State) (hphase : (f s.sup).phase = s.sup.phase)
    (hdiscard : (f s.sup).siteDiscard = s.sup.siteDiscard) : s.Feeds (s.onSup f) := ⟨.refl _, hphase, hdiscard⟩

theorem enqueue_feeds (k : NoteKind) (payload : List Byte) (s : State) : s.Feeds (enqueue k payload s) := by
  unfold enqueue
  split
  · next hgranted => exact ⟨Pli.fed_enqueueSlot hgranted k payload, rfl, rfl⟩
  · exact .refl s

theorem enqueueStatus_feeds (s : State) : s.Feeds (enqueueStatus s) :=
  .orNot ((enqueue_feeds _ _ s).trans ⟨Pli.fed_timers _ _ _ _, rfl, rfl⟩)

theorem requestStatus_feeds (s : State) : s.Feeds (requestStatus s) := by
  refine .orNot ?_
  split
  · exact .ite ⟨Pli.fed_timers _ _ _ _, rfl, rfl⟩ (enqueueStatus_feeds s)
  · exact enqueueStatus_feeds s

theorem enqueuePoint_feeds (s : State) : s.Feeds (enqueuePoint s) :=
  .orNot ((enqueue_feeds _ _ s).trans (onAlu_changedOnly _ _).feeds)

theorem logEntry_feeds (k : LogKind) (o v : Nat) (s : State) : s.Feeds (logEntry k o v s) :=
  (logEntry_changedOnly k o v s).feeds

/-! ## Points, the budget and the accountant -/

theorem handPoint_feeds (order : List Taker) (id : Nat) (p : Point) (s : State) : s.Feeds (handPoint order id p s) := by
  refine State.Feeds.trans (onAlu_changedOnly _ s).feeds (fan_feeds order ?_ _)
  simp only [List.forall_mem_cons]
  exact ⟨fun s => .orNot (recomputeRelays_changedOnly s).feeds,
    fun s => .orNot (State.Feeds.trans (recomputeSubs_changedOnly _ s).feeds (enqueuePoint_feeds _)),
    fun s => .orNot (logEntry_feeds _ _ _ s), List.forall_mem_nil _⟩

theorem takeCondition_feeds (order : List Taker) (id : Nat) (s : State) : s.Feeds (takeCondition order id s) :=
  .orNot (handPoint_feeds order id _ s)

theorem takeConditions_feeds (order : List Taker) (ids : List Nat) (s : State) : s.Feeds (takeConditions order ids s) :=
  foldl_feeds (fun s id => takeCondition_feeds order id s) ids s

theorem aluAck_feeds (order : List Taker) (s : State) : s.Feeds (aluAck order s) :=
  foldl_feeds (fun s _ => handPoint_feeds order _ _ s) _ s

theorem triggerWrite_feeds (s : State) : s.Feeds (triggerWrite s) := .ite (onSup_feeds s rfl rfl) (onSup_feeds s rfl rfl)

theorem beginPendingWrite_feeds (s : State) : s.Feeds (beginPendingWrite s) :=
  .orNot (State.Feeds.trans (onSup_feeds s rfl rfl) (onSup_feeds _ rfl rfl))

theorem sacOnSet_feeds (order : List Taker) (p : Nat) (s : State) : s.Feeds (sacOnSet order p s) :=
  State.Feeds.trans (onSac_changedOnly _ s).feeds (takeCondition_feeds order _ _)

theorem sacFullResync_feeds (order : List Taker) (s : State) : s.Feeds (sacFullResync order s) :=
  State.Feeds.trans (onSac_changedOnly _ s).feeds (takeCondition_feeds order _ _)

theorem sacOnAbsorbEnd_feeds (order : List Taker) (s : State) : s.Feeds (sacOnAbsorbEnd order s) := by
  unfold sacOnAbsorbEnd
  split
  · exact .orNot (sacFullResync_feeds order s)
  · exact .refl s

/-! ## The modes (R179, R180) -/

theorem updateLeanDwell_feeds (s : State) : s.Feeds (updateLeanDwell s) := onSup_feeds s rfl rfl

theorem updateDormantDwell_feeds (s : State) : s.Feeds (updateDormantDwell s) :=
  onSup_feeds s (by split <;> rfl) (by split <;> rfl)

theorem abandonEntryWait_feeds (s : State) : s.Feeds (abandonEntryWait s) :=
  .orNot (State.Feeds.trans (onSup_feeds s rfl rfl) (updateDormantDwell_feeds _))

theorem changeMode_feeds (order : List Taker) (m : Mode) (s : State) : s.Feeds (changeMode order m s) := by
  refine .ite (.refl s) (State.Feeds.trans (onSup_feeds s rfl rfl) (fan_feeds order ?_ _))
  simp only [List.forall_mem_cons]
  exact ⟨logEntry_feeds _ _ _, requestStatus_feeds, fun s => (recomputeRelays_changedOnly s).feeds, List.forall_mem_nil _⟩

theorem leaveLean_feeds (order : List Taker) (s : State) : s.Feeds (leaveLean order s) := .orNot (changeMode_feeds order _ s)

theorem tryLean_feeds (order : List Taker) (s : State) : s.Feeds (tryLean order s) := .orNot (changeMode_feeds order _ s)

theorem supOnStage_feeds (s : State) : s.Feeds (supOnStage s) :=
  State.Feeds.trans (.ite (.refl s) (State.Feeds.trans (onSup_feeds s rfl rfl) (abandonEntryWait_feeds _)))
    (updateDormantDwell_feeds _)

theorem supOnView_feeds (order : List Taker) (s : State) : s.Feeds (supOnView order s) := by
  have hfound : s.Feeds (leaveLean order (abandonEntryWait (s.onSup fun x => { x with found := true }))) :=
    ((onSup_feeds s rfl rfl).trans (abandonEntryWait_feeds _)).trans (leaveLean_feeds order _)
  exact ((State.Feeds.ite (.refl s) hfound).trans (onSup_feeds _ rfl rfl)).trans (updateDormantDwell_feeds _)

theorem tryDormant_feeds (order : List Taker) (s : State) : s.Feeds (tryDormant order s) :=
  .orNot (.ite (State.Feeds.trans (enqueue_feeds _ _ s) (onSup_feeds _ rfl rfl))
    (State.Feeds.trans (onSup_feeds s rfl rfl) (takeCondition_feeds order _ _)))

/-! ## The contactor and the charge stages (R26 to R29, R52 to R68) -/

theorem endOperation_feeds (order : List Taker) (op : ContactorOp) (failed : Bool) (s : State) :
    s.Feeds (endOperation order op failed s) := by
  refine State.Feeds.trans (State.Feeds.trans (onSdo_changedOnly _ s).feeds (fan_feeds order ?_ _))
    (takeWaitingCommand_changedOnly _).feeds
  simp only [List.forall_mem_cons]
  exact ⟨fun s => (cscOnReport_changedOnly _ _ s).feeds, logEntry_feeds _ _ _, takeCondition_feeds order _,
    List.forall_mem_nil _⟩

theorem sdoOnCtrFb_feeds (order : List Taker) (s : State) : s.Feeds (sdoOnCtrFb order s) := by
  unfold sdoOnCtrFb
  split
  · exact .orNot (endOperation_feeds order _ _ s)
  · exact State.Feeds.trans (.orNot (State.Feeds.trans (onSdo_changedOnly _ s).feeds (takeCondition_feeds order _ _)))
      (takeWaitingCommand_changedOnly _).feeds

theorem sdoOnWindow_feeds (order : List Taker) (op : ContactorOp) (s : State) : s.Feeds (sdoOnWindow order op s) :=
  .ite (beginAttempt_changedOnly _ _ s).feeds (endOperation_feeds order op true s)

theorem cscHand_feeds (order : List Taker) (old : Csc) (manual : Option Direction) (s : State) :
    s.Feeds (cscHand order old manual s) := by
  refine fan_feeds order ?_ s
  simp only [List.forall_mem_cons]
  refine ⟨fun s => State.Feeds.trans ?_ (writeTarget_changedOnly _ _ _).feeds, takeConditions_feeds order _, fun s => ?_,
    fun s => .orNot (sacOnAbsorbEnd_feeds order s), fun s => .orNot (cbuOnEvent_changedOnly s).feeds,
    fun s => .orNot (requestStatus_feeds s), fun s => .orNot (supOnStage_feeds s), List.forall_mem_nil _⟩
  · split
    · exact (contactorCommand_changedOnly _ s).feeds
    · exact .refl s
  · cases manual with
    | none => exact .orNot (logEntry_feeds _ _ _ s)
    | some d => exact State.Feeds.trans (.orNot (logEntry_feeds _ _ _ s)) (logEntry_feeds _ _ _ _)

theorem onCsc_feeds (f : Csc → Csc) (s : State) : s.Feeds (s.onCsc f) := (onCsc_changedOnly f s).feeds

theorem cscOnSet_feeds (order : List Taker) (p : Nat) (s : State) : s.Feeds (cscOnSet order p s) :=
  (onCsc_feeds _ s).trans (cscHand_feeds order _ _ _)

theorem stageEvent_feeds (order : List Taker) (new : Csc) (manual : Option Direction) (s : State) :
    s.Feeds (stageEvent order new manual s) :=
  .ite (onCsc_feeds _ s) ((onCsc_feeds _ s).trans (cscHand_feeds order _ _ _))

theorem cscOnView_feeds (order : List Taker) (old : SourceView) (s : State) : s.Feeds (cscOnView order old s) :=
  .orNot (stageEvent_feeds order _ none s)

theorem cscOnCtrFb_feeds (order : List Taker) (p : Direction) (s : State) : s.Feeds (cscOnCtrFb order p s) := by
  unfold cscOnCtrFb
  dsimp only
  split
  · exact .ite (stageEvent_feeds order _ _ s) (stageEvent_feeds order _ _ s)
  · exact .ite (stageEvent_feeds order _ _ s) (stageEvent_feeds order _ _ s)
  · exact onCsc_feeds _ s
  · exact stageEvent_feeds order _ _ s
  · exact stageEvent_feeds order _ _ s
  · exact onCsc_feeds _ s

theorem cscOnOperating_feeds (order : List Taker) (s : State) : s.Feeds (cscOnOperating order s) :=
  .ite (((onCsc_feeds _ s).trans (onCsc_feeds _ _)).trans (cscHand_feeds order _ _ _)) (onCsc_feeds _ s)

/-! ## The rectifier (R122 to R138) -/

theorem onRot_feeds (f : Rot → Rot) (s : State) : s.Feeds (s.onRot f) := (onRot_changedOnly f s).feeds

theorem enterRect_feeds (order : List Taker) (x : RectState) (s : State) : s.Feeds (enterRect order x s) := by
  rw [enterRect_eq]
  refine (onRot_feeds _ s).trans (fan_feeds order ?_ _)
  simp only [List.forall_mem_cons]
  exact ⟨fun s => (rectDrive_changedOnly s).feeds, requestStatus_feeds, logEntry_feeds _ _ _, takeCondition_feeds order _,
    List.forall_mem_nil _⟩

theorem beginRest_feeds (order : List Taker) (s : State) : s.Feeds (beginRest order s) := by
  unfold beginRest
  exact ((enterRect_feeds order _ s).trans (enqueue_feeds _ _ _)).trans (onRot_feeds _ _)

theorem beginWake_feeds (order : List Taker) (r : WakeReason) (s : State) : s.Feeds (beginWake order r s) := by
  unfold beginWake
  exact ((enqueue_feeds _ _ s).trans (enterRect_feeds order _ _)).trans (onRot_feeds _ _)

theorem rotCheck_feeds (order : List Taker) (s : State) : s.Feeds (rotCheck order s) := by
  have hrot : ∀ f g : Rot → Rot, s.Feeds ((s.onRot f).onRot g) := fun f g => (onRot_feeds f s).trans (onRot_feeds g _)
  unfold rotCheck
  dsimp only
  split
  · split
    · exact .ite ((hrot _ _).trans (beginRest_feeds order _)) (hrot _ _)
    · exact .ite ((hrot _ _).trans (beginWake_feeds order _ _))
        (.ite ((hrot _ _).trans (beginWake_feeds order _ _)) (hrot _ _))
    · exact hrot _ _
  · exact hrot _ _

theorem rotTick_feeds (order : List Taker) (s : State) : s.Feeds (rotTick order s) :=
  (onRot_feeds rectCount s).trans (.orNot (rotCheck_feeds order _))

theorem rotRamp_feeds (order : List Taker) (n : Nat) (s : State) : s.Feeds (rotRamp order n s) :=
  .ite ((onRot_feeds _ s).trans (writeTarget_changedOnly _ _ _).feeds)
    (State.Feeds.trans (writeTarget_changedOnly _ _ s).feeds (enterRect_feeds order _ _))

theorem rotOnView_feeds (order : List Taker) (s : State) : s.Feeds (rotOnView order s) := by
  unfold rotOnView
  split
  · exact .refl s
  · split
    · exact enterRect_feeds order _ s
    · exact enterRect_feeds order _ s
    · exact enterRect_feeds order _ s
    · exact .refl s

theorem rotOnAcok_feeds (order : List Taker) (s : State) : s.Feeds (rotOnAcok order s) := by
  unfold rotOnAcok
  split
  · exact .orNot (enterRect_feeds order _ s)
  · split
    · exact .refl s
    · exact .refl s
    · exact enterRect_feeds order _ s

theorem rotOnFail_feeds (order : List Taker) (s : State) : s.Feeds (rotOnFail order s) := by
  unfold rotOnFail
  split
  · exact .ite (onRot_feeds _ s) (enterRect_feeds order _ s)
  · exact .orNot (onRot_feeds _ s)

theorem rotOnRest_feeds (order : List Taker) (n hours : Nat) (s : State) : s.Feeds (rotOnRest order n hours s) :=
  .orNot (enterRect_feeds order _ s)

theorem rotOnDormant_feeds (order : List Taker) (s : State) : s.Feeds (rotOnDormant order s) := by
  unfold rotOnDormant
  split
  · exact State.Feeds.trans (State.Feeds.trans (onRot_feeds _ s) (rectDrive_changedOnly _).feeds) (onRot_feeds _ _)
  · exact State.Feeds.trans (enterRect_feeds order _ s) (onRot_feeds _ _)

theorem rotForceRun_feeds (order : List Taker) (h : rotForceRun order s = .inr t) : s.Feeds t := by
  unfold rotForceRun at h
  split at h
  · cases h
  · split at h <;> cases h
    · exact .refl s
    · exact enterRect_feeds order _ s

theorem rotForceRest_feeds (order : List Taker) (h : rotForceRest order s = .inr t) : s.Feeds t := by
  unfold rotForceRest at h
  split at h
  · cases h
  · split at h
    · cases h
    · split at h
      · cases h
      · split at h <;> cases h
        · exact .refl s
        · exact enterRect_feeds order _ s

theorem rotRelease_feeds (order : List Taker) (h : rotRelease order s = .inr t) : s.Feeds t := by
  unfold rotRelease at h
  split at h <;> cases h
  · exact enterRect_feeds order _ s
  · exact enterRect_feeds order _ s

/-! ## The generator (R142 to R158) -/

theorem onGco_feeds (f : Gco → Gco) (s : State) : s.Feeds (s.onGco f) := (onGco_changedOnly f s).feeds

theorem gcoHand_feeds (order : List Taker) (old : Gco) (adopted : Bool) (gen : Option (List Byte))
    (logs : List (LogKind × Nat × Nat)) (s : State) : s.Feeds (gcoHand order old adopted gen logs s) := by
  refine fan_feeds order ?_ s
  simp only [List.forall_mem_cons]
  refine ⟨fun s => .ite (.refl s) (writeRelay_changedOnly _ _ s).feeds, fun s => ?_,
    fun s => foldl_feeds (fun s (e : LogKind × Nat × Nat) => logEntry_feeds e.1 e.2.1 e.2.2 s) logs s,
    takeConditions_feeds order _, fun s => ?_, List.forall_mem_nil _⟩
  · have hgen : s.Feeds (match gen with | some p => enqueue .gen p s | none => s) := by
      cases gen with
      | none => exact .refl s
      | some p => exact enqueue_feeds _ _ s
    exact (hgen.trans (.ite (.refl _) (requestStatus_feeds _))).trans (.orNot (requestStatus_feeds _))
  · exact State.Feeds.trans (.orNot (beginPendingWrite_feeds s)) (.orNot (triggerWrite_feeds _))

theorem gcoMove_feeds (order : List Taker) (f : Gco → Gco) (logs : List (LogKind × Nat × Nat)) (s : State) :
    s.Feeds (gcoMove order f logs s) := (onGco_feeds f s).trans (gcoHand_feeds order _ _ _ _ _)

theorem gcoRelease_feeds (order : List Taker) (s : State) : s.Feeds (gcoRelease order s) := gcoMove_feeds order _ _ s

theorem gcoRaiseNow_feeds (order : List Taker) (r : DemandReason) (e : Option Nat) (s : State) :
    s.Feeds (gcoRaiseNow order r e s) := gcoMove_feeds order _ _ s

theorem gcoRunCheck_feeds (order : List Taker) (d : Demand) (s : State) : s.Feeds (gcoRunCheck order d s) :=
  .ite (gcoMove_feeds order _ _ s)
    (State.Feeds.trans (t := s.onGco fun g => { g with acceptDwell := s.acceptNext }) (onGco_feeds _ s)
      (.orNot (gcoRelease_feeds order _)))

theorem gcoCheck_feeds (order : List Taker) (s : State) : s.Feeds (gcoCheck order s) := by
  refine (onGco_feeds (gcoDwells s) s).trans ?_
  unfold gcoCheck
  dsimp only
  split
  · split
    · exact .orNot (gcoRaiseNow_feeds order _ _ _)
    · exact .refl _
  · exact .orNot (gcoRaiseNow_feeds order _ _ _)
  · split
    · exact gcoRunCheck_feeds order _ _
    · exact .refl _
  · exact .refl _

theorem gcoTick_feeds (order : List Taker) (s : State) : s.Feeds (gcoTick order s) :=
  (onGco_feeds _ s).trans (.orNot (gcoCheck_feeds order _))

theorem gcoStartFailure_feeds (order : List Taker) (s : State) : s.Feeds (gcoStartFailure order s) := by
  unfold gcoStartFailure
  exact (onGco_feeds _ s).trans (gcoHand_feeds order _ _ _ _ _)

theorem gcoOnView_feeds (order : List Taker) (s : State) : s.Feeds (gcoOnView order s) := by
  unfold gcoOnView
  split
  · exact .orNot (gcoRelease_feeds order s)
  · exact .refl s

theorem gcoOnFuel_feeds (order : List Taker) (s : State) : s.Feeds (gcoOnFuel order s) :=
  State.Feeds.trans (t := s.onGco fun g => { g with fuelLow := s.alu.effFuel }) (onGco_feeds _ s)
    (.orNot (gcoRelease_feeds order _))

theorem gcoOnInhibit_feeds (order : List Taker) (s : State) : s.Feeds (gcoOnInhibit order s) :=
  State.Feeds.trans (t := s.onGco fun g => { g with inhibit := s.alu.effInhibit }) (onGco_feeds _ s)
    (.orNot (gcoRelease_feeds order _))

theorem gcoHear_feeds (order : List Taker) (n : Nat) (b : Bool) (e : Nat) (s : State) : s.Feeds (gcoHear order n b e s) :=
  .orNot ((onGco_feeds _ s).trans (gcoHand_feeds order _ _ _ _ _))

theorem gcoOnDormant_feeds (order : List Taker) (s : State) : s.Feeds (gcoOnDormant order s) := by
  unfold gcoOnDormant
  split
  · exact gcoRelease_feeds order s
  · exact gcoRelease_feeds order s
  · exact gcoMove_feeds order _ _ s
  · exact onGco_feeds _ s

theorem gcoTest_feeds (order : List Taker) (n : Nat) (h : gcoTest order n s = .inr t) : s.Feeds t := by
  unfold gcoTest at h
  dsimp only at h
  by_cases hn : n = 0
  · rw [if_pos hn] at h
    cases h
    exact .orNot (gcoRelease_feeds order s)
  · rw [if_neg hn] at h
    iterate 6 (split at h; · cases h)
    split_ifs at h
    · cases h
      exact onGco_feeds _ s
    · cases h
      exact gcoRaiseNow_feeds order _ _ s

theorem gcoClear_feeds (order : List Taker) (h : gcoClear order s = .inr t) : s.Feeds t := by
  unfold gcoClear at h
  dsimp only at h
  iterate 3 (split at h; · cases h)
  cases h
  exact (onGco_feeds _ s).trans (gcoHand_feeds order _ _ _ _ _)

/-! ## The alarm unit, the source view and the peer table -/

theorem onAlu_feeds (f : Alu → Alu) (s : State) : s.Feeds (s.onAlu f) := (onAlu_changedOnly f s).feeds

theorem recomputeFuel_feeds (order : List Taker) (s : State) : s.Feeds (recomputeFuel order s) := by
  refine (onAlu_feeds _ s).trans (.orNot (fan_feeds order ?_ _))
  simp only [List.forall_mem_cons]
  exact ⟨takeCondition_feeds order _, gcoOnFuel_feeds order, logEntry_feeds _ _ _, List.forall_mem_nil _⟩

theorem recomputeInhibit_feeds (order : List Taker) (s : State) : s.Feeds (recomputeInhibit order s) := by
  refine (onAlu_feeds _ s).trans (.orNot (fan_feeds order ?_ _))
  simp only [List.forall_mem_cons]
  exact ⟨gcoOnInhibit_feeds order, logEntry_feeds _ _ _, List.forall_mem_nil _⟩

theorem aluRecompute_feeds (order : List Taker) (s : State) : s.Feeds (aluRecompute order s) :=
  .orNot ((State.Feeds.trans (recomputeSubs_changedOnly _ s).feeds (recomputeFuel_feeds order _)).trans
    (recomputeInhibit_feeds order _))

theorem aluOnSet_feeds (order : List Taker) (s : State) : s.Feeds (aluOnSet order s) :=
  .orNot (((onAlu_feeds _ s).trans (takeConditions_feeds order _ _)).trans (recomputeFuel_feeds order _))

theorem aluOnListen_feeds (order : List Taker) (s : State) : s.Feeds (aluOnListen order s) :=
  ((onAlu_feeds _ s).trans (takeConditions_feeds order _ _)).trans (aluRecompute_feeds order _)

theorem onPtb_feeds (f : Ptb → Ptb) (s : State) : s.Feeds (s.onPtb f) := (onPtb_changedOnly f s).feeds

theorem recomputeViews_feeds (order : List Taker) (s : State) : s.Feeds (recomputeViews order s) := by
  refine .orNot ((onPtb_feeds _ s).trans (fan_feeds order ?_ _))
  simp only [List.forall_mem_cons]
  exact ⟨fun s => .orNot (cscOnView_feeds order _ s), fun s => .orNot (cbuOnEvent_changedOnly s).feeds,
    fun s => .orNot (rotOnView_feeds order s), fun s => .orNot (gcoOnView_feeds order s),
    fun s => .orNot (requestStatus_feeds s), fun s => .orNot (supOnView_feeds order s), takeCondition_feeds order _,
    fun s => .orNot (gcoMove_feeds order _ _ s), List.forall_mem_nil _⟩

theorem peerHand_feeds (order : List Taker) (logs : List (Nat × Nat)) (subs views : Bool) {also : Taker → State → State}
    (h : ∀ (x : Taker) (s : State), s.Feeds (also x s)) (s : State) : s.Feeds (peerHand order logs subs views also s) := by
  refine fan_feeds order ?_ s
  simp only [List.forall_mem_cons]
  exact ⟨fun s => foldl_feeds (fun s (e : Nat × Nat) => logEntry_feeds .peer e.1 e.2 s) logs s,
    fun s => (takeConditions_feeds order _ s).trans (.orNot (aluRecompute_feeds order _)),
    fun s => .orNot (recomputeViews_feeds order s), h .pli, h .gco, h .rot, List.forall_mem_nil _⟩

/-- What a note's content hands to GCO and ROT feeds the line at most. -/
def NoteContent.Feeding (n : NoteContent) : Prop := ∀ s : State, s.Feeds (n.gco s) ∧ s.Feeds (n.rot s)

theorem NoteContent.Feeding.of_idle {n : NoteContent} (hg : n.gco = id) (hr : n.rot = id) : n.Feeding := fun s => by
  rw [hg, hr]; exact ⟨.refl s, .refl s⟩

theorem statusContent_feeding (order : List Taker) (station : Nat) (payload : List Byte) (s : State) :
    (statusContent order station payload s).Feeding := by
  unfold statusContent
  split
  · exact .of_idle rfl rfl
  · refine fun s => ⟨?_, .refl s⟩
    dsimp only
    split
    · exact gcoHear_feeds order _ _ _ s
    · exact gcoHear_feeds order _ _ _ s
    · exact .refl s

theorem genContent_feeding (order : List Taker) (station event epoch : Nat) :
    (genContent order station event epoch).Feeding := fun s =>
  ⟨.ite (gcoHear_feeds order _ _ _ s) (.orNot (gcoHear_feeds order _ _ _ s)), .refl s⟩

theorem restContent_feeding (order : List Taker) (station hours : Nat) (flags : Byte) (s : State) :
    (restContent order station hours flags s).Feeding := fun s => ⟨.refl s, rotOnRest_feeds order _ _ s⟩

theorem wakeContent_feeding (hours : Nat) (reason : Byte) (s : State) : (wakeContent hours reason s).Feeding := by
  unfold wakeContent; split <;> exact .of_idle rfl rfl

theorem takeNote_feeds (order : List Taker) (station seq : Nat) {n : NoteContent} (hn : n.Feeding) (s : State) :
    s.Feeds (takeNote order station seq n s) := by
  refine .ite (.refl s) ((onPtb_feeds _ s).trans (peerHand_feeds order _ _ _ (fun x s => ?_) _))
  split
  · exact .orNot ((requestStatus_feeds s).trans (enqueuePoint_feeds _))
  · exact (hn s).1
  · exact (hn s).2
  · exact .refl s

theorem ageRecords_feeds (order : List Taker) (s : State) : s.Feeds (ageRecords order s) :=
  (onPtb_feeds _ s).trans (peerHand_feeds order _ _ _ (fun _ s => .refl s) _)

theorem forgetRecord_feeds (order : List Taker) (p : PeerRecord) (s : State) : s.Feeds (forgetRecord order p s) :=
  (onPtb_feeds _ s).trans (peerHand_feeds order _ _ _ (fun _ s => .refl s) _)

theorem clearPeers_feeds (order : List Taker) (s : State) : s.Feeds (clearPeers order s) :=
  (onPtb_feeds _ s).trans (peerHand_feeds order _ _ _ (fun _ s => .refl s) _)

/-! ## The measurement chain, the contacts and the retained-record writer -/

theorem deliverSet_feeds (order : List Taker) (p n : Nat) (s : State) : s.Feeds (deliverSet order p n s) := by
  refine fan_feeds order ?_ s
  simp only [List.forall_mem_cons]
  exact ⟨takeCondition_feeds order _, sacOnSet_feeds order p, cscOnSet_feeds order p,
    fun s => (cbuOnSet_changedOnly p n s).feeds, aluOnSet_feeds order, List.forall_mem_nil _⟩

theorem onMch_feeds (f : Mch → Mch) (s : State) : s.Feeds (s.onMch f) := (onMch_changedOnly f s).feeds

theorem endPeriod_feeds (order : List Taker) (sums : PerChannel Nat) (s : State) : s.Feeds (endPeriod order sums s) := by
  unfold endPeriod
  split
  · exact .orNot ((onMch_feeds _ s).trans (deliverSet_feeds order _ _ _))
  · exact .refl s

theorem handCtrFb_feeds (order : List Taker) (s : State) : s.Feeds (handCtrFb order s) := by
  refine fan_feeds order ?_ s
  simp only [List.forall_mem_cons]
  refine ⟨sdoOnCtrFb_feeds order, fun s => ?_, requestStatus_feeds, List.forall_mem_nil _⟩
  split
  · exact cscOnCtrFb_feeds order _ s
  · exact .refl s

theorem handContact_feeds (order : List Taker) (i : Contact) (s : State) : s.Feeds (handContact order i s) := by
  cases i with
  | xferGen | genRunFb => exact recomputeViews_feeds order s
  | rectAcok =>
    refine fan_feeds order ?_ s
    simp only [List.forall_mem_cons]
    exact ⟨recomputeViews_feeds order, rotOnAcok_feeds order, List.forall_mem_nil _⟩
  | rectFail => exact rotOnFail_feeds order s
  | ctrFb => exact handCtrFb_feeds order s
  | _ => exact takeCondition_feeds order _ s

theorem qualifyContact_feeds (order : List Taker) (i : Contact) (s : State) : s.Feeds (qualifyContact order i s) := by
  unfold qualifyContact
  dsimp only
  split
  · exact .orNot ((onMch_feeds _ s).trans (handContact_feeds order i _))
  · exact .refl s

theorem endWrite_feeds (order : List Taker) (v : Retained) (b : Bool) (s : State) : s.Feeds (endWrite order v b s) := by
  have hstored : s.Feeds (storeWritten v b s) :=
    .ite (onStore_changedOnly _ s).feeds (State.Feeds.trans (onStore_changedOnly _ s).feeds (onSpoiled_changedOnly _ _).feeds)
  refine ((hstored.trans (onSup_feeds _ rfl rfl)).trans (fan_feeds order ?_ _)).trans (beginPendingWrite_feeds _)
  simp only [List.forall_mem_cons]
  exact ⟨fun s => .ite (.refl s) (logEntry_feeds _ _ _ s), takeCondition_feeds order _, List.forall_mem_nil _⟩

theorem checkSupply_feeds (zone : SupplyZone) (s : State) : s.Feeds (checkSupply zone s) := by
  have hlow : s.Feeds (s.onSup fun x => { x with lowCount := lowCountNext zone x.lowCount }) := onSup_feeds s rfl rfl
  have hwarn : ∀ t : State, t.Feeds (t.onSup fun x => { x with rearmCount := 0, armed := false }) := fun t =>
    onSup_feeds t rfl rfl
  unfold checkSupply
  dsimp only
  split
  · exact hlow.trans (onSup_feeds _ rfl rfl)
  · exact .ite ((hlow.trans (hwarn _)).trans (triggerWrite_feeds _)) (hlow.trans (hwarn _))

theorem beginRestart_feeds (s : State) : s.Feeds (beginRestart s) := by
  unfold beginRestart
  exact ((enqueue_feeds _ _ s).trans (triggerWrite_feeds _)).trans (onSup_feeds _ rfl rfl)

theorem advance_feeds (e : Nat) (s : State) : s.Feeds (advance e s) := (advance_changedOnly e s).feeds

theorem respond_feeds (c : SiteCommand) (a : Answer) : a.after.Feeds (respond c a) := by
  have hresp : ∀ r : Response, a.after.Feeds (a.after.onSup fun x => { x with response := some r }) := fun r =>
    onSup_feeds _ rfl rfl
  exact .ite (hresp _) ((hresp _).trans (logEntry_feeds _ _ _ _))

end Sys2Proof.Machine
end

section
/-! SUPPORT. How the plant line and the phase move (R72 to R91, R178 to R182): the changes one after another of which every
command's effect on them is made, and O8, O9 and O27. -/
namespace Sys2Proof.Machine

set_option Elab.async false

/-! ## The changes -/

/-- `q` differs from `p` in the receiver's and the counters' fields: nothing that is sent, and from HUNT, where the receiver
stands while the own frame is on the line, to nowhere else. -/
structure Pli.Heard (p q : Pli) : Prop where
  tx : q.tx = p.tx
  granted : q.granted = p.granted
  queue : q.queue = p.queue
  sending : q.sending = p.sending
  sequence : q.sequence = p.sequence
  dup : q.dup = p.dup
  rx : p.tx = .send → q.rx = p.rx ∨ q.rx = .hunt

/-- The plant line and the phase from one state to another, but for the begin and the completion of a frame and the
resets. -/
inductive State.LineGoes : State → State → Prop
  | feeds {s t : State} (h : s.Feeds t) : LineGoes s t
  | trans {s t u : State} (h : LineGoes s t) (g : LineGoes t u) : LineGoes s u
  | hears {s t : State} (h : s.pli.Heard t.pli) (hphase : t.sup.phase = s.sup.phase) : LineGoes s t
  | duplicate {s : State} (h : s.pli.rx ≠ .hunt) :
      LineGoes s ((frameSeen s).onPli fun p => { p with dup := true, tx := .off, sending := none })
  | attempt {s : State} (h : s.pli.tx = .send) : LineGoes s (s.onPli endAttempt)
  | grant {s : State} (h : s.sup.phase = .listen ∨ s.sup.phase = .check) :
      LineGoes s (grantTransmission (s.onSup fun x => { x with phase := .operating }))
  | withdraw {s t : State} (h : t.pli = (withdrawTransmission s).pli) (hphase : t.sup.phase = .dormant) : LineGoes s t
  | silent {s t : State} (hs : s.sup.phase ≠ .operating) (ht : t.sup.phase ≠ .operating) (hpli : t.pli = s.pli) :
      LineGoes s t

/-- What a command makes of the plant line and the phase. -/
inductive Instr.LineGoes : Instr → State → State → Prop
  | plain {c : Instr} {s t : State} (h : s.LineGoes t) : LineGoes c s t
  | begins {w : Moment} {s u t : State} (h : s.LineGoes u) (g : (beginFrame u).LineGoes t) :
      LineGoes (.frameBegin w) s t
  | completes {w : Moment} {s u t : State} (h : s.LineGoes u) (htx : u.pli.tx = .send)
      (g : (u.onPli completeSlot).LineGoes t) : LineGoes (.frameComplete w) s t
  | resets {c : Instr} {s t : State} (hc : c.canReset = true) (hpli : t.pli = Pli.reset) (hphase : t.sup.phase = .held) :
      LineGoes c s t

variable {s t u : State} {p q : Pli}

/-! ## Each change keeps the queue in order (R84, R85) -/

theorem Pli.InOrder.of_heard (hp : p.InOrder) (h : p.Heard q) : q.InOrder := by
  obtain ⟨htx, -, hqueue, hsending, -⟩ := h
  unfold Pli.InOrder at *
  rwa [htx, hqueue, hsending]

theorem idleTx_ne_send (queue : List Slot) (c : Prop) [Decidable c] :
    (if c then .off else idleTx queue) ≠ TxState.send := by
  unfold idleTx
  split
  · decide
  · split <;> decide

theorem grantTransmission_tx (s : State) : (grantTransmission s).pli.tx ≠ .send := idleTx_ne_send s.pli.queue _

/-- The transmitter's state by the queue fits it. -/
theorem idleTx_inOrder {queue : List Slot} {c : Prop} [Decidable c] (hkinds : (queue.map (·.kind)).Nodup)
    (htx : p.tx = if c then .off else idleTx queue) (hqueue : p.queue = queue) (hsending : p.sending = none) :
    p.InOrder := by
  subst hqueue
  unfold Pli.InOrder
  rw [htx, hsending]
  unfold idleTx
  split
  · exact ⟨hkinds, by simp, by simp, by simp⟩
  · cases hq : p.queue with
    | nil => simp
    | cons x xs => exact ⟨hq ▸ hkinds, by simp, by simp, by simp⟩

theorem grantTransmission_inOrder (hkinds : (s.pli.queue.map (·.kind)).Nodup) :
    (grantTransmission s).pli.InOrder :=
  idleTx_inOrder (p := (grantTransmission s).pli) hkinds rfl rfl rfl

theorem pliOff_inOrder (p : Pli) : (pliOff p).InOrder := ⟨List.nodup_nil, nofun, by simp [pliOff], by simp [pliOff]⟩

theorem Pli.InOrder.endAttempt (hp : p.InOrder) (htx : p.tx = .send) : (endAttempt p).InOrder := by
  unfold Machine.endAttempt
  obtain ⟨hkinds, -, hqueue, -⟩ := hp
  split
  · exact ⟨hkinds, nofun, fun _ => hqueue (.inr htx), by simp⟩
  · exact pliOff_inOrder p

theorem withdrawTransmission_tx (s : State) (h : s.pli.tx ≠ .send) :
    (withdrawTransmission s).pli = pliOff { s.pli with granted := false } := if_neg h

theorem withdrawTransmission_send (s : State) (h : s.pli.tx = .send) :
    (withdrawTransmission s).pli = { s.pli with granted := false } := if_pos h

theorem settleHead_nodup {q : List Slot} (h : (q.map (·.kind)).Nodup) : ((settleHead q).map (·.kind)).Nodup := by
  cases q with
  | nil => exact h
  | cons x xs =>
    rw [settleHead]
    split
    · exact h
    · exact (List.nodup_cons.mp h).2

theorem Pli.InOrder.completeSlot (hp : p.InOrder) : (completeSlot p).InOrder := by
  unfold Machine.completeSlot
  dsimp only
  split
  · exact idleTx_inOrder (settleHead_nodup hp.1) rfl rfl rfl
  · exact pliOff_inOrder _

theorem completeSlot_tx (p : Pli) : (completeSlot p).tx ≠ .send := by
  unfold completeSlot
  dsimp only
  split
  · exact idleTx_ne_send _ _
  · nofun

/-- A frame that can begin has its note and begins, or nothing happens. -/
theorem beginFrame_cases (s : State) :
    beginFrame s = s ∨
      s.canBegin = true ∧ ∃ x xs, s.pli.queue = x :: xs ∧
        beginFrame s = s.onPli fun p =>
          { p with tx := .send, rx := .hunt, queue := markHead p.queue
                   sending := some (buildFrame x.kind s.sup.number p.sequence x.payload) } := by
  unfold beginFrame
  split
  · next x xs hqueue =>
    split
    · next hbegin => exact .inr ⟨hbegin, x, xs, hqueue, rfl⟩
    · exact .inl rfl
  · exact .inl rfl

theorem beginFrame_inOrder (h : s.pli.InOrder) : (beginFrame s).pli.InOrder := by
  obtain hnone | ⟨-, x, xs, hqueue, hbegun⟩ := beginFrame_cases s
  · rwa [hnone]
  · obtain ⟨hkinds, -⟩ := h
    rw [hqueue] at hkinds
    rw [hbegun]
    simp only [Pli.InOrder, State.onPli_pli, hqueue, markHead]
    exact ⟨hkinds, nofun, fun _ => by simp, by simp⟩

theorem State.LineGoes.inOrder (h : s.LineGoes t) : s.pli.InOrder → t.pli.InOrder := by
  induction h with
  | feeds h => exact h.line.inOrder
  | trans _ _ hih gih => exact gih ∘ hih
  | hears h _ => exact fun hs => hs.of_heard h
  | @duplicate s _ => exact fun hs => ⟨hs.1, nofun, by simp, by simp⟩
  | attempt h => exact fun hs => hs.endAttempt h
  | grant _ => exact fun hs => grantTransmission_inOrder hs.1
  | @withdraw s t hpli _ =>
    intro hs
    rw [hpli]
    by_cases htx : s.pli.tx = .send
    · rw [withdrawTransmission_send s htx]
      exact hs
    · rw [withdrawTransmission_tx s htx]
      exact pliOff_inOrder _
  | silent _ _ hpli => exact fun hs => hpli ▸ hs

theorem Instr.LineGoes.inOrder {c : Instr} (h : Instr.LineGoes c s t) (hs : s.pli.InOrder) : t.pli.InOrder := by
  cases h with
  | plain h => exact h.inOrder hs
  | begins h g => exact g.inOrder (beginFrame_inOrder (h.inOrder hs))
  | completes h _ g => exact g.inOrder (h.inOrder hs).completeSlot
  | resets _ hpli _ => rw [hpli]; exact ⟨by simp [Pli.reset], by simp [Pli.reset], by simp [Pli.reset], by simp [Pli.reset]⟩

/-! ## Each change keeps the grant with the phase (R81, R86) -/

/-- `State.LineMatchesPhase` but for the change found in CHECK. -/
def State.GrantMatchesPhase (s : State) : Prop :=
  s.pli.granted = s.operating ∧
    (s.pli.granted = false → s.pli.tx ≠ .send → s.pli.tx = .off ∧ s.pli.queue = []) ∧
    (s.pli.tx = .send → s.pli.rx = .hunt)

theorem State.lineMatchesPhase_iff (s : State) : s.LineMatchesPhase ↔ s.GrantMatchesPhase ∧ s.Steady := by
  unfold State.LineMatchesPhase State.GrantMatchesPhase
  tauto

theorem State.operating_congr (h : t.sup.phase = s.sup.phase) : t.operating = s.operating := by
  unfold State.operating; rw [h]

theorem State.not_operating_of_phase (h : s.sup.phase ≠ .operating) : s.operating = false := by simp [State.operating, h]

theorem State.Feeds.grantMatches (h : s.Feeds t) (hs : s.GrantMatchesPhase) : t.GrantMatchesPhase := by
  obtain ⟨hgranted, hsilent, hhunt⟩ := hs
  obtain ⟨⟨hrest, hungranted, hsend, -⟩, hphase⟩ := h
  have htg : t.pli.granted = s.pli.granted := by rw [hrest]
  have htr : t.pli.rx = s.pli.rx := by rw [hrest]
  refine ⟨by rw [htg, hgranted, State.operating_congr hphase], fun hg htx => ?_, fun htx => ?_⟩
  · rw [htg] at hg
    obtain ⟨htxSame, hqueueSame⟩ := hungranted hg
    rw [htxSame, hqueueSame]
    exact hsilent hg (htxSame ▸ htx)
  · rw [htr]
    exact hhunt (hsend.mp htx)

theorem endAttempt_tx (p : Pli) : (endAttempt p).tx ≠ .send := by
  unfold endAttempt
  split <;> nofun

theorem endAttempt_granted (p : Pli) : (endAttempt p).granted = p.granted := by
  unfold endAttempt
  split <;> rfl

theorem completeSlot_granted (p : Pli) : (completeSlot p).granted = p.granted := by
  unfold completeSlot
  dsimp only
  split <;> rfl

theorem State.LineGoes.grantMatches (h : s.LineGoes t) : s.GrantMatchesPhase → t.GrantMatchesPhase := by
  induction h with
  | feeds h => exact h.grantMatches
  | trans _ _ hih gih => exact gih ∘ hih
  | @hears s t h hphase =>
    rintro ⟨hgranted, hsilent, hhunt⟩
    obtain ⟨htx, hgrant, hqueue, -, -, -, hrx⟩ := h
    unfold State.GrantMatchesPhase
    rw [hgrant, htx, hqueue, hgranted, State.operating_congr hphase]
    exact ⟨rfl, hgranted ▸ hsilent, fun hsend => (hrx hsend).elim (fun hr => hr.trans (hhunt hsend)) id⟩
  | @duplicate s hrx =>
    rintro ⟨hgranted, hsilent, hhunt⟩
    exact ⟨hgranted, fun hg _ => ⟨rfl, (hsilent hg fun hsend => hrx (hhunt hsend)).2⟩, nofun⟩
  | @attempt s _ =>
    rintro ⟨hgranted, -, -⟩
    refine ⟨(endAttempt_granted s.pli).trans hgranted, fun hg _ => ?_, fun htx => absurd htx (endAttempt_tx s.pli)⟩
    have hoff : s.pli.granted = false := (endAttempt_granted s.pli).symm.trans hg
    simp [endAttempt, hoff, pliOff]
  | @grant s _ =>
    exact fun _ => ⟨rfl, nofun, fun htx => absurd htx (grantTransmission_tx _)⟩
  | @withdraw s t hpli hphase =>
    rintro ⟨-, -, hhunt⟩
    unfold State.GrantMatchesPhase
    rw [State.not_operating_of_phase (s := t) (by rw [hphase]; decide), hpli]
    by_cases htx : s.pli.tx = .send
    · rw [withdrawTransmission_send s htx]
      exact ⟨rfl, fun _ hne => absurd htx hne, hhunt⟩
    · rw [withdrawTransmission_tx s htx]
      exact ⟨rfl, fun _ _ => ⟨rfl, rfl⟩, nofun⟩
  | @silent s t hs ht hpli =>
    rintro ⟨hgranted, hrest⟩
    unfold State.GrantMatchesPhase
    rw [hpli, State.not_operating_of_phase ht]
    exact ⟨hgranted.trans (State.not_operating_of_phase hs), hrest⟩

theorem beginFrame_grantMatches (hs : s.GrantMatchesPhase) : (beginFrame s).GrantMatchesPhase := by
  obtain hnone | ⟨-, x, xs, -, hbegun⟩ := beginFrame_cases s
  · rwa [hnone]
  · rw [hbegun]
    exact ⟨hs.1, fun _ htx => absurd rfl htx, fun _ => rfl⟩

theorem completeSlot_grantMatches (hs : s.GrantMatchesPhase) : (s.onPli completeSlot).GrantMatchesPhase := by
  refine ⟨(completeSlot_granted s.pli).trans hs.1, fun hg _ => ?_, fun htx => absurd htx (completeSlot_tx s.pli)⟩
  have hoff : s.pli.granted = false := (completeSlot_granted s.pli).symm.trans hg
  simp [completeSlot, hoff, pliOff]

theorem Instr.LineGoes.grantMatches {c : Instr} (h : Instr.LineGoes c s t) (hs : s.GrantMatchesPhase) :
    t.GrantMatchesPhase := by
  cases h with
  | plain h => exact h.grantMatches hs
  | begins h g => exact g.grantMatches (beginFrame_grantMatches (h.grantMatches hs))
  | completes h _ g => exact g.grantMatches (completeSlot_grantMatches (h.grantMatches hs))
  | resets _ hpli hphase =>
    unfold State.GrantMatchesPhase
    rw [State.not_operating_of_phase (s := t) (by rw [hphase]; decide), hpli]
    simp [Pli.reset]

/-! ## The frames, the sequence and DUP_STATION (R72, R79, R83) -/

/-- No frame begun, the sequence as it was, and DUP_STATION at most set. -/
def State.FramesKept (s t : State) : Prop :=
  (t.pli.tx = .send → s.pli.tx = .send) ∧ t.pli.sequence = s.pli.sequence ∧ (s.pli.dup = true → t.pli.dup = true)

theorem withdrawTransmission_kept (s : State) :
    ((withdrawTransmission s).pli.tx = .send → s.pli.tx = .send) ∧
      (withdrawTransmission s).pli.sequence = s.pli.sequence ∧ (withdrawTransmission s).pli.dup = s.pli.dup := by
  by_cases htx : s.pli.tx = .send
  · rw [withdrawTransmission_send s htx]
    exact ⟨fun _ => htx, rfl, rfl⟩
  · rw [withdrawTransmission_tx s htx]
    exact ⟨nofun, rfl, rfl⟩

theorem State.LineGoes.framesKept (h : s.LineGoes t) : s.FramesKept t := by
  induction h with
  | @feeds s t h =>
    obtain ⟨hrest, -, hsend, -⟩ := h.line
    have hseq : t.pli.sequence = s.pli.sequence := by rw [hrest]
    have hdup : t.pli.dup = s.pli.dup := by rw [hrest]
    exact ⟨hsend.mp, hseq, fun h => hdup.trans h⟩
  | trans _ _ hih gih =>
    obtain ⟨htx, hseq, hdup⟩ := hih
    obtain ⟨gtx, gseq, gdup⟩ := gih
    exact ⟨htx ∘ gtx, gseq.trans hseq, gdup ∘ hdup⟩
  | hears h _ => exact ⟨fun htx => h.tx ▸ htx, h.sequence, fun hdup => h.dup.trans hdup⟩
  | duplicate _ => exact ⟨nofun, rfl, fun _ => rfl⟩
  | @attempt s h => exact ⟨fun _ => h, by simp only [State.onPli_pli, endAttempt]; split <;> rfl,
      fun hdup => by simp only [State.onPli_pli, endAttempt]; split <;> exact hdup⟩
  | @grant s _ =>
    exact ⟨fun htx => absurd htx (grantTransmission_tx _), rfl, id⟩
  | @withdraw s t hpli _ =>
    obtain ⟨htx, hseq, hdup⟩ := withdrawTransmission_kept s
    unfold State.FramesKept
    rw [hpli]
    exact ⟨htx, hseq, fun h => hdup.trans h⟩
  | silent _ _ hpli =>
    unfold State.FramesKept
    rw [hpli]
    exact ⟨id, rfl, id⟩

theorem beginFrame_kept (s : State) :
    (beginFrame s).pli.sequence = s.pli.sequence ∧ (beginFrame s).pli.dup = s.pli.dup := by
  obtain hnone | ⟨-, x, xs, -, hbegun⟩ := beginFrame_cases s
  · rw [hnone]; exact ⟨rfl, rfl⟩
  · rw [hbegun]; exact ⟨rfl, rfl⟩

theorem completeSlot_kept (p : Pli) :
    (completeSlot p).sequence = (p.sequence + 1) % 16 ∧ (completeSlot p).dup = p.dup := by
  unfold completeSlot
  dsimp only
  split <;> exact ⟨rfl, rfl⟩

end Sys2Proof.Machine
end

section
/-! SUPPORT. Every command's effect on the plant line and the phase, and O8, O9 and O27. -/
namespace Sys2Proof.Machine

set_option Elab.async false

variable {s t u : State}

namespace State.LineGoes

theorem refl (s : State) : s.LineGoes s := .feeds (.refl s)

theorem ite {c : Prop} [Decidable c] (h : s.LineGoes t) (g : s.LineGoes u) : s.LineGoes (if c then t else u) := by
  split <;> assumption

/-- An operation on a condition, or none. -/
theorem orNot {c : Prop} [Decidable c] (h : s.LineGoes t) : s.LineGoes (if c then t else s) := h.ite (.refl s)

/-- The blocks' own work after or before what moves the line. -/
theorem fed (h : s.LineGoes t) (g : t.Feeds u) : s.LineGoes u := h.trans (.feeds g)

end State.LineGoes

theorem State.Feeds.goes (h : s.Feeds t) (g : t.LineGoes u) : s.LineGoes u := .trans (.feeds h) g

theorem fan_goes (order : List Taker) {takers : List Taker} {f : Taker → State → State}
    (h : ∀ x ∈ takers, ∀ s : State, s.LineGoes (f x s)) (s : State) : s.LineGoes (fan order takers f s) :=
  fan_induction order (P := State.LineGoes s) (fun x hx t ht => ht.trans (h x hx t)) s (.refl s)

/-! ## The receiver and the line faults (R78, R80, R82) -/

/-- A change of PLI's that touches nothing that is sent. -/
theorem onPli_goes {f : Pli → Pli} (h : s.pli.Heard (f s.pli)) : s.LineGoes (s.onPli f) := .hears h rfl

/-- A change of SUP's that leaves the phase. -/
theorem onSup_goes {f : Sup → Sup} (s : State) (h : (f s.sup).phase = s.sup.phase) : s.LineGoes (s.onSup f) :=
  .hears ⟨rfl, rfl, rfl, rfl, rfl, rfl, fun _ => .inl rfl⟩ h

theorem frameSeen_goes (s : State) : s.LineGoes (frameSeen s) := onPli_goes ⟨rfl, rfl, rfl, rfl, rfl, rfl, fun _ => .inr rfl⟩

/-- The fault window is no part of what is sent. -/
theorem addFault_heard (n : Nat) {p q : Pli} (h : p.Heard q) : p.Heard (addFault n q) := by
  obtain ⟨htx, hgranted, hqueue, hsending, hseq, hdup, hrx⟩ := h
  unfold addFault
  dsimp only
  generalize (if q.window.length < 21 then q.window else q.window.drop 1) ++ [n] = window
  split <;> exact ⟨htx, hgranted, hqueue, hsending, hseq, hdup, hrx⟩

theorem lineFaultNow_goes (order : List Taker) {count : Pli → Pli} (h : s.pli.Heard (count s.pli)) :
    s.LineGoes (lineFaultNow order count s) :=
  (onPli_goes (f := fun p => addFault s.now (count p)) (addFault_heard s.now h)).fed (takeCondition_feeds order _ _)

theorem discardFrame_goes (order : List Taker) (s : State) : s.LineGoes (discardFrame order s) :=
  .orNot (.ite ((frameSeen_goes s).trans (lineFaultNow_goes order ⟨rfl, rfl, rfl, rfl, rfl, rfl, fun _ => .inl rfl⟩))
    (frameSeen_goes s))

theorem lineStuckNow_goes (order : List Taker) (s : State) : s.LineGoes (lineStuckNow order s) :=
  .orNot ((onPli_goes ⟨rfl, rfl, rfl, rfl, rfl, rfl, fun _ => .inr rfl⟩).fed (takeCondition_feeds order _ _))

theorem lineStuckEnd_goes (order : List Taker) (s : State) : s.LineGoes (lineStuckEnd order s) :=
  .orNot ((onPli_goes ⟨rfl, rfl, rfl, rfl, rfl, rfl, fun _ => .inl rfl⟩).fed (takeCondition_feeds order _ _))

theorem faultTimeOut_goes (s : State) : s.LineGoes (faultTimeOut s) := by
  unfold faultTimeOut
  split
  · exact .orNot (onPli_goes ⟨rfl, rfl, rfl, rfl, rfl, rfl, fun _ => .inl rfl⟩)
  · exact .refl s

theorem rateFaultEnd_goes (order : List Taker) (s : State) : s.LineGoes (rateFaultEnd order s) := by
  unfold rateFaultEnd
  split
  · exact .orNot ((onPli_goes ⟨rfl, rfl, rfl, rfl, rfl, rfl, fun _ => .inl rfl⟩).fed (takeCondition_feeds order _ _))
  · exact .refl s

/-! ## An attempt that does not complete (R74, R75) -/

/-- After a contention loss the counters and the receiver alone differ from the attempt's end. -/
theorem endAttempt_countLoss_heard (p : Pli) (rx : RxState) :
    (endAttempt p).Heard { endAttempt (countLoss p) with rx := rx } := by
  have hcount : (countLoss p).granted = p.granted ∧ (countLoss p).queue = p.queue ∧ (countLoss p).sequence = p.sequence ∧
      (countLoss p).dup = p.dup := by
    unfold countLoss
    dsimp only
    split <;> exact ⟨rfl, rfl, rfl, rfl⟩
  obtain ⟨hgranted, hqueue, hseq, hdup⟩ := hcount
  unfold endAttempt
  rw [hgranted]
  split
  · exact ⟨rfl, rfl, hqueue, rfl, hseq, hdup, nofun⟩
  · exact ⟨rfl, hgranted, rfl, rfl, hseq, hdup, nofun⟩

theorem loseContention_goes (s : State) : s.LineGoes (loseContention s) := by
  unfold loseContention
  split
  · next htx => exact .trans (.attempt htx) (.hears (endAttempt_countLoss_heard s.pli _) rfl)
  · exact .refl s

theorem failDrive_goes (order : List Taker) (s : State) : s.LineGoes (failDrive order s) := by
  unfold failDrive
  split
  · next htx =>
    exact .trans (.attempt htx) (lineFaultNow_goes order ⟨rfl, rfl, rfl, rfl, rfl, rfl, fun _ => .inr rfl⟩)
  · exact .refl s

/-! ## LISTEN, OPERATING and DORMANT entry (R178 to R182) -/

theorem logWake_feeds (s : State) : s.Feeds (logWake s) := (logWake_changedOnly s).feeds

theorem listenEntry_goes (order : List Taker) (wake : Bool) (hs : s.sup.phase ≠ .operating) :
    s.LineGoes (listenEntry order wake s) := by
  refine .trans (.silent hs (t := s.onSup _) (by simp) rfl) (fan_goes order ?_ _)
  simp only [List.forall_mem_cons]
  exact ⟨fun s => .feeds (onMch_feeds _ s), fun s => onPli_goes ⟨rfl, rfl, rfl, rfl, rfl, rfl, fun _ => .inr rfl⟩,
    fun s => .orNot (.feeds (clearPeers_feeds order s)), fun s => .ite (.refl s) (.feeds (rectDrive_changedOnly s).feeds),
    fun s => .feeds (aluOnListen_feeds order s), List.forall_mem_nil _⟩

theorem wakeUp_goes (order : List Taker) (cause : StartCause) (s : State) : s.LineGoes (wakeUp order cause s) := by
  cases hasleep : s.asleep with
  | false =>
    rw [wakeUp_of_awake order cause hasleep]
    exact .refl s
  | true =>
    have hphase : s.sup.phase = .dormant := by simpa [State.asleep] using hasleep
    have hwoken : (wakeSup cause s).sup.phase = .dormant := by
      unfold wakeSup
      dsimp only
      split <;> exact hphase
    rw [wakeUp_of_asleep order cause hasleep]
    exact .trans (.silent (by simp [hphase]) (by simp [hwoken]) (wakeSup_changedOnly cause s).pli)
      (listenEntry_goes order true (by simp [hwoken]))

theorem siteWake_goes (order : List Taker) (s : State) : s.LineGoes (siteWake order s) := .orNot (wakeUp_goes order _ s)

theorem sdoOnOperating_feeds (s : State) : s.Feeds (sdoOnOperating s) := by
  unfold sdoOnOperating
  exact (onSdo_changedOnly _ s).feeds

theorem enterOperating_goes (order : List Taker) (hs : s.sup.phase = .listen ∨ s.sup.phase = .check) :
    s.LineGoes (enterOperating order s) := by
  have hwake : s.Feeds (if s.sup.startCause = .wakeTimer then logWake s else s) := .orNot (logWake_feeds s)
  have hnotes : ∀ t : State, t.Feeds (enqueuePoint (enqueueStatus (enqueueHello t))) := fun t =>
    ((enqueue_feeds _ _ t).trans (enqueueStatus_feeds _)).trans (enqueuePoint_feeds _)
  refine hwake.goes (.trans (.grant (by rwa [hwake.phase])) (State.Feeds.goes (hnotes _) (.feeds (fan_feeds order ?_ _))))
  simp only [List.forall_mem_cons]
  exact ⟨sdoOnOperating_feeds, cscOnOperating_feeds order, fun s => (cbuOnOperating_changedOnly s).feeds,
    fun s => (gcoOnOperating_changedOnly s).feeds, fun s => (recomputeRelays_changedOnly s).feeds,
    fun s => (updateLeanDwell_feeds s).trans (updateDormantDwell_feeds _), List.forall_mem_nil _⟩

theorem leaveCheck_goes (order : List Taker) (s : State) : s.LineGoes (leaveCheck order s) := by
  unfold leaveCheck
  split
  · next hfound => exact enterOperating_goes order (.inr hfound.1)
  · exact .refl s

theorem dormantEntry_goes (order : List Taker) (s : State) : s.LineGoes (dormantEntry order s) := by
  refine State.Feeds.goes (onSdo_changedOnly _ s).feeds (fan_goes order ?_ _)
  simp only [List.forall_mem_cons]
  refine ⟨fun s => .feeds ((onMch_feeds _ s).trans (takeConditions_feeds order _ _)),
    fun s => .feeds (onSac_changedOnly _ s).feeds, fun s => .feeds (onCsc_feeds _ s), fun s => ?_,
    fun s => .feeds (onCbu_changedOnly _ s).feeds, fun s => .feeds (rotOnDormant_feeds order s),
    fun s => .feeds (gcoOnDormant_feeds order s), fun s => .feeds (onAlu_feeds _ s), List.forall_mem_nil _⟩
  exact (onPli_goes ⟨rfl, rfl, rfl, rfl, rfl, rfl, fun _ => .inr rfl⟩).fed (takeCondition_feeds order _ _)

/-- What follows the change of phase at the fall asleep. -/
theorem fallAsleep_goes_after (order : List Taker) (s : State) :
    (s.onSup (supSleep s.wakeTime)).LineGoes (fallAsleep order s) :=
  (State.Feeds.goes (recomputeRelays_changedOnly _).feeds (dormantEntry_goes order _)).fed (triggerWrite_feeds _)

theorem fallAsleep_goes (order : List Taker) (hs : s.sup.phase ≠ .operating) : s.LineGoes (fallAsleep order s) :=
  .trans (.silent hs (t := s.onSup _) (by simp [supSleep]) rfl) (fallAsleep_goes_after order s)

theorem stopStation_goes (order : List Taker) (s : State) : s.LineGoes (stopStation order s) := by
  have hlog := logEntry_changedOnly .mode 0 (twoParts s.sup.mode.code Mode.dormant.code) (withdrawTransmission s)
  refine .trans (.withdraw ?_ rfl) (fallAsleep_goes_after order _)
  exact hlog.pli

/-! ## The received notes -/

theorem hearNote_goes (order : List Taker) (station seq length : Nat) {n : State → NoteContent}
    (hn : ∀ s, (n s).Feeding) (s : State) : s.LineGoes (hearNote order station seq length n s) := by
  unfold hearNote
  dsimp only
  split
  · exact discardFrame_goes order s
  · split
    · exact .refl s
    · next hreceive =>
      have hrx : s.pli.rx ≠ .hunt := by
        simp only [State.canReceive, Bool.not_eq_false, Bool.and_eq_true, bne_iff_ne] at hreceive
        exact hreceive.2
      refine .ite ((frameSeen_goes s).trans (wakeUp_goes order _ _)) (.ite ?_ ?_)
      · exact State.LineGoes.fed (.duplicate hrx) (takeCondition_feeds order _ _)
      · exact ((frameSeen_goes s).fed (onSup_feeds _ rfl rfl)).fed (takeNote_feeds order station seq (hn _) _)

theorem hearAsleep_goes (order : List Taker) (frame : List Byte) (s : State) : s.LineGoes (hearAsleep order frame s) :=
  .orNot (.ite ((frameSeen_goes s).trans (wakeUp_goes order _ _)) (frameSeen_goes s))

theorem acMove_goes (order : List Taker) (f : AcCapture → AcCapture) (s : State) : s.LineGoes (acMove order f s) := by
  have hmove : s.Feeds (s.onMch fun m => { m with ac := f m.ac }) := onMch_feeds _ s
  refine .ite (.feeds hmove) (hmove.goes (fan_goes order ?_ _))
  simp only [List.forall_mem_cons]
  exact ⟨fun s => .feeds (recomputeViews_feeds order s), fun s => .orNot (wakeUp_goes order _ s), List.forall_mem_nil _⟩

/-! ## A frame that completes (R85, R180, R184) -/

/-- The head's frame on the line completes, or nothing happens. -/
theorem completeFrame_cases (order : List Taker) (s : State) :
    completeFrame order s = s ∨
      s.pli.tx = .send ∧ ∃ x xs frame, s.pli.queue = x :: xs ∧ s.pli.sending = some frame ∧
        completeFrame order s = handCompletion order frame x.kind (s.onPli completeSlot) := by
  unfold completeFrame
  split
  · next x xs frame htx hqueue hsending => exact .inr ⟨htx, x, xs, frame, hqueue, hsending, rfl⟩
  · exact .inl rfl

theorem handCompletion_goes (order : List Taker) (frame : List Byte) (kind : NoteKind) (s : State) :
    s.LineGoes (handCompletion order frame kind s) := by
  unfold handCompletion
  split
  · exact .feeds (rotOnSent_changedOnly _ s).feeds
  · exact .feeds (rotOnSent_changedOnly _ s).feeds
  · exact .ite (stopStation_goes order s) (.orNot (.feeds (onSup_feeds s rfl rfl)))
  · exact .refl s

/-! ## The resets and the end of LOAD (R175, R176) -/

/-- PLI stands as at a reset, in HELD. -/
def State.LineReset (t : State) : Prop := t.pli = Pli.reset ∧ t.sup.phase = .held

theorem resetNow_lineReset (kind : ResetKind) (s : State) : (resetNow kind s).LineReset := by
  obtain ⟨hsup, -, -, hpli, -⟩ := resetNow_freshlyReset kind s
  exact ⟨hpli, by rw [hsup]; rfl⟩

theorem endLoad_goes (order : List Taker) (programmed : List (Nat × Byte)) (silent : List Nat)
    (hs : s.sup.phase = .load) : s.LineGoes (endLoad order programmed silent s) := by
  have hloaded : (loaded programmed silent s).pli = s.pli :=
    (loadBlocks_changedOnly _ (s.onStore fun m => storeProgram m programmed)).pli
  have hphase : (loadNotes programmed silent s).sup.phase = .load := by
    have hkept := (loadNotes_keeps programmed silent s .schedule (by decide)).2.1
    obtain ⟨part, hsup⟩ := loadBlocks_sup (loadFound programmed silent s) (s.onStore fun m => storeProgram m programmed)
    rw [hkept, loaded, hsup]
    exact hs
  rw [endLoad_eq]
  refine .trans (.silent (by simp [hs]) (by simp [hphase]) ?_) (listenEntry_goes order false (by simp [hphase]))
  exact (loadNotes_changedOnly programmed silent s).pli.trans hloaded

/-! ## The site port -/

theorem validFrame_goes (order : List Taker) (s : State) : s.LineGoes (validFrame order s) :=
  (State.Feeds.goes ((onSup_feeds s rfl rfl).trans (abandonEntryWait_feeds _)) (leaveCheck_goes order _)).fed
    (leaveLean_feeds order _)

/-- A request is judged by what its owner's answer feeds. -/
theorem siteRequest_goes (order : List Taker) (c : SiteCommand) (args : List Byte) {owner : State → Answer}
    (h : ∀ s : State, s.Feeds (owner s).after) (s : State) : s.LineGoes (siteRequest order c args owner s) := by
  have hanswer : ∀ u : State, u.Feeds (answerRequest c args owner u).after := fun u => by
    unfold answerRequest
    split
    · exact .refl u
    · split
      · split <;> exact .refl u
      · exact h u
  exact .ite (siteWake_goes order s) (.ite (.refl s)
    ((validFrame_goes order s).fed ((hanswer _).trans (respond_feeds c _))))

theorem answerOf_feeds {r : RefuseReason ⊕ State} (h : ∀ t, r = .inr t → s.Feeds t) : s.Feeds (answerOf s r).after := by
  cases r with
  | inl reason => exact .refl s
  | inr t => exact h t rfl

theorem rectForce_feeds (order : List Taker) (arg : Nat) (s : State) : s.Feeds (rectForce order arg s).after := by
  unfold rectForce
  split
  · exact answerOf_feeds fun _ => rotForceRun_feeds order
  · exact answerOf_feeds fun _ => rotForceRest_feeds order
  · exact answerOf_feeds fun _ => rotRelease_feeds order
  · exact .refl s

theorem equalize_feeds (order : List Taker) (arg : Nat) (s : State) : s.Feeds (equalize order arg s).after := by
  unfold equalize
  split
  · exact (cscEqualizeStart_changedOnly s).feeds
  · exact stageEvent_feeds order _ none s
  · exact .refl s

theorem forgetPeer_feeds (order : List Taker) (n : Nat) (s : State) : s.Feeds (forgetPeer order n s).after := by
  unfold forgetPeer
  split
  · exact .refl s
  · split
    · exact forgetRecord_feeds order _ s
    · exact .refl s

theorem peerRead_feeds (n : Nat) (s : State) : s.Feeds (peerRead n s).after := by
  unfold peerRead
  split
  · exact .refl s
  · split <;> exact .refl s

theorem siteUnknown_goes (order : List Taker) (code : Byte) (s : State) : s.LineGoes (siteUnknown order code s) :=
  .ite (siteWake_goes order s) (.ite (.refl s) ((validFrame_goes order s).fed (onSup_feeds _ rfl rfl)))

theorem siteBadFrame_goes (order : List Taker) (why : SiteFrameFault) (s : State) :
    s.LineGoes (siteBadFrame order why s) :=
  .ite (siteWake_goes order s) (.ite (.refl s) (onSup_goes s rfl))

/-! ## Every command -/

/-- A command goes as its body does. -/
theorem command_goes {c : Instr} {w : Moment} {body : State → State} (h : command w body s = .next t)
    (hb : ∀ s : State, s.LineGoes (body s)) : Instr.LineGoes c s t := by
  cases h
  exact .plain (State.Feeds.goes (advance_feeds _ s) ((hb _).trans (leaveCheck_goes _ _)))

theorem command_feeds {c : Instr} {w : Moment} {body : State → State} (h : command w body s = .next t)
    (hb : ∀ s : State, s.Feeds (body s)) : Instr.LineGoes c s t := command_goes h fun s => .feeds (hb s)

/-- A command whose body is a reset, or else goes. -/
theorem command_resets {c : Instr} (hc : c.canReset = true) {w : Moment} {body : State → State}
    (h : command w body s = .next t) (hb : ∀ s : State, (body s).LineReset ∨ s.LineGoes (body s)) :
    Instr.LineGoes c s t := by
  cases h
  rcases hb (advance w.elapsed s) with ⟨hpli, hphase⟩ | hgoes
  · rw [leaveCheck_of_phase _ (by simp [hphase])]
    exact .resets hc hpli hphase
  · exact .plain (State.Feeds.goes (advance_feeds _ s) (hgoes.trans (leaveCheck_goes _ _)))

theorem resetCause_lineReset_or (kind : ResetKind) (s : State) :
    (resetCause kind s).LineReset ∨ s.LineGoes (resetCause kind s) := by
  unfold resetCause
  split
  · exact .inr (.feeds (onSup_feeds s rfl rfl))
  · exact .inl (resetNow_lineReset kind s)

theorem exec_frameComplete_goes {w : Moment} (h : exec (.frameComplete w) s = .next t) :
    Instr.LineGoes (.frameComplete w) s t := by
  cases h
  obtain hnone | ⟨htx, x, xs, frame, -, -, hdone⟩ := completeFrame_cases w.order (advance w.elapsed s)
  · rw [hnone]
    exact .plain (State.Feeds.goes (advance_feeds w.elapsed s) (leaveCheck_goes _ _))
  · rw [hdone]
    exact .completes (.feeds (advance_feeds w.elapsed s)) htx
      ((handCompletion_goes w.order _ _ _).trans (leaveCheck_goes _ _))

theorem exec_goes {c : Instr} (h : exec c s = .next t) : Instr.LineGoes c s t := by
  cases c
  case frameComplete _ => exact exec_frameComplete_goes h
  all_goals unfold exec at h; dsimp only at h
  case frameBegin w =>
    cases h
    exact .begins (.feeds (advance_feeds w.elapsed s)) (leaveCheck_goes _ _)
  case powerOn _ => exact command_resets rfl h fun s => .inl (resetNow_lineReset _ s)
  case pin _ => exact command_resets rfl h fun s => resetCause_lineReset_or _ s
  case brownOut _ =>
    refine command_resets rfl h fun s => ?_
    split
    · exact resetCause_lineReset_or _ s
    · exact .inr (.refl s)
  case restartReset _ =>
    refine command_resets rfl h fun s => ?_
    split
    · exact .inl (resetNow_lineReset _ s)
    · exact .inr (.refl s)
  case heldEnd _ _ =>
    refine command_goes h fun s => ?_
    split
    · next hheld => exact .silent (by simp [hheld]) (by simp) rfl
    · exact .refl s
  case loadEnd w programmed silent =>
    refine command_goes h fun s => ?_
    split
    · next hload => exact endLoad_goes w.order programmed silent hload
    · exact .refl s
  case supplyCheck _ zone => exact command_feeds h (checkSupply_feeds zone)
  case listenEnd _ =>
    refine command_goes h fun s => ?_
    split
    · next hlisten =>
      exact .ite (.silent (by simp [hlisten.1]) (by simp) rfl) (enterOperating_goes _ (.inl hlisten.1))
    · exact .refl s
  case checkEnd _ =>
    refine command_goes h fun s => ?_
    split
    · next hcheck => exact fallAsleep_goes _ (by simp [hcheck.1])
    · exact .refl s
  case measurementSet w sums =>
    rw [execMeasurementSet] at h
    split at h
    · exact command_feeds h (endPeriod_feeds w.order sums)
    · cases h
  case acEdge _ | edgeTimeout _ => exact command_goes h fun s => .orNot (acMove_goes _ _ s)
  case contactQualified _ i => exact command_feeds h (qualifyContact_feeds _ i)
  case contactSample _ _ => exact command_feeds h fun s => .orNot (onMch_feeds _ s)
  case pulseEnd _ =>
    refine command_feeds h fun s => ?_
    split
    · exact .orNot (onSdo_changedOnly _ s).feeds
    · exact .refl s
  case confirmationWindowExpiry _ =>
    refine command_feeds h fun s => ?_
    split
    · exact .orNot (sdoOnWindow_feeds _ _ s)
    · exact .refl s
  case contentionLoss _ => exact command_goes h loseContention_goes
  case driveFault _ => exact command_goes h (failDrive_goes _)
  case lineStuck _ => exact command_goes h (lineStuckNow_goes _)
  case lineStuckClear _ => exact command_goes h (lineStuckEnd_goes _)
  case lineError _ _ => exact command_goes h (discardFrame_goes _)
  case faultTimeExpiry _ => exact command_goes h faultTimeOut_goes
  case rateFaultClear _ => exact command_goes h (rateFaultEnd_goes _)
  case lineIdle _ =>
    refine command_goes h fun s => ?_
    split
    · next hidle => exact onPli_goes ⟨rfl, rfl, rfl, rfl, rfl, rfl, fun htx => absurd htx hidle.2.2⟩
    · exact .refl s
  case courtesySatisfied _ =>
    exact command_goes h fun s => .orNot (onPli_goes ⟨rfl, rfl, rfl, rfl, rfl, rfl, fun _ => .inl rfl⟩)
  case statusNote _ _ _ _ => exact command_goes h (hearNote_goes _ _ _ _ (statusContent_feeding _ _ _))
  case genNote _ _ _ _ _ => exact command_goes h (hearNote_goes _ _ _ _ fun _ => genContent_feeding _ _ _ _)
  case restNote _ _ _ _ _ => exact command_goes h (hearNote_goes _ _ _ _ (restContent_feeding _ _ _ _))
  case wakeNote _ _ _ _ _ => exact command_goes h (hearNote_goes _ _ _ _ (wakeContent_feeding _ _))
  case pointNote _ _ _ _ | helloNote _ _ _ _ _ | quietNote _ _ _ _ =>
    exact command_goes h (hearNote_goes _ _ _ _ fun _ => .of_idle rfl rfl)
  case dormantLineFrame _ frame => exact command_goes h (hearAsleep_goes _ frame)
  case statusPeriodicTimer _ => exact command_feeds h fun s => .orNot (enqueueStatus_feeds s)
  case statusSpacingEnd _ =>
    exact command_feeds h fun s => .orNot (.ite (enqueueStatus_feeds s) ⟨Pli.fed_timers _ _ _ _, rfl, rfl⟩)
  case agingCheck _ => exact command_feeds h fun s => .orNot (ageRecords_feeds _ s)
  case intentExpiry _ _ => exact command_feeds h fun s => .orNot (expireIntent_changedOnly _ s).feeds
  case rotationTick _ => exact command_feeds h fun s => .orNot (rotTick_feeds _ s)
  case settleExpiry _ | failClearExpiry _ => exact command_feeds h fun s => .orNot (enterRect_feeds _ _ s)
  case rampStep _ =>
    refine command_feeds h fun s => ?_
    split
    · exact .orNot (rotRamp_feeds _ _ s)
    · exact .refl s
  case genCheck _ => exact command_feeds h fun s => .orNot (gcoTick_feeds _ s)
  case startTimeout _ => exact command_feeds h fun s => .orNot (gcoStartFailure_feeds _ s)
  case restTimerExpiry _ | epochSettle _ => exact command_feeds h fun s => .orNot (gcoMove_feeds _ _ _ s)
  case qualifyExpiry _ _ => exact command_feeds h fun s => .orNot (handPoint_feeds _ _ _ s)
  case pointTimer _ => exact command_feeds h fun s => .orNot (enqueuePoint_feeds s)
  case leanDwell _ => exact command_feeds h fun s => .orNot (tryLean_feeds _ s)
  case siteHoldEnd _ =>
    exact command_feeds h fun s => .orNot (((onSup_feeds s rfl rfl).trans (tryLean_feeds _ _)).trans (tryDormant_feeds _ _))
  case dormantDwell _ => exact command_feeds h fun s => .orNot (tryDormant_feeds _ s)
  case entryWaitTimeout _ => exact command_goes h fun s => .orNot (stopStation_goes _ s)
  case wakeTimer _ => exact command_goes h fun s => .orNot (wakeUp_goes _ _ s)
  case sitePortWake _ => exact command_goes h (siteWake_goes _)
  case periodicWriteTimer _ =>
    exact command_feeds h fun s => .orNot ((onSup_feeds s rfl rfl).trans (triggerWrite_feeds _))
  case retainedWriteEnd _ _ =>
    refine command_feeds h fun s => ?_
    split
    · exact endWrite_feeds _ _ _ s
    · exact .refl s
  case siteBadFrame _ why => exact command_goes h (siteBadFrame_goes _ why)
  case unknown _ code _ => exact command_goes h (siteUnknown_goes _ code)
  case statusRead _ args | pointsRead _ args => exact command_goes h (siteRequest_goes _ _ args .refl)
  case peerRead _ args => exact command_goes h (siteRequest_goes _ _ args (peerRead_feeds _))
  case logRead _ args => exact command_goes h (siteRequest_goes _ _ args fun s => (aluConsumeLog_changedOnly s).feeds)
  case ack _ args => exact command_goes h (siteRequest_goes _ _ args (aluAck_feeds _))
  case rectForceRun _ args | rectForceRest _ args | release _ args =>
    exact command_goes h (siteRequest_goes _ _ args (rectForce_feeds _ _))
  case genTest _ args =>
    exact command_goes h (siteRequest_goes _ _ args fun _ => answerOf_feeds fun _ => gcoTest_feeds _ _)
  case lockoutClear _ args =>
    exact command_goes h (siteRequest_goes _ _ args fun _ => answerOf_feeds fun _ => gcoClear_feeds _)
  case equalizeStart _ args | equalizeStop _ args => exact command_goes h (siteRequest_goes _ _ args (equalize_feeds _ _))
  case resyncFull _ args => exact command_goes h (siteRequest_goes _ _ args (sacFullResync_feeds _))
  case forgetPeer _ args => exact command_goes h (siteRequest_goes _ _ args (forgetPeer_feeds _ _))
  case restart _ args => exact command_goes h (siteRequest_goes _ _ args beginRestart_feeds)
  case overrun _ | sitePortGap _ => exact command_goes h fun s => .orNot (onSup_goes s rfl)

/-- A change found in CHECK does not wait beyond the command (R182). -/
theorem leaveCheck_steady (order : List Taker) (s : State) : (leaveCheck order s).Steady := by
  unfold leaveCheck
  split
  · exact fun hcheck => absurd (hcheck.symm.trans (enterOperating_phase order s)) (by decide)
  · next hfound => exact fun hcheck => by simpa [hcheck] using hfound

theorem exec_steady {c : Instr} (h : exec c s = .next t) : t.Steady := by
  cases c with
  | measurementSet w sums =>
    rw [exec, execMeasurementSet] at h
    split at h
    · cases h
      exact leaveCheck_steady _ _
    · cases h
  | _ =>
    cases h
    exact leaveCheck_steady _ _

/-! ## The obligations -/

/-- Settles O8: the queue is kept in order by each change of which a command's effect on the line is made. -/
theorem theTransmitQueueStaysInOrder : Obligations.TheTransmitQueueStaysInOrder := fun s t hs h => by
  rw [State.queueInOrder_iff] at *
  unfold step at h
  split at h
  · cases h
    exact hs
  · exact (exec_goes h).inOrder hs

/-- Settles O9: each change keeps the grant with the phase, and each command ends with the change found in CHECK taken. -/
theorem transmissionFollowsThePhase : Obligations.TransmissionFollowsThePhase := fun s t hs h => by
  unfold step at h
  split at h
  · cases h
    exact hs
  · rw [State.lineMatchesPhase_iff] at *
    exact ⟨(exec_goes h).grantMatches (s := s.onPending _) hs.1, exec_steady h⟩

/-- Settles O27. -/
theorem framesAndTheSequenceGoTogether : Obligations.FramesAndTheSequenceGoTogether := fun c s t h => by
  cases exec_goes h with
  | plain hgoes =>
    obtain ⟨htx, hseq, hdup⟩ := hgoes.framesKept
    exact ⟨fun _ => htx, fun _ _ => hseq, fun _ => .inl hseq, fun _ => hdup⟩
  | @begins w _ u _ hgoes ggoes =>
    obtain ⟨-, hseq, hdup⟩ := hgoes.framesKept
    obtain ⟨-, gseq, gdup⟩ := ggoes.framesKept
    obtain ⟨hbegun, hbegunDup⟩ := beginFrame_kept u
    have hsame : t.pli.sequence = s.pli.sequence := gseq.trans (hbegun.trans hseq)
    exact ⟨fun hne => absurd rfl (hne w), fun _ _ => hsame, fun _ => .inl hsame,
      fun _ hs => gdup (hbegunDup.trans (hdup hs))⟩
  | @completes w _ u _ hgoes hsend ggoes =>
    obtain ⟨htx, hseq, hdup⟩ := hgoes.framesKept
    obtain ⟨-, gseq, gdup⟩ := ggoes.framesKept
    obtain ⟨hnext, hnextDup⟩ := completeSlot_kept u.pli
    have hadvanced : t.pli.sequence = (s.pli.sequence + 1) % 16 := by rw [gseq, State.onPli_pli, hnext, hseq]
    exact ⟨fun _ _ => htx hsend, fun hne => absurd rfl (hne w), fun _ => .inr hadvanced,
      fun _ hs => gdup (hnextDup.trans (hdup hs))⟩
  | resets hc hpli _ =>
    refine ⟨fun _ htx => ?_, fun _ hno => ?_, fun hno => ?_, fun hno => ?_⟩
    · rw [hpli] at htx
      cases htx
    all_goals rw [hc] at hno; cases hno

end Sys2Proof.Machine
end

section
/-! SUPPORT. O45: the notes sent on time (R84, R88 to R90, R169). -/
namespace Sys2Proof.Machine

set_option Elab.async false

variable {s : State}

/-! ## What an enqueue leaves -/

/-- While transmission is granted a note's slot is all that an enqueue changes, but that an EMPTY transmitter waits. -/
theorem enqueue_of_granted (k : NoteKind) (payload : List Byte) (hgranted : s.pli.granted = true) :
    (enqueue k payload s).pli =
      { s.pli with queue := (enqueue k payload s).pli.queue, tx := if s.pli.tx = .empty then .wait else s.pli.tx } := by
  rw [enqueue, if_pos hgranted]
  rfl

theorem enqueue_eq_onPli (k : NoteKind) (payload : List Byte) (s : State) :
    enqueue k payload s = s.onPli fun _ => (enqueue k payload s).pli := by
  unfold enqueue
  split <;> rfl

/-- A STATUS of the state as it stands takes its slot, and the two timers start again (R88, R89). -/
structure State.SentStatus (s t : State) : Prop where
  queued : s.pli.EnqueuedTo .status (encodeStatus s.ownStatus) t.pli
  waits : s.pli.tx = .empty → t.pli.tx = .wait
  due : t.pli.statusDue = some (s.now + if s.sup.mode = .lean then 10000 else 2000)
  spacing : t.pli.spacingEnd = some (s.now + 250) ∧ t.pli.deferred = false
  rest : t.pli = { s.pli with queue := t.pli.queue, tx := t.pli.tx, statusDue := t.pli.statusDue
                              spacingEnd := t.pli.spacingEnd, deferred := t.pli.deferred }

theorem statusInterval_eq (m : Mode) : statusInterval m = if m = .lean then 10000 else 2000 := by cases m <;> rfl

theorem enqueueStatus_sentStatus (hgranted : s.pli.granted = true) : s.SentStatus (enqueueStatus s) := by
  have hrest := enqueue_of_granted .status (encodeStatus s.ownStatus) hgranted
  obtain ⟨hholds, hkinds⟩ := enqueue_enqueuedTo .status (encodeStatus s.ownStatus) hgranted
  rw [enqueueStatus, if_pos hgranted]
  refine ⟨⟨hholds, hkinds⟩, fun htx => ?_, ?_, ⟨rfl, rfl⟩, ?_⟩
  · rw [State.onPli_pli, hrest]
    exact if_pos htx
  · simp only [State.onPli_pli, statusInterval_eq]
  · rw [State.onPli_pli, hrest]

/-! ## The commands -/

theorem statusPeriodicTimer_eq (w : Moment) (hs : s.Steady) (hdue : due s.pli.statusDue (s.upTo w).now = true) :
    exec (.statusPeriodicTimer w) s = .next (enqueueStatus (s.upTo w)) := by
  rw [exec, execStatusPeriodicTimer, command_eq, if_pos (by simpa using hdue),
    leaveCheck_of_steady _ (by simpa [State.Steady, (enqueueStatus_changedOnly _).sup] using hs)]

theorem statusSpacingEnd_eq (w : Moment) (hs : s.Steady) (hdue : due s.pli.spacingEnd (s.upTo w).now = true) :
    exec (.statusSpacingEnd w) s = .next
      (if s.pli.deferred = true then enqueueStatus (s.upTo w)
       else (s.upTo w).onPli fun p => { p with spacingEnd := none }) := by
  rw [exec, execStatusSpacingEnd, command_eq, if_pos (by simpa using hdue), upTo_pli, leaveCheck_of_steady]
  split
  · simpa [State.Steady, (enqueueStatus_changedOnly _).sup] using hs
  · simpa [State.Steady] using hs

theorem pointTimer_eq (w : Moment) (hs : s.Steady) (hdue : due s.alu.pointTimerAt (s.upTo w).now = true) :
    exec (.pointTimer w) s = .next (enqueuePoint (s.upTo w)) := by
  rw [exec, execPointTimer, command_eq, if_pos (by rw [upTo_alu]; exact hdue),
    leaveCheck_of_steady _ (by simpa [State.Steady, (enqueuePoint_changedOnly _).sup] using hs)]

/-- A STATUS sent as a command finds the state, in the terms of the state before it. -/
theorem sentStatus_upTo (w : Moment) (hgranted : s.pli.granted = true) :
    s.pli.EnqueuedTo .status (encodeStatus (s.upTo w).ownStatus) (enqueueStatus (s.upTo w)).pli ∧
      (s.pli.tx = .empty → (enqueueStatus (s.upTo w)).pli.tx = .wait) ∧
      (enqueueStatus (s.upTo w)).pli.statusDue = some ((s.upTo w).now + if s.sup.mode = .lean then 10000 else 2000) ∧
      ((enqueueStatus (s.upTo w)).pli.spacingEnd = some ((s.upTo w).now + 250) ∧
        (enqueueStatus (s.upTo w)).pli.deferred = false) ∧
      (enqueueStatus (s.upTo w)).pli =
        { s.pli with queue := (enqueueStatus (s.upTo w)).pli.queue, tx := (enqueueStatus (s.upTo w)).pli.tx
                     statusDue := (enqueueStatus (s.upTo w)).pli.statusDue
                     spacingEnd := (enqueueStatus (s.upTo w)).pli.spacingEnd
                     deferred := (enqueueStatus (s.upTo w)).pli.deferred } ∧
      (s.upTo w).ChangedOnly [.pli] (enqueueStatus (s.upTo w)) := by
  obtain ⟨hqueued, hwaits, hdue, hspacing, hrest⟩ := enqueueStatus_sentStatus (s := s.upTo w) (by simpa using hgranted)
  simp only [upTo_pli, upTo_sup] at hqueued hwaits hdue hrest
  exact ⟨hqueued, hwaits, hdue, hspacing, hrest, enqueueStatus_changedOnly _⟩

/-- Settles O45. -/
theorem statusAndPointsAreSentOnTime : Obligations.StatusAndPointsAreSentOnTime := by
  refine ⟨fun w s hs hgranted hdue => ?_, fun w s hs hgranted hdue hdeferred => ?_, fun w s hs hdue hdeferred => ?_,
    fun w s hs hgranted hdue => ?_⟩
  · exact ⟨_, statusPeriodicTimer_eq w hs hdue, sentStatus_upTo w hgranted⟩
  · refine ⟨_, statusSpacingEnd_eq w hs hdue, ?_⟩
    rw [if_pos hdeferred]
    exact sentStatus_upTo w hgranted
  · rw [statusSpacingEnd_eq w hs hdue, if_neg (by simp [hdeferred])]
  · refine ⟨_, pointTimer_eq w hs hdue, ?_⟩
    have hg : (s.upTo w).pli.granted = true := by simpa using hgranted
    have hqueued := enqueue_enqueuedTo .point (s.upTo w).pointPayload hg
    have hrest := enqueue_of_granted .point (s.upTo w).pointPayload hg
    simp only [upTo_pli] at hqueued hrest
    rw [enqueuePoint, if_pos hg]
    exact ⟨hqueued, hrest, congrArg _ (enqueue_eq_onPli .point (s.upTo w).pointPayload (s.upTo w))⟩

end Sys2Proof.Machine
end

section
/-! SUPPORT. O33: the wakes by the timer, by a site byte and by a passing frame (R80, R91, R102, R178, R181). -/
namespace Sys2Proof.Machine

set_option Elab.async false

variable {s t : State} {cause : StartCause}

/-! ## What LISTEN entry leaves at a wake -/

theorem Pli.Fed.courtesyPending {p q : Pli} (h : p.Fed q) : q.courtesyPending = p.courtesyPending := by rw [h.rest]

theorem wakeTakes_leaves (order : List Taker) (x : Taker) (s : State) :
    (wakeTakes order x s).pli.courtesyPending = s.pli.courtesyPending ∧
      (wakeTakes order x s).sup.siteDiscard = s.sup.siteDiscard := by
  have hfed : ∀ {u : State}, s.Feeds u →
      u.pli.courtesyPending = s.pli.courtesyPending ∧ u.sup.siteDiscard = s.sup.siteDiscard := fun h =>
    ⟨h.line.courtesyPending, h.discard⟩
  cases x with
  | pli => exact ⟨rfl, rfl⟩
  | ptb => exact hfed (clearPeers_feeds order s)
  | alu => exact hfed (aluOnListen_feeds order s)
  | _ => exact ⟨rfl, rfl⟩

/-- A wake leaves courtesy as it stands, and has the site port discard exactly when a byte on it was the cause (R181). -/
theorem wakeUp_leaves (order : List Taker) (cause : StartCause) (h : s.asleep = true) :
    (wakeUp order cause s).pli.courtesyPending = s.pli.courtesyPending ∧
      (wakeUp order cause s).sup.siteDiscard = (cause == .wakeSite) := by
  have hdiscard : (wakeSup cause s).sup.siteDiscard = (cause == .wakeSite) := by
    unfold wakeSup
    dsimp only
    split <;> rfl
  rw [wakeUp_of_asleep order cause h, listenEntry_eq]
  refine fan_induction order
    (P := fun u => u.pli.courtesyPending = s.pli.courtesyPending ∧ u.sup.siteDiscard = (cause == .wakeSite))
    (fun x _ u hu => ?_) _ ⟨congrArg Pli.courtesyPending (wakeSup_changedOnly cause s).pli, hdiscard⟩
  obtain ⟨hcourtesy, hsite⟩ := wakeTakes_leaves order x u
  exact ⟨hcourtesy.trans hu.1, hsite.trans hu.2⟩

/-- A wake moves no part of the accountant's, of the settings or of the store. -/
theorem wakeUp_changedOnly_of_asleep (order : List Taker) (cause : StartCause) (h : s.asleep = true) :
    s.ChangedOnly [.mch, .pli, .ptb, .alu, .sup, .csc, .cbu, .rot, .gco, .sdo] (wakeUp order cause s) := by
  obtain ⟨⟨-, -, -, -, -, -, -, -, -, -, hsac, -⟩, -⟩ := wakeUp_woken order cause h
  exact .of_sac ((wakeUp_changedOnly order cause s).mono rfl) hsac

theorem State.Woken.steady (h : State.Woken cause s t) : t.Steady := fun hcheck => by
  obtain ⟨hphase, -⟩ := h
  rw [hphase] at hcheck
  cases hcheck

/-! ## The commands -/

theorem State.steady_of_asleep (h : s.asleep = true) : s.Steady := fun hcheck => by simp [State.asleep, hcheck] at h

theorem wakeTimer_eq (w : Moment) (h : s.asleep = true) (hdue : due s.sup.wakeAt (s.upTo w).now = true) :
    exec (.wakeTimer w) s = .next (wakeUp w.order .wakeTimer (s.upTo w)) := by
  have hwoken := wakeUp_woken (s := s.upTo w) w.order .wakeTimer (by simpa using h)
  rw [exec, execWakeTimer, command_eq, if_pos (by simpa using hdue), leaveCheck_of_steady _ hwoken.1.steady]

theorem sitePortWake_eq (w : Moment) (h : s.asleep = true) (hmask : s.settings.sup.mask.sitePort = true) :
    exec (.sitePortWake w) s = .next (wakeUp w.order .wakeSite (s.upTo w)) := by
  have hwoken := wakeUp_woken (s := s.upTo w) w.order .wakeSite (by simpa using h)
  rw [exec, execSitePortWake, command_eq, siteWake, if_pos (by simpa using hmask), leaveCheck_of_steady _ hwoken.1.steady]

theorem sitePortWake_none (w : Moment) (hs : s.Steady) (h : s.asleep = false ∨ s.settings.sup.mask.sitePort = false) :
    exec (.sitePortWake w) s = .next (s.upTo w) := by
  have hnone : siteWake w.order (s.upTo w) = s.upTo w := by
    unfold siteWake
    split
    · next hmask =>
      exact wakeUp_of_awake _ _ (by simpa using h.resolve_right (by simpa using hmask))
    · rfl
  rw [exec, execSitePortWake, command_eq, hnone, leaveCheck_of_steady _ (upTo_steady w hs)]

@[simp] theorem frameSeen_asleep (s : State) : (frameSeen s).asleep = s.asleep := rfl

theorem upTo_canReceive (s : State) (w : Moment) : (s.upTo w).canReceive = s.canReceive := by
  simp [State.canReceive, State.receiving]

theorem dormantLineFrame_eq (w : Moment) (frame : List Byte) :
    exec (.dormantLineFrame w frame) s =
      .next (leaveCheck w.order (if s.asleep = true ∧ s.canReceive = true then
        if framePasses frame then wakeUp w.order .wakeLine (frameSeen (s.upTo w)) else frameSeen (s.upTo w)
        else s.upTo w)) := by
  rw [exec, execDormantLineFrame, command_eq, hearAsleep, upTo_canReceive, upTo_asleep]

/-- Settles O33. -/
theorem theStationWakes : Obligations.TheStationWakes := by
  refine ⟨fun w s h hdue => ?_, fun w s h hmask => ?_, fun w s hs h => sitePortWake_none w hs h,
    fun w s frame h hmask => ?_, fun w s frame h hreceive hpass => ?_, fun w s frame h hreceive hpass => ?_⟩
  · have hasleep : (s.upTo w).asleep = true := by simpa using h
    exact ⟨_, wakeTimer_eq w h hdue, (wakeUp_woken w.order _ hasleep).1, wakeUp_changedOnly_of_asleep w.order _ hasleep⟩
  · have hasleep : (s.upTo w).asleep = true := by simpa using h
    exact ⟨_, sitePortWake_eq w h hmask, (wakeUp_woken w.order _ hasleep).1, (wakeUp_leaves w.order _ hasleep).2,
      wakeUp_changedOnly_of_asleep w.order _ hasleep⟩
  · have hawake : s.awake = false := by
      rw [State.asleep, beq_iff_eq] at h
      rw [State.awake, h]
    have hdeaf : s.canReceive = false := by simp [State.canReceive, State.receiving, hawake, hmask]
    rw [dormantLineFrame_eq, if_neg (by simp [hdeaf]), leaveCheck_of_steady _ (upTo_steady w (State.steady_of_asleep h))]
  · have hasleep : (frameSeen (s.upTo w)).asleep = true := by simpa using h
    obtain ⟨hwoken, -⟩ := wakeUp_woken w.order .wakeLine hasleep
    rw [dormantLineFrame_eq, if_pos ⟨h, hreceive⟩, if_pos hpass, leaveCheck_of_steady _ hwoken.steady]
    exact ⟨_, rfl, hwoken, (wakeUp_leaves w.order _ hasleep).1,
      ((frameSeen_changedOnly (s.upTo w)).mono rfl).trans (wakeUp_changedOnly_of_asleep w.order _ hasleep)⟩
  · rw [dormantLineFrame_eq, if_pos ⟨h, hreceive⟩, if_neg (by simp [hpass]),
      leaveCheck_of_steady _ (State.steady_of_asleep (by simpa using h))]
    rfl

end Sys2Proof.Machine
end

section
/-! SUPPORT. The receiver, the line faults and the point LINE_FAULT (R72, R73, R78, R80, R82, R91), and O41. -/
namespace Sys2Proof.Machine

set_option Elab.async false

variable {s t : State} {p q : Pli} {parts : List Part} {w : Moment}

/-! ## A command that leaves SUP -/

/-- A body that leaves SUP is the whole command, where no change found in CHECK waits. -/
theorem command_of_eq {body : State → State} (hs : s.Steady) (heq : body (s.upTo w) = t) (hsup : t.sup = s.sup) :
    command w body s = .next t := by
  rw [command_eq, heq, leaveCheck_of_steady]
  unfold State.Steady
  rw [hsup]
  exact hs

theorem command_of_changedOnly {body : State → State} (hs : s.Steady)
    (h : (s.upTo w).ChangedOnly parts (body (s.upTo w))) (hsup : Part.sup ∉ parts := by decide) :
    command w body s = .next (body (s.upTo w)) := command_of_eq hs rfl ((h.sup hsup).trans (upTo_sup s w))

@[simp] theorem upTo_receiving (s : State) (w : Moment) : (s.upTo w).receiving = s.receiving := by simp [State.receiving]

/-! ## What the blocks' own work leaves of PLI -/

namespace Pli.Fed

variable (h : p.Fed q)
include h

theorem rx : q.rx = p.rx := by rw [h.rest]
theorem window : q.window = p.window := by rw [h.rest]
theorem rateFault : q.rateFault = p.rateFault := by rw [h.rest]
theorem belowSince : q.belowSince = p.belowSince := by rw [h.rest]
theorem stuck : q.stuck = p.stuck := by rw [h.rest]
theorem dup : q.dup = p.dup := by rw [h.rest]
theorem sequence : q.sequence = p.sequence := by rw [h.rest]
theorem errors : q.errors = p.errors := by rw [h.rest]
theorem losses : q.losses = p.losses := by rw [h.rest]
theorem driveFaults : q.driveFaults = p.driveFaults := by rw [h.rest]
theorem lossRun : q.lossRun = p.lossRun := by rw [h.rest]
theorem sending : q.sending = p.sending := by rw [h.rest]
theorem granted : q.granted = p.granted := by rw [h.rest]

end Pli.Fed

/-! ## The fault window (R82) -/

/-- The window holds the last 20 times and the new one, and the 21st raises the rate fault. -/
theorem addFault_eq (n : Nat) (p : Pli) :
    addFault n p =
      { p with window := (addFault n p).window, rateFault := (addFault n p).rateFault
               belowSince := (addFault n p).belowSince } ∧
      (addFault n p).window.getLast? = some n ∧
      (20 ≤ p.window.length → p.window.length ≤ 21 →
        (addFault n p).rateFault = true ∧ (addFault n p).belowSince = none) := by
  have hlength : 20 ≤ p.window.length → p.window.length ≤ 21 →
      ((if p.window.length < 21 then p.window else p.window.drop 1) ++ [n]).length = 21 := fun hlow hhigh => by
    split
    · rw [List.length_append, List.length_singleton]; omega
    · rw [List.length_append, List.length_singleton, List.length_drop]; omega
  have hlast : ((if p.window.length < 21 then p.window else p.window.drop 1) ++ [n]).getLast? = some n :=
    List.getLast?_concat
  unfold addFault
  dsimp only
  generalize (if p.window.length < 21 then p.window else p.window.drop 1) ++ [n] = window at hlength hlast ⊢
  split
  · exact ⟨rfl, hlast, fun _ _ => ⟨rfl, rfl⟩⟩
  · next hshort => exact ⟨rfl, hlast, fun hlow hhigh => absurd (hlength hlow hhigh) hshort⟩

/-- A line fault leaves PLI as its count and the window make it, and feeds the queue at most. -/
theorem lineFaultNow_fed (order : List Taker) (count : Pli → Pli) (s : State) :
    (addFault s.now (count s.pli)).Fed (lineFaultNow order count s).pli :=
  (takeCondition_feeds order 17 (s.onPli fun p => addFault s.now (count p))).line

/-! ## LINE_FAULT (R78, R82, R160) -/

/-- A change of PLI's, of which ALU takes LINE_FAULT. -/
theorem lineFault_taken (order : List Taker) (f : Pli → Pli) (s : State) (hrun : s.alu.running = true)
    (hpoints : s.alu.points.length = 32) :
    (pointGet (takeCondition order 17 (s.onPli f)).alu.points 17).condition = ((f s.pli).stuck || (f s.pli).rateFault) := by
  have htaken := condition_takeCondition_same order (id := 17) (s.onPli f) hrun (by simp [hpoints])
  exact htaken.trans (Bool.or_comm _ _)

theorem onPli_then_takeCondition_changedOnly (order : List Taker) (id : Nat) (f : Pli → Pli) (s : State) :
    s.ChangedOnly [.pli, .alu, .sdo] (takeCondition order id (s.onPli f)) :=
  ((onPli_changedOnly f s).mono rfl).trans ((takeCondition_changedOnly order id _).mono rfl)

/-! ## The commands -/

theorem lineError_counts (w : Moment) (cause : LineErrorCause) (hs : s.Steady) (hawake : s.awake = true)
    (hreceive : s.canReceive = true) :
    ∃ t, exec (.lineError w cause) s = .next t ∧
      t.pli.errors = satInc 65535 s.pli.errors ∧
      (t.pli.rx = .hunt ∧ t.pli.courtesyPending = false) ∧
      t.pli.window.getLast? = some (s.upTo w).now ∧
      (20 ≤ s.pli.window.length → s.pli.window.length ≤ 21 → t.pli.rateFault = true ∧ t.pli.belowSince = none) ∧
      (t.pli.losses = s.pli.losses ∧ t.pli.driveFaults = s.pli.driveFaults ∧ t.pli.sequence = s.pli.sequence ∧
        t.pli.stuck = s.pli.stuck ∧ t.pli.dup = s.pli.dup) ∧
      (s.upTo w).ChangedOnly [.pli, .alu, .sdo] t := by
  have hchanged := discardFrame_changedOnly w.order (s.upTo w)
  have heq : discardFrame w.order (s.upTo w) =
      lineFaultNow w.order (fun p => { p with errors := satInc 65535 p.errors }) (frameSeen (s.upTo w)) := by
    rw [discardFrame, if_pos (by rw [upTo_canReceive, hreceive]), if_pos (by rw [upTo_awake, hawake])]
  have hfed := lineFaultNow_fed w.order (fun p => { p with errors := satInc 65535 p.errors }) (frameSeen (s.upTo w))
  rw [← heq] at hfed
  obtain ⟨hrest, hlast, hrate⟩ := addFault_eq (frameSeen (s.upTo w)).now
    { (frameSeen (s.upTo w)).pli with errors := satInc 65535 (frameSeen (s.upTo w)).pli.errors }
  refine ⟨_, command_of_changedOnly hs hchanged, ?_, ⟨?_, ?_⟩, hfed.window ▸ hlast, fun hlow hhigh => ?_, ?_, hchanged⟩
  · rw [hfed.errors, hrest]; simp [frameSeen]
  · rw [hfed.rx, hrest]; simp [frameSeen]
  · rw [hfed.courtesyPending, hrest]; simp [frameSeen]
  · rw [hfed.rateFault, hfed.belowSince]
    exact hrate (by simpa [frameSeen] using hlow) (by simpa [frameSeen] using hhigh)
  · rw [hfed.losses, hfed.driveFaults, hfed.sequence, hfed.stuck, hfed.dup, hrest]
    simp [frameSeen]

theorem lineError_asleep (w : Moment) (cause : LineErrorCause) (hasleep : s.asleep = true) (hreceive : s.canReceive = true) :
    exec (.lineError w cause) s =
      .next ((s.upTo w).onPli fun p => { p with rx := .hunt, courtesyPending := false }) := by
  have hawake : s.awake = false := by
    rw [State.asleep, beq_iff_eq] at hasleep
    rw [State.awake, hasleep]
  have heq : discardFrame w.order (s.upTo w) = frameSeen (s.upTo w) := by
    rw [discardFrame, if_pos (by rw [upTo_canReceive, hreceive]), if_neg (by simp [hawake])]
  exact command_of_eq (State.steady_of_asleep hasleep) heq (upTo_sup s w)

/-- A change of PLI's with LINE_FAULT handed on, as a command. -/
theorem lineFault_command {body : State → State} {f : Pli → Pli} (hs : s.Steady)
    (heq : body (s.upTo w) = takeCondition w.order 17 ((s.upTo w).onPli f)) :
    ∃ t, command w body s = .next t ∧ (f s.pli).Fed t.pli ∧
      (s.alu.running = true → s.alu.points.length = 32 →
        (pointGet t.alu.points 17).condition = ((f s.pli).stuck || (f s.pli).rateFault)) ∧
      (s.upTo w).ChangedOnly [.pli, .alu, .sdo] t := by
  have hchanged := onPli_then_takeCondition_changedOnly w.order 17 f (s.upTo w)
  refine ⟨_, command_of_changedOnly hs (heq ▸ hchanged), ?_, fun hrun hpoints => ?_, heq ▸ hchanged⟩
  · have hfed := (takeCondition_feeds w.order 17 ((s.upTo w).onPli f)).line
    rw [heq]
    simpa using hfed
  · have htaken := lineFault_taken w.order f (s.upTo w) (by simpa using hrun) (by simpa using hpoints)
    rw [heq]
    simpa using htaken

theorem lineStuck_marks (w : Moment) (hs : s.Steady) (hreceiving : s.receiving = true) :
    ∃ t, exec (.lineStuck w) s = .next t ∧
      (t.pli.stuck = true ∧ t.pli.rx = .hunt) ∧
      (t.pli.errors = s.pli.errors ∧ t.pli.window = s.pli.window ∧ t.pli.sequence = s.pli.sequence ∧
        t.pli.rateFault = s.pli.rateFault) ∧
      (s.alu.running = true → s.alu.points.length = 32 → (pointGet t.alu.points 17).condition = true) ∧
      (s.upTo w).ChangedOnly [.pli, .alu, .sdo] t := by
  obtain ⟨t, hnext, hfed, hpoint, hchanged⟩ := lineFault_command (w := w) (body := lineStuckNow w.order)
    (f := fun p => { p with stuck := true, rx := .hunt }) hs (if_pos (by simpa using hreceiving))
  exact ⟨t, hnext, ⟨hfed.stuck, hfed.rx⟩, ⟨hfed.errors, hfed.window, hfed.sequence, hfed.rateFault⟩, hpoint, hchanged⟩

theorem lineStuckClear_clears (w : Moment) (hs : s.Steady) (hreceiving : s.receiving = true) :
    ∃ t, exec (.lineStuckClear w) s = .next t ∧
      (t.pli.stuck = false ∧ t.pli.rx = s.pli.rx) ∧
      (t.pli.errors = s.pli.errors ∧ t.pli.window = s.pli.window ∧ t.pli.sequence = s.pli.sequence ∧
        t.pli.rateFault = s.pli.rateFault) ∧
      (s.alu.running = true → s.alu.points.length = 32 → (pointGet t.alu.points 17).condition = s.pli.rateFault) ∧
      (s.upTo w).ChangedOnly [.pli, .alu, .sdo] t := by
  obtain ⟨t, hnext, hfed, hpoint, hchanged⟩ := lineFault_command (w := w) (body := lineStuckEnd w.order)
    (f := fun p => { p with stuck := false }) hs (if_pos (by simpa using hreceiving))
  exact ⟨t, hnext, ⟨hfed.stuck, hfed.rx⟩, ⟨hfed.errors, hfed.window, hfed.sequence, hfed.rateFault⟩, hpoint, hchanged⟩

theorem faultTimeExpiry_eq (w : Moment) {n : Nat} {ns : List Nat} (hs : s.Steady) (hwindow : s.pli.window = n :: ns)
    (hdue : n + 60000 ≤ (s.upTo w).now) :
    exec (.faultTimeExpiry w) s = .next ((s.upTo w).onPli fun p =>
      { p with window := ns
               belowSince := if p.rateFault = true ∧ p.belowSince = none then some (s.upTo w).now else p.belowSince }) := by
  have heq : faultTimeOut (s.upTo w) = (s.upTo w).onPli fun p =>
      { p with window := ns
               belowSince := if p.rateFault = true ∧ p.belowSince = none then some (s.upTo w).now else p.belowSince } := by
    unfold faultTimeOut
    rw [upTo_pli, hwindow]
    exact if_pos hdue
  exact command_of_eq hs heq (upTo_sup s w)

theorem rateFaultClear_ends (w : Moment) {n : Nat} (hs : s.Steady) (hbelow : s.pli.belowSince = some n)
    (hdue : n + 60000 ≤ (s.upTo w).now) (hrate : s.pli.rateFault = true) :
    ∃ t, exec (.rateFaultClear w) s = .next t ∧
      (t.pli.rateFault = false ∧ t.pli.belowSince = none) ∧
      (t.pli.window = s.pli.window ∧ t.pli.stuck = s.pli.stuck ∧ t.pli.errors = s.pli.errors ∧
        t.pli.sequence = s.pli.sequence ∧ t.pli.rx = s.pli.rx) ∧
      (s.upTo w).ChangedOnly [.pli, .alu, .sdo] t := by
  have heq : rateFaultEnd w.order (s.upTo w) =
      takeCondition w.order 17 ((s.upTo w).onPli fun p => { p with rateFault := false, belowSince := none }) := by
    unfold rateFaultEnd
    rw [upTo_pli, hbelow]
    exact if_pos ⟨hdue, hrate⟩
  obtain ⟨t, hnext, hfed, -, hchanged⟩ := lineFault_command (body := rateFaultEnd w.order) hs heq
  exact ⟨t, hnext, ⟨hfed.rateFault, hfed.belowSince⟩,
    ⟨hfed.window, hfed.stuck, hfed.errors, hfed.sequence, hfed.rx⟩, hchanged⟩

theorem lineIdle_eq (w : Moment) (hs : s.Steady) (hreceiving : s.receiving = true) (hrx : s.pli.rx = .hunt)
    (htx : s.pli.tx ≠ .send) :
    exec (.lineIdle w) s = .next ((s.upTo w).onPli fun p => { p with rx := .ready }) := by
  have hidle : (s.upTo w).receiving = true ∧ (s.upTo w).pli.rx = .hunt ∧ (s.upTo w).pli.tx ≠ .send := by
    simp [hreceiving, hrx, htx]
  exact command_of_eq hs (if_pos hidle) (upTo_sup s w)

theorem courtesySatisfied_eq (w : Moment) (hs : s.Steady) (hawake : s.awake = true) :
    exec (.courtesySatisfied w) s = .next ((s.upTo w).onPli fun p => { p with courtesyPending := false }) := by
  exact command_of_eq hs (if_pos ((upTo_awake s w).trans hawake)) (upTo_sup s w)

/-- Settles O41. -/
theorem theReceiverCountsItsFaults : Obligations.TheReceiverCountsItsFaults :=
  ⟨fun w _ cause => lineError_counts w cause, fun w _ cause => lineError_asleep w cause,
    fun w _ => lineStuck_marks w, fun w _ => lineStuckClear_clears w, fun w _ _ _ => faultTimeExpiry_eq w,
    fun w _ _ => rateFaultClear_ends w, fun w _ => lineIdle_eq w, fun w _ => courtesySatisfied_eq w⟩

end Sys2Proof.Machine
end

section
/-! SUPPORT. The course of an own frame (R72 to R86, R137, R180, R184), and O40. -/
namespace Sys2Proof.Machine

set_option Elab.async false

variable {s t u : State} {p q r : Pli} {w : Moment} {x : Slot} {xs : List Slot} {frame : List Byte}

theorem State.onPli_congr {f g : Pli → Pli} (h : f s.pli = g s.pli) : s.onPli f = s.onPli g := by
  unfold State.onPli
  rw [h]

/-! ## The begin (R72, R73, R78, R79) -/

theorem frameBegin_eq (w : Moment) (hs : s.Steady) (hqueue : s.pli.queue = x :: xs) (hawake : s.awake = true)
    (htx : s.pli.tx = .wait) (hrx : s.pli.rx = .ready) (hcourtesy : s.pli.courtesyPending = false)
    (hstuck : s.pli.stuck = false) :
    exec (.frameBegin w) s = .next ((s.upTo w).onPli fun p =>
      { p with tx := .send, rx := .hunt, queue := { x with replaced := false } :: xs
               sending := some (buildFrame x.kind s.sup.number s.pli.sequence x.payload) }) := by
  have hbegin : (s.upTo w).canBegin = true := by simp [State.canBegin, hawake, htx, hrx, hcourtesy, hstuck]
  refine command_of_eq (body := beginFrame) hs ?_ (upTo_sup s w)
  unfold beginFrame
  rw [upTo_pli, hqueue]
  dsimp only
  rw [if_pos hbegin]
  refine State.onPli_congr ?_
  simp only [upTo_pli, upTo_sup, hqueue, markHead]

/-! ## The completion (R73, R77, R85, R86) -/

theorem completeFrame_of (order : List Taker) (htx : s.pli.tx = .send) (hqueue : s.pli.queue = x :: xs)
    (hsending : s.pli.sending = some frame) :
    completeFrame order s = handCompletion order frame x.kind (s.onPli completeSlot) := by
  unfold completeFrame
  rw [htx, hqueue, hsending]

theorem completeSlot_of_granted (hgranted : p.granted = true) (hqueue : p.queue = x :: xs) :
    completeSlot p =
      { p with sequence := (p.sequence + 1) % 16, lossRun := 0, courtesyPending := true
               queue := if x.replaced then { x with replaced := false } :: xs else xs, sending := none
               tx := if p.dup then .off else if x.replaced = false ∧ xs = [] then .empty else .wait } := by
  have hidle : idleTx (if x.replaced = true then { x with replaced := false } :: xs else xs) =
      if x.replaced = false ∧ xs = [] then .empty else .wait := by
    unfold idleTx
    cases x.replaced <;> cases xs <;> rfl
  unfold completeSlot
  dsimp only
  rw [if_pos hgranted, hqueue, settleHead, hidle]

theorem completeSlot_of_withdrawn (hgranted : p.granted = false) :
    completeSlot p =
      { p with sequence := (p.sequence + 1) % 16, lossRun := 0, courtesyPending := true, queue := [], sending := none
               tx := .off, statusDue := none, spacingEnd := none, deferred := false } := by
  unfold completeSlot
  exact if_neg (by simp [hgranted])

/-- A completed REST or WAKE marks the intent of its kind as sent (R137). -/
theorem rotOnSent_rot (k : IntentKind) (s : State) :
    (rotOnSent k s).rot =
      { s.rot with intent := s.rot.intent.map fun i => { i with sent := i.sent || i.kind == k } } := by
  unfold rotOnSent
  rw [State.onRot_rot]
  generalize s.rot = rot
  obtain ⟨_, _, _, _, _, _, _, _, intent, _, _, _, _⟩ := rot
  cases intent with
  | none => rfl
  | some i =>
    by_cases hk : i.kind = k
    · simp [hk]
    · have hother : (i.kind == k) = false := by simpa using hk
      simp [hk, hother]

/-- The completion of a note that is no QUIET reaches ROT at most. -/
theorem handCompletion_of_ne_quiet (order : List Taker) (frame : List Byte) {kind : NoteKind} (hquiet : kind ≠ .quiet)
    (s : State) :
    s.ChangedOnly [.rot] (handCompletion order frame kind s) ∧
      ((kind = .rest ∨ kind = .wake) → (handCompletion order frame kind s).rot =
        { s.rot with intent := s.rot.intent.map fun i =>
            { i with sent := i.sent || (i.kind == .rest && kind == .rest) || (i.kind == .wake && kind == .wake) } }) ∧
      (kind ≠ .rest → kind ≠ .wake → (handCompletion order frame kind s).rot = s.rot) := by
  cases kind with
  | rest => exact ⟨rotOnSent_changedOnly _ s, fun _ => (rotOnSent_rot .rest s).trans (by
      simp [show (NoteKind.rest == NoteKind.wake) = false from rfl]), fun hne => absurd rfl hne⟩
  | wake => exact ⟨rotOnSent_changedOnly _ s, fun _ => (rotOnSent_rot .wake s).trans (by
      simp [show (NoteKind.wake == NoteKind.rest) = false from rfl]), fun _ hne => absurd rfl hne⟩
  | quiet => exact absurd rfl hquiet
  | _ => exact ⟨.refl s _, by simp, fun _ _ => rfl⟩

/-- The completion of a note that is no QUIET, as a command. -/
theorem frameComplete_of_ne_quiet (w : Moment) (hs : s.Steady) (hqueue : s.pli.queue = x :: xs) (htx : s.pli.tx = .send)
    (hsending : s.pli.sending.isSome = true) (hquiet : x.kind ≠ .quiet) :
    ∃ t, exec (.frameComplete w) s = .next t ∧ t.pli = completeSlot s.pli ∧
      ((x.kind = .rest ∨ x.kind = .wake) → t.rot =
        { s.rot with intent := s.rot.intent.map fun i =>
            { i with sent := i.sent || (i.kind == .rest && x.kind == .rest) || (i.kind == .wake && x.kind == .wake) } }) ∧
      (x.kind ≠ .rest → x.kind ≠ .wake → t.rot = s.rot) ∧ (s.upTo w).ChangedOnly [.pli, .rot] t := by
  obtain ⟨frame, hframe⟩ := Option.isSome_iff_exists.mp hsending
  have hdone := completeFrame_of (s := s.upTo w) (frame := frame) w.order (by simpa using htx) (by simpa using hqueue)
    (by simpa using hframe)
  obtain ⟨hrot, hsent, hother⟩ := handCompletion_of_ne_quiet w.order frame hquiet ((s.upTo w).onPli completeSlot)
  have hchanged : (s.upTo w).ChangedOnly [.pli, .rot] (completeFrame w.order (s.upTo w)) := by
    rw [hdone]
    exact ((onPli_changedOnly _ _).mono rfl).trans (hrot.mono rfl)
  rw [← hdone, State.onPli_rot, upTo_rot] at hsent hother
  refine ⟨_, command_of_changedOnly hs hchanged, ?_, hsent, hother, hchanged⟩
  rw [hdone, hrot.pli, State.onPli_pli, upTo_pli]

/-- The completion of a QUIET is judged by the reason that its frame carries. -/
theorem completeFrame_of_quiet (order : List Taker) (htx : s.pli.tx = .send) (hqueue : s.pli.queue = x :: xs)
    (hsending : s.pli.sending = some frame) (hquiet : x.kind = .quiet) :
    completeFrame order s = quietCompleted order (byteAt frame 3) (s.onPli completeSlot) := by
  rw [completeFrame_of order htx hqueue hsending, hquiet]
  rfl

/-- The completion of the QUIET that announces DORMANT is the stop (R180). -/
theorem frameComplete_stops (w : Moment) (hqueue : s.pli.queue = x :: xs) (htx : s.pli.tx = .send)
    (hsending : s.pli.sending = some frame) (hquiet : x.kind = .quiet) (hreason : byteAt frame 3 = 1)
    (hwait : s.sup.entryWait.isSome = true) :
    ∃ t, exec (.frameComplete w) s = .next t ∧
      (t.sup.phase = .dormant ∧ t.sup.mode = .dormant ∧ t.sup.entryWait = none) ∧
      (t.pli.tx = .off ∧ t.pli.queue = [] ∧ t.pli.granted = false) ∧
      t.pli.sequence = (s.pli.sequence + 1) % 16 ∧
      t.WritePrompted ∧
      (s.upTo w).ChangedOnly [.mch, .sac, .csc, .pli, .cbu, .rot, .gco, .alu, .sdo, .sup] t := by
  have hstop : completeFrame w.order (s.upTo w) = stopStation w.order ((s.upTo w).onPli completeSlot) := by
    rw [completeFrame_of_quiet (frame := frame) w.order (by simpa using htx) (by simpa using hqueue)
      (by simpa using hsending) hquiet, hreason]
    exact if_pos ⟨rfl, by simpa using hwait⟩
  have hnext : exec (.frameComplete w) s = .next (stopStation w.order ((s.upTo w).onPli completeSlot)) := by
    rw [exec, execFrameComplete, command_eq, hstop, leaveCheck_of_phase _ (by rw [stopStation_phase]; decide)]
  obtain ⟨hgranted, -, hoff, -⟩ := stopStation_sender w.order ((s.upTo w).onPli completeSlot)
  obtain ⟨htxOff, hempty⟩ := hoff (completeSlot_tx _)
  have hseq := (completeSlot_kept s.pli).1
  obtain ⟨hphase, hmode, hentry, -, -, -, hwrite, -, -, -, -, -, -, -, -, -, -, -, -, -, -, -, -, -, -, -, -, -, hkept, -⟩ :=
    stopStation_fallenAsleep w.order ((s.upTo w).onPli completeSlot)
  refine ⟨_, hnext, ⟨hphase, hmode, hentry⟩, ⟨htxOff, hempty, hgranted⟩, ?_, hwrite,
    ((onPli_changedOnly _ _).mono rfl).trans ((stopStation_changedOnly w.order _).mono rfl)⟩
  rw [hkept, State.onPli_pli, upTo_pli, hseq]

/-- The completion of the QUIET that announces a RESTART is waited for no longer (R184). -/
theorem frameComplete_ends_restartWait (w : Moment) (hs : s.Steady) (hqueue : s.pli.queue = x :: xs)
    (htx : s.pli.tx = .send) (hsending : s.pli.sending = some frame) (hquiet : x.kind = .quiet)
    (hreason : byteAt frame 3 = 2) :
    ∃ t, exec (.frameComplete w) s = .next t ∧
      (t.sup = { s.sup with restartWait := s.sup.restartWait.map fun _ => { quietBy := none } }) ∧
      t.pli.sequence = (s.pli.sequence + 1) % 16 ∧
      (s.upTo w).ChangedOnly [.pli, .sup] t := by
  have hdone : completeFrame w.order (s.upTo w) = ((s.upTo w).onPli completeSlot).onSup fun y =>
      { y with restartWait := y.restartWait.map fun _ => { quietBy := none } } := by
    rw [completeFrame_of_quiet (frame := frame) w.order (by simpa using htx) (by simpa using hqueue)
      (by simpa using hsending) hquiet, hreason]
    rfl
  have hseq := (completeSlot_kept s.pli).1
  have hsteady : (completeFrame w.order (s.upTo w)).Steady := by
    rw [hdone]
    simpa [State.Steady] using hs
  refine ⟨completeFrame w.order (s.upTo w), ?_, ?_⟩
  · rw [exec, execFrameComplete, command_eq, leaveCheck_of_steady _ hsteady]
  · rw [hdone]
    refine ⟨by simp, by simpa using hseq, ((onPli_changedOnly _ _).mono rfl).trans ((onSup_changedOnly _ _).mono rfl)⟩

/-! ## A contention loss (R74, R77) -/

theorem countLoss_eq (p : Pli) :
    countLoss p =
      { p with losses := satInc 65535 p.losses, lossRun := if p.lossRun + 1 < 16 then p.lossRun + 1 else 0
               congestion := if p.lossRun + 1 < 16 then p.congestion else satInc 65535 p.congestion } := by
  unfold countLoss
  dsimp only
  split <;> rfl

theorem endAttempt_of_granted (h : p.granted = true) : endAttempt p = { p with tx := .wait, sending := none } := if_pos h

theorem endAttempt_of_withdrawn (h : p.granted = false) : endAttempt p = pliOff p := if_neg (by simp [h])

/-- The end of an attempt leaves the receiver, the counters and the sequence. -/
theorem endAttempt_rest (p : Pli) :
    endAttempt p =
      { p with tx := (endAttempt p).tx, queue := (endAttempt p).queue, lossRun := (endAttempt p).lossRun
               statusDue := (endAttempt p).statusDue, spacingEnd := (endAttempt p).spacingEnd
               deferred := (endAttempt p).deferred, sending := none } := by
  unfold endAttempt
  split <;> rfl

theorem contentionLoss_loses (w : Moment) (hs : s.Steady) (htx : s.pli.tx = .send) (hawake : s.awake = true) :
    ∃ t, exec (.contentionLoss w) s = .next t ∧
      t.pli.losses = satInc 65535 s.pli.losses ∧
      (t.pli.rx = .frame ∧ t.pli.sending = none) ∧
      (s.pli.granted = true → t.pli.tx = .wait ∧ t.pli.queue = s.pli.queue) ∧
      (s.pli.granted = false → t.pli.tx = .off ∧ t.pli.queue = []) ∧
      (s.pli.granted = true → (if s.pli.lossRun + 1 < 16
        then t.pli.lossRun = s.pli.lossRun + 1 ∧ t.pli.congestion = s.pli.congestion
        else t.pli.lossRun = 0 ∧ t.pli.congestion = satInc 65535 s.pli.congestion)) ∧
      (t.pli.sequence = s.pli.sequence ∧ t.pli.errors = s.pli.errors ∧ t.pli.driveFaults = s.pli.driveFaults ∧
        t.pli.window = s.pli.window ∧ t.pli.courtesyPending = s.pli.courtesyPending) ∧
      (s.upTo w).ChangedOnly [.pli] t := by
  have heq : loseContention (s.upTo w) = (s.upTo w).onPli fun p => { endAttempt (countLoss p) with rx := .frame } := by
    unfold loseContention
    rw [if_pos (by simpa using htx)]
    simp [State.receiving, hawake]
  refine ⟨_, command_of_eq hs heq (upTo_sup s w), ?_⟩
  rw [State.onPli_pli, upTo_pli]
  cases hgranted : s.pli.granted with
  | true =>
    rw [endAttempt_of_granted (by rw [countLoss_eq]; exact hgranted), countLoss_eq]
    refine ⟨rfl, ⟨rfl, rfl⟩, fun _ => ⟨rfl, rfl⟩, nofun, fun _ => ?_, ⟨rfl, rfl, rfl, rfl, rfl⟩, onPli_changedOnly _ _⟩
    split <;> exact ⟨rfl, rfl⟩
  | false =>
    rw [endAttempt_of_withdrawn (by rw [countLoss_eq]; exact hgranted), countLoss_eq]
    exact ⟨rfl, ⟨rfl, rfl⟩, nofun, fun _ => ⟨rfl, rfl⟩, nofun, ⟨rfl, rfl, rfl, rfl, rfl⟩, onPli_changedOnly _ _⟩

/-! ## A drive fault (R75) -/

/-- `q` is `p` with a POINT at most queued, at the end or in its slot. -/
structure Pli.PointFed (p q : Pli) : Prop where
  tx : p.tx ≠ .empty → q.tx = p.tx
  kinds : q.kinds = p.kinds ∨ .point ∉ p.kinds ∧ q.kinds = p.kinds ++ [.point]
  others : q.queue.filter (·.kind ≠ .point) = p.queue.filter (·.kind ≠ .point)

theorem Pli.PointFed.refl (p : Pli) : p.PointFed p := ⟨fun _ => rfl, .inl rfl, rfl⟩

theorem Pli.PointFed.trans (h : p.PointFed q) (g : q.PointFed r) : p.PointFed r := by
  refine ⟨fun hp => (g.tx (h.tx hp ▸ hp)).trans (h.tx hp), ?_, g.others.trans h.others⟩
  rcases h.kinds with hk | ⟨hnew, hk⟩
  · rw [← hk]
    exact g.kinds
  · rcases g.kinds with gk | ⟨gnew, -⟩
    · exact .inr ⟨hnew, gk.trans hk⟩
    · exact absurd (by simp [hk]) gnew

theorem enqueueSlot_filter (k : NoteKind) (payload : List Byte) (sending : Bool) (q : List Slot) :
    (enqueueSlot k payload sending q).filter (·.kind ≠ k) = q.filter (·.kind ≠ k) := by
  induction q generalizing sending with
  | nil => simp [enqueueSlot]
  | cons y ys ih =>
    unfold enqueueSlot
    by_cases hy : y.kind = k
    · simp [hy]
    · rw [if_neg hy, List.filter_cons, List.filter_cons, ih]

theorem enqueuePoint_pointFed (s : State) : s.pli.PointFed (enqueuePoint s).pli := by
  unfold enqueuePoint enqueue
  split
  · next hgranted =>
    refine ⟨fun htx => if_neg htx, ?_, enqueueSlot_filter _ _ _ _⟩
    have hkinds := enqueueSlot_kinds .point s.pointPayload (s.pli.tx == .send) s.pli.queue
    by_cases hin : NoteKind.point ∈ s.pli.queue.map (·.kind)
    · exact .inl (hkinds.trans (if_pos hin))
    · exact .inr ⟨hin, hkinds.trans (if_neg hin)⟩
  · exact .refl _

theorem pointTakes_pointFed (n : Nat) (old new : Point) (y : Taker) (s : State) :
    s.pli.PointFed (pointTakes n old new y s).pli := by
  have hsame : ∀ {v : State}, v.pli = s.pli → s.pli.PointFed v.pli := fun h => h ▸ .refl _
  cases y with
  | sdo =>
    dsimp only [pointTakes]
    split
    · exact hsame (recomputeRelays_changedOnly s).pli
    · exact .refl _
  | pli =>
    dsimp only [pointTakes]
    split
    · rw [← (recomputeSubs_changedOnly false s).pli]
      exact enqueuePoint_pointFed _
    · exact .refl _
  | log =>
    dsimp only [pointTakes]
    split
    · exact hsame (logEntry_changedOnly _ _ _ s).pli
    · exact .refl _
  | _ => exact .refl _

/-- A condition taken queues a POINT at most (R164). -/
theorem takeCondition_pointFed (order : List Taker) (id : Nat) (s : State) :
    s.pli.PointFed (takeCondition order id s).pli := by
  unfold takeCondition
  dsimp only
  split
  · rw [handPoint_eq]
    exact fan_induction order (P := fun v => s.pli.PointFed v.pli)
      (fun y _ v hv => hv.trans (pointTakes_pointFed _ _ _ y v)) _ (.refl _)
  · exact .refl _

/-- PLI's fields after a drive fault, before LINE_FAULT is handed on. -/
def Pli.driveFailed (now : Nat) (p : Pli) : Pli :=
  addFault now { endAttempt p with driveFaults := satInc 65535 (endAttempt p).driveFaults, rx := .hunt }

theorem failDrive_of_send (order : List Taker) (htx : s.pli.tx = .send) :
    failDrive order s = takeCondition order 17 (s.onPli (Pli.driveFailed s.now)) := if_pos htx

theorem driveFailed_rest (n : Nat) (p : Pli) :
    p.driveFailed n =
      { p with tx := (endAttempt p).tx, queue := (endAttempt p).queue, lossRun := (endAttempt p).lossRun
               statusDue := (endAttempt p).statusDue, spacingEnd := (endAttempt p).spacingEnd
               deferred := (endAttempt p).deferred, sending := none, driveFaults := satInc 65535 p.driveFaults
               rx := .hunt, window := (p.driveFailed n).window, rateFault := (p.driveFailed n).rateFault
               belowSince := (p.driveFailed n).belowSince } := by
  obtain ⟨hrest, -, -⟩ := addFault_eq n
    { endAttempt p with driveFaults := satInc 65535 (endAttempt p).driveFaults, rx := .hunt }
  refine hrest.trans ?_
  unfold Pli.driveFailed
  generalize addFault n _ = f
  rw [endAttempt_rest p]

theorem driveFailed_window (n : Nat) (p : Pli) :
    (p.driveFailed n).window.getLast? = some n ∧
      (20 ≤ p.window.length → p.window.length ≤ 21 → (p.driveFailed n).rateFault = true) := by
  obtain ⟨-, hlast, hrate⟩ := addFault_eq n
    { endAttempt p with driveFaults := satInc 65535 (endAttempt p).driveFaults, rx := .hunt }
  have hwindow : (endAttempt p).window = p.window := by rw [endAttempt_rest]
  exact ⟨hlast, fun hlow hhigh => (hrate (hwindow ▸ hlow) (hwindow ▸ hhigh)).1⟩

theorem driveFault_fails (w : Moment) (hs : s.Steady) (htx : s.pli.tx = .send) :
    ∃ t, exec (.driveFault w) s = .next t ∧
      t.pli.driveFaults = satInc 65535 s.pli.driveFaults ∧
      (t.pli.rx = .hunt ∧ t.pli.sending = none) ∧
      (s.pli.granted = true → t.pli.tx = .wait ∧ t.pli.lossRun = s.pli.lossRun) ∧
      (s.pli.granted = true → (t.pli.kinds = s.pli.kinds ∨ t.pli.kinds = s.pli.kinds ++ [.point]) ∧
        t.pli.queue.filter (·.kind ≠ .point) = s.pli.queue.filter (·.kind ≠ .point)) ∧
      (s.pli.granted = false → t.pli.tx = .off ∧ t.pli.queue = []) ∧
      (t.pli.window.getLast? = some (s.upTo w).now ∧
        (20 ≤ s.pli.window.length → s.pli.window.length ≤ 21 → t.pli.rateFault = true)) ∧
      (t.pli.sequence = s.pli.sequence ∧ t.pli.errors = s.pli.errors ∧ t.pli.losses = s.pli.losses ∧
        t.pli.courtesyPending = s.pli.courtesyPending) ∧
      (s.upTo w).ChangedOnly [.pli, .alu, .sdo] t := by
  have hchanged := failDrive_changedOnly w.order (s.upTo w)
  have hend := driveFailed_rest (s.upTo w).now s.pli
  have hfed := (takeCondition_feeds w.order 17 ((s.upTo w).onPli (Pli.driveFailed (s.upTo w).now))).line
  have hpoint := takeCondition_pointFed w.order 17 ((s.upTo w).onPli (Pli.driveFailed (s.upTo w).now))
  rw [← failDrive_of_send w.order (by simpa using htx), State.onPli_pli, upTo_pli] at hfed hpoint
  obtain ⟨hlast, hrate⟩ := driveFailed_window (s.upTo w).now s.pli
  refine ⟨_, command_of_changedOnly hs hchanged, hfed.driveFaults.trans (by rw [hend]),
    ⟨hfed.rx.trans (by rw [hend]), hfed.sending.trans (by rw [hend])⟩, fun hgranted => ?_, fun hgranted => ?_,
    fun hgranted => ?_, ⟨hfed.window ▸ hlast, fun hlow hhigh => hfed.rateFault.trans (hrate hlow hhigh)⟩,
    ⟨hfed.sequence.trans (by rw [hend]), hfed.errors.trans (by rw [hend]), hfed.losses.trans (by rw [hend]),
      hfed.courtesyPending.trans (by rw [hend])⟩, hchanged⟩
  · have hwait : (s.pli.driveFailed (s.upTo w).now).tx = .wait := by rw [hend, endAttempt_of_granted hgranted]
    exact ⟨(hpoint.tx (by rw [hwait]; decide)).trans hwait, hfed.lossRun.trans (by rw [hend, endAttempt_of_granted hgranted])⟩
  · have hqueue : (s.pli.driveFailed (s.upTo w).now).queue = s.pli.queue := by
      rw [hend, endAttempt_of_granted hgranted]
    have hkinds : (s.pli.driveFailed (s.upTo w).now).kinds = s.pli.kinds := congrArg (List.map _) hqueue
    obtain ⟨-, hk, hothers⟩ := hpoint
    rw [hqueue] at hothers
    rw [hkinds] at hk
    exact ⟨hk.imp_right And.right, hothers⟩
  · obtain ⟨htxOff, hempty⟩ := hfed.ungranted (by rw [hend]; exact hgranted)
    rw [htxOff, hempty, hend, endAttempt_of_withdrawn hgranted]
    exact ⟨rfl, rfl⟩

/-- Settles O40. -/
theorem anOwnFrameRunsItsCourse : Obligations.AnOwnFrameRunsItsCourse := by
  refine ⟨fun w _ _ _ => frameBegin_eq w, fun w s x xs hs hqueue htx hsending hgranted hquiet => ?_,
    fun w s x xs hs hqueue htx hsending hgranted hquiet => ?_, fun w _ _ _ _ => frameComplete_stops w,
    fun w _ _ _ _ => frameComplete_ends_restartWait w, fun w _ => contentionLoss_loses w, fun w _ => driveFault_fails w⟩
  · obtain ⟨t, hnext, hpli, hsent, hother, hchanged⟩ := frameComplete_of_ne_quiet w hs hqueue htx hsending hquiet
    exact ⟨t, hnext, hpli.trans (completeSlot_of_granted hgranted hqueue), hsent, hother, hchanged⟩
  · obtain ⟨t, hnext, hpli, -, -, hchanged⟩ := frameComplete_of_ne_quiet w hs hqueue htx hsending hquiet
    exact ⟨t, hnext, hpli.trans (completeSlot_of_withdrawn hgranted), hchanged⟩

end Sys2Proof.Machine
end

section
/-! SUPPORT. The encodings read back (R76, R79, R80, R94, R187 to R191), and O60. -/
namespace Sys2Proof.Machine

set_option Elab.async false

open Host

/-! ## Bytes and numbers (R187) -/

theorem byteAt_eq_getElem (b : List Byte) (i : Nat) : byteAt b i = ((b[i]?).getD 0).toNat := by
  rw [byteAt, List.getD_eq_getElem?_getD]

/-- Two bytes, low byte first, are their number. -/
theorem two_bytes {v : Nat} (h : v < 65536) :
    (BitVec.ofNat 8 v).toNat + 256 * (BitVec.ofNat 8 (v / 256)).toNat = v := by
  simp only [BitVec.toNat_ofNat]
  omega

/-- Four bytes, low byte first, are their number. -/
theorem four_bytes {v : Nat} (h : v < 4294967296) :
    (BitVec.ofNat 8 v).toNat + 256 * (BitVec.ofNat 8 (v / 256)).toNat +
      65536 * ((BitVec.ofNat 8 (v / 256 / 256)).toNat + 256 * (BitVec.ofNat 8 (v / 256 / 256 / 256)).toNat) = v := by
  simp only [BitVec.toNat_ofNat]
  omega

theorem one_byte {v : Nat} (h : v < 256) : (BitVec.ofNat 8 v).toNat = v := by
  rw [BitVec.toNat_ofNat]
  exact Nat.mod_eq_of_lt h

theorem u16At_leBytes {v : Nat} (h : v < 65536) : u16At (leBytes 2 v) 0 = v := two_bytes h

/-- What stands after `a` is read from its place on. -/
theorem u16At_append (a b : List Byte) : u16At (a ++ b) a.length = u16At b 0 := by
  simp only [u16At, byteAt_eq_getElem, List.getElem?_append_right (Nat.le_refl _), Nat.sub_self,
    List.getElem?_append_right (Nat.le_add_right a.length 1), Nat.add_sub_cancel_left, Nat.zero_add]

theorem u16At_append_left {a : List Byte} (b : List Byte) (h : 2 ≤ a.length) : u16At (a ++ b) 0 = u16At a 0 := by
  simp only [u16At, byteAt_eq_getElem, List.getElem?_append_left (show 0 < a.length by omega),
    List.getElem?_append_left (show 0 + 1 < a.length by omega)]

theorem u16At_take (b : List Byte) {n : Nat} (h : 2 ≤ n) : u16At (b.take n) 0 = u16At b 0 := by
  simp only [u16At, byteAt_eq_getElem, List.getElem?_take_of_lt (show 0 < n by omega),
    List.getElem?_take_of_lt (show 0 + 1 < n by omega)]

/-- Two's complement over 16 bits. -/
theorem signed16_mod {i : Int} (hlow : -32768 ≤ i) (hhigh : i < 32768) : signed16 (i % 65536).toNat = i := by
  unfold signed16
  split <;> omega

/-! ## The 16-bit check -/

theorem crcShift_lt (c : Nat) (h : c < 65536) : crcShift c < 65536 := by
  unfold crcShift
  split
  · omega
  · exact Nat.xor_lt_two_pow (n := 16) (by omega) (by decide)

theorem crcByte_lt {c : Nat} (b : Byte) (h : c < 65536) : crcByte c b < 65536 := by
  have hbyte : b.toNat * 256 < 65536 := by omega
  have hstart : c ^^^ (b.toNat * 256) < 65536 := Nat.xor_lt_two_pow (n := 16) h hbyte
  unfold crcByte
  generalize c ^^^ (b.toNat * 256) = x at hstart
  have hfour : crcShift (crcShift (crcShift (crcShift x))) < 65536 :=
    crcShift_lt _ (crcShift_lt _ (crcShift_lt _ (crcShift_lt _ hstart)))
  exact crcShift_lt _ (crcShift_lt _ (crcShift_lt _ (crcShift_lt _ hfour)))

theorem foldl_crcByte_lt (b : List Byte) : ∀ c < 65536, b.foldl crcByte c < 65536 := by
  induction b with
  | nil => intro c h; simpa using h
  | cons x xs ih =>
    intro c h
    rw [List.foldl_cons]
    exact ih (crcByte c x) (crcByte_lt x h)

theorem crc16_lt (b : List Byte) : crc16 b < 65536 := by
  rw [crc16]
  exact foldl_crcByte_lt b 65535 (by omega)

theorem withCheck_length (b : List Byte) : (withCheck b).length = b.length + 2 := by simp [withCheck, leBytes]

/-- The check of a byte sequence stands after it. -/
theorem withCheck_check (b : List Byte) : u16At (withCheck b) b.length = crc16 b := by
  rw [withCheck, u16At_append, u16At_leBytes (crc16_lt b)]

theorem withCheck_take (b : List Byte) : (withCheck b).take b.length = b := List.take_left

/-! ## Records (R191) -/

theorem storeReadN_add (m : List Cell) (x k n : Nat) :
    storeReadN m x (k + n) = storeReadN m x k ++ storeReadN m (x + k) n := by
  induction k generalizing x with
  | zero => simp [storeReadN]
  | succ k ih =>
    rw [Nat.succ_add, storeReadN, ih, storeReadN, List.cons_append, Nat.add_assoc, Nat.add_comm 1 k]

theorem storeReadN_length (m : List Cell) (x n : Nat) : (storeReadN m x n).length = n := by
  induction n generalizing x with
  | zero => rfl
  | succ n ih => rw [storeReadN, List.length_cons, ih]

/-- A part of what was written is read back from its place. -/
theorem storeReadN_of_written {m : List Cell} {x k n : Nat} {vs : List Byte} (h : storeReadN m x vs.length = vs)
    (hk : k + n ≤ vs.length) : storeReadN m (x + k) n = (vs.drop k).take n := by
  obtain ⟨j, hj⟩ := Nat.exists_eq_add_of_le hk
  rw [hj, Nat.add_assoc, storeReadN_add, storeReadN_add] at h
  rw [← h, List.drop_left' (storeReadN_length m x k), List.take_left' (storeReadN_length m (x + k) n)]

/-- A record written to its place, of the length that it has there, is found by LOAD. -/
theorem readRecord_of_written {m : List Cell} {record : Nat} {content : List Byte} (hm : storeWf m = true)
    (hlength : content.length = recordLength record) :
    readRecord (storeWriteAll m (recordAddress record) (recordBytes content)) [] record = .inr content := by
  have hshort : recordLength record ≤ 322 := by
    unfold recordLength
    split
    · exact Nat.le_refl _
    · split <;> decide
  have hbody : (leBytes 2 content.length ++ content).length = recordLength record + 2 := by
    rw [List.length_append, hlength]
    exact Nat.add_comm _ _
  have hbytes : (recordBytes content).length = recordLength record + 2 + 2 := by
    rw [recordBytes, withCheck_length, hbody]
  have hread := storeReadN_storeWriteAll (recordAddress record) (recordBytes content) hm
  generalize storeWriteAll m (recordAddress record) (recordBytes content) = written at hread ⊢
  have hwhole : storeReadN written (recordAddress record) (recordLength record + 2) =
      leBytes 2 content.length ++ content := by
    have h := storeReadN_of_written (k := 0) (n := recordLength record + 2) hread (by omega)
    rw [Nat.add_zero, List.drop_zero, recordBytes, ← hbody, withCheck_take] at h
    rwa [hbody] at h
  have hlen : u16At (storeReadN written (recordAddress record) 2) 0 = recordLength record := by
    have h := storeReadN_of_written (k := 0) (n := 2) hread (by omega)
    rw [Nat.add_zero, List.drop_zero] at h
    rw [h, u16At_take _ (Nat.le_refl _), recordBytes, withCheck, u16At_append_left _ (by omega),
      u16At_append_left _ (by simp [leBytes]), u16At_leBytes (by omega), hlength]
  have hcheck : u16At (storeReadN written (recordAddress record + recordLength record + 2) 2) 0 =
      crc16 (leBytes 2 content.length ++ content) := by
    have h := storeReadN_of_written (k := recordLength record + 2) (n := 2) hread (by omega)
    rw [Nat.add_assoc, h, u16At_take _ (Nat.le_refl _), recordBytes, withCheck, ← hbody, List.drop_left,
      u16At_leBytes (crc16_lt _)]
  unfold readRecord
  dsimp only
  rw [hlen, hwhole, hcheck, if_neg (by simp; omega), if_pos ⟨rfl, rfl⟩]
  rfl

theorem encodeRetained_length (v : Retained) : (encodeRetained v).length = 16 := rfl

/-- The retained values, each in its field's range, are read back from their content. -/
theorem decodeRetained_encodeRetained {v : Retained} (hq : v.q < 4294967296) (hr : v.r < 256)
    (hrun : v.runMinutes < 4294967296) (hepoch : v.epoch < 256) (hdays : v.eqDays < 65536) (hex : v.exMinutes < 65536) :
    decodeRetained (encodeRetained v) = v := by
  have hflag : ∀ b : Bool, ((BitVec.ofNat 8 b.toNat).toNat == 1) = b := fun b => by cases b <;> rfl
  have hqRead : u32At (encodeRetained v) 0 = v.q := four_bytes hq
  have hrRead : byteAt (encodeRetained v) 4 = v.r := one_byte hr
  have hsyncedRead : (byteAt (encodeRetained v) 5 == 1) = v.synced := hflag v.synced
  have hrunRead : u32At (encodeRetained v) 6 = v.runMinutes := four_bytes hrun
  have hlockRead : (byteAt (encodeRetained v) 10 == 1) = v.lockSet := hflag v.lockSet
  have hepochRead : byteAt (encodeRetained v) 11 = v.epoch := one_byte hepoch
  have hdaysRead : u16At (encodeRetained v) 12 = v.eqDays := two_bytes hdays
  have hexRead : u16At (encodeRetained v) 14 = v.exMinutes := two_bytes hex
  rw [decodeRetained, hqRead, hrRead, hsyncedRead, hrunRead, hlockRead, hepochRead, hdaysRead, hexRead]

/-! ## The STATUS (R94, R189) -/

theorem viewOf_code (x : SourceView) : viewOf x.code = some x := by cases x <;> rfl
theorem rectStateOf_code (x : RectState) : rectStateOf x.code = some x := by cases x <;> rfl
theorem stageOf_code (x : Stage) : stageOf x.code = some x := by cases x <;> rfl
theorem lockCodeOf_code (x : LockCode) : lockCodeOf x.code = some x := by cases x <;> rfl
theorem noteKindOf_code (x : NoteKind) : noteKindOf x.code = some x := by cases x <;> rfl

theorem SourceView.code_lt (x : SourceView) : x.code < 256 := by cases x <;> decide
theorem RectState.code_lt (x : RectState) : x.code < 256 := by cases x <;> decide
theorem Stage.code_lt (x : Stage) : x.code < 256 := by cases x <;> decide
theorem LockCode.code_lt (x : LockCode) : x.code < 256 := by cases x <;> decide

/-- Station flags below bit 7 are all known. -/
theorem knownFlags_of_lt {b : Byte} (h : b.toNat < 128) : knownFlags b = b := by
  refine BitVec.eq_of_toNat_eq ?_
  rw [knownFlags, BitVec.toNat_and, show (0x7F : Byte).toNat = 2 ^ 7 - 1 from rfl, Nat.and_two_pow_sub_one_eq_mod]
  exact Nat.mod_eq_of_lt h

theorem clampNat_of_mem {lo hi x : Nat} (hlow : lo ≤ x) (hhigh : x ≤ hi) : clampNat lo hi x = x := by
  unfold clampNat
  omega

theorem encodeStatus_length (c : StatusContent) : (encodeStatus c).length = 26 := rfl

/-- The mode and the start cause share the first byte. -/
theorem status_byte0 (m : Mode) {cause : Nat} (hcause : cause < 16) :
    (BitVec.ofNat 8 (m.code % 16 + 16 * cause)).toNat % 16 = m.code ∧
      (BitVec.ofNat 8 (m.code % 16 + 16 * cause)).toNat / 16 = cause := by
  have hcode : m.code < 16 := by cases m <;> decide
  rw [one_byte (by omega)]
  omega

/-- The 26 bytes of a STATUS (R94). -/
theorem encodeStatus_bytes (c : StatusContent) : encodeStatus c =
    [BitVec.ofNat 8 (c.mode.code % 16 + 16 * c.causeCode), c.flags, BitVec.ofNat 8 c.view.code,
      BitVec.ofNat 8 c.rect.code, BitVec.ofNat 8 c.stage.code, BitVec.ofNat 8 c.lock.code,
      BitVec.ofNat 8 c.epoch, BitVec.ofNat 8 c.reasonCode,
      BitVec.ofNat 8 c.rectI, BitVec.ofNat 8 (c.rectI / 256),
      BitVec.ofNat 8 (c.strI % 65536).toNat, BitVec.ofNat 8 ((c.strI % 65536).toNat / 256),
      BitVec.ofNat 8 (min 65535 c.busV), BitVec.ofNat 8 (min 65535 c.busV / 256),
      BitVec.ofNat 8 c.soc, BitVec.ofNat 8 (c.soc / 256),
      BitVec.ofNat 8 c.deficit, BitVec.ofNat 8 (c.deficit / 256),
      BitVec.ofNat 8 c.capacityAh, BitVec.ofNat 8 (c.capacityAh / 256),
      BitVec.ofNat 8 c.runHours, BitVec.ofNat 8 (c.runHours / 256),
      BitVec.ofNat 8 c.digest, BitVec.ofNat 8 (c.digest / 256),
      BitVec.ofNat 8 c.urgent, BitVec.ofNat 8 c.nonUrgent] := rfl

/-- A STATUS content in its fields' ranges is what its bytes decode to. -/
theorem decodeStatus_encodeStatus {c : StatusContent} (hmode : c.mode ≠ .dormant) (hcause : c.causeCode < 16)
    (hepoch : c.epoch < 256) (hreason : c.reasonCode < 256) (hrectI : c.rectI < 65536) (hlow : -32768 ≤ c.strI)
    (hhigh : c.strI < 32768) (hbus : c.busV < 65536) (hsoc : c.soc ≤ 1000) (hdeficit : c.deficit < 65536)
    (hcapLow : 20 ≤ c.capacityAh) (hcapHigh : c.capacityAh ≤ 500) (hrun : c.runHours < 65536) (hdigest : c.digest < 65536)
    (hurgent : c.urgent < 256) (hnonUrgent : c.nonUrgent < 256) (hflags : c.flags.toNat < 128) :
    decodeStatus (encodeStatus c) = some c := by
  obtain ⟨hmodeRead, hcauseRead⟩ := status_byte0 c.mode hcause
  have hbyte : byteAt (encodeStatus c) 0 = (BitVec.ofNat 8 (c.mode.code % 16 + 16 * c.causeCode)).toNat := rfl
  have hflagsRead : knownFlags ((encodeStatus c).getD 1 0) = c.flags := knownFlags_of_lt hflags
  have hview : byteAt (encodeStatus c) 2 = c.view.code := by rw [encodeStatus_bytes]; exact one_byte c.view.code_lt
  have hrect : byteAt (encodeStatus c) 3 = c.rect.code := by rw [encodeStatus_bytes]; exact one_byte c.rect.code_lt
  have hstage : byteAt (encodeStatus c) 4 = c.stage.code := by rw [encodeStatus_bytes]; exact one_byte c.stage.code_lt
  have hlock : byteAt (encodeStatus c) 5 = c.lock.code := by rw [encodeStatus_bytes]; exact one_byte c.lock.code_lt
  have hepochRead : byteAt (encodeStatus c) 6 = c.epoch := by rw [encodeStatus_bytes]; exact one_byte hepoch
  have hreasonRead : byteAt (encodeStatus c) 7 = c.reasonCode := by rw [encodeStatus_bytes]; exact one_byte hreason
  have hrectIRead : u16At (encodeStatus c) 8 = c.rectI := by rw [encodeStatus_bytes]; exact two_bytes hrectI
  have hstrI : u16At (encodeStatus c) 10 = (c.strI % 65536).toNat := by rw [encodeStatus_bytes]; exact two_bytes (by omega)
  have hbusCut : u16At (encodeStatus c) 12 = min 65535 c.busV := by rw [encodeStatus_bytes]; exact two_bytes (by omega)
  have hbusRead : u16At (encodeStatus c) 12 = c.busV := hbusCut.trans (Nat.min_eq_right (by omega))
  have hsocRead : u16At (encodeStatus c) 14 = c.soc := by rw [encodeStatus_bytes]; exact two_bytes (by omega)
  have hdeficitRead : u16At (encodeStatus c) 16 = c.deficit := by rw [encodeStatus_bytes]; exact two_bytes hdeficit
  have hcapRead : u16At (encodeStatus c) 18 = c.capacityAh := by rw [encodeStatus_bytes]; exact two_bytes (by omega)
  have hrunRead : u16At (encodeStatus c) 20 = c.runHours := by rw [encodeStatus_bytes]; exact two_bytes hrun
  have hdigestRead : u16At (encodeStatus c) 22 = c.digest := by rw [encodeStatus_bytes]; exact two_bytes hdigest
  have hurgentRead : byteAt (encodeStatus c) 24 = c.urgent := by rw [encodeStatus_bytes]; exact one_byte hurgent
  have hnonUrgentRead : byteAt (encodeStatus c) 25 = c.nonUrgent := by rw [encodeStatus_bytes]; exact one_byte hnonUrgent
  have hstrIRead : s16At (encodeStatus c) 10 = c.strI := by rw [s16At, hstrI, signed16_mod hlow hhigh]
  unfold decodeStatus
  rw [hview, hrect, hstage, hlock, viewOf_code, rectStateOf_code, stageOf_code, lockCodeOf_code, hbyte, hmodeRead,
    hcauseRead, hflagsRead, hepochRead, hreasonRead, hrectIRead, hstrIRead, hbusRead, hsocRead, hdeficitRead, hcapRead,
    hrunRead, hdigestRead, hurgentRead, hnonUrgentRead, clampNat_of_mem (Nat.zero_le _) hsoc,
    clampNat_of_mem hcapLow hcapHigh]
  obtain ⟨mode, _⟩ := c
  cases mode with
  | full => rfl
  | lean => rfl
  | dormant => exact absurd rfl hmode

/-! ## Frames (R76, R79, R80) -/

/-- The first byte of a frame gives its kind and its station. -/
theorem frameByte0_read (kind : NoteKind) {n : Nat} (h : n ≤ 15) :
    frameByte0 kind.code n < 128 ∧ byte0Kind (frameByte0 kind.code n) = kind.code ∧
      byte0Station (frameByte0 kind.code n) = n := by
  interval_cases n <;> cases kind <;> decide

theorem length_le_of_allowed {kind : NoteKind} {n : Nat} (h : lengthAllowed kind n = true) : n ≤ 32 := by
  cases kind <;> simp [lengthAllowed] at h <;> omega

theorem buildFrame_reads {kind : NoteKind} {n seq : Nat} {payload : List Byte} (hlow : 1 ≤ n) (hhigh : n ≤ 15)
    (hseq : seq < 16) (hallowed : lengthAllowed kind payload.length = true) :
    framePasses (buildFrame kind n seq payload) = true ∧
      noteKindOf (byte0Kind (byteAt (buildFrame kind n seq payload) 0)) = some kind ∧
      byte0Station (byteAt (buildFrame kind n seq payload) 0) = n ∧
      byteAt (buildFrame kind n seq payload) 1 = seq := by
  obtain ⟨hbyte0, hkind, hstation⟩ := frameByte0_read kind hhigh
  have hshort := length_le_of_allowed hallowed
  have hbyte0Read : byteAt (buildFrame kind n seq payload) 0 = frameByte0 kind.code n := one_byte (by omega)
  have hseqRead : byteAt (buildFrame kind n seq payload) 1 = seq := one_byte (by omega)
  have hlengthRead : byteAt (buildFrame kind n seq payload) 2 = payload.length := one_byte (by omega)
  have hlength : (buildFrame kind n seq payload).length = payload.length + 5 := withCheck_length _
  have hcheck : u16At (buildFrame kind n seq payload) (payload.length + 3) =
      crc16 ((buildFrame kind n seq payload).take (payload.length + 3)) := by
    have htake := withCheck_take (BitVec.ofNat 8 (frameByte0 kind.code n) :: BitVec.ofNat 8 seq ::
      BitVec.ofNat 8 payload.length :: payload)
    exact (withCheck_check _).trans (congrArg crc16 htake.symm)
  refine ⟨?_, by rw [hbyte0Read, hkind, noteKindOf_code], by rw [hbyte0Read, hstation], hseqRead⟩
  unfold framePasses
  simp only [hlengthRead, hlength, hcheck, hbyte0Read, hkind, hstation, noteKindOf_code, hallowed]
  simp [hshort, hbyte0]
  omega

/-- Settles O60. -/
theorem recordsAndFramesReadBack : Obligations.RecordsAndFramesReadBack := by
  refine ⟨fun m v hm hq hr hrun hepoch hdays hex => ?_, fun m v a hm ha => ?_,
    fun c hmode hcause hepoch hreason hrectI hlow hhigh hbus hsoc hdeficit hcapLow hcapHigh hrun hdigest hurgent hnonUrgent
      hflags => ?_, fun kind n seq payload hlow hhigh hseq hallowed => buildFrame_reads hlow hhigh hseq hallowed⟩
  · exact ⟨_, readRecord_of_written hm (encodeRetained_length v),
      decodeRetained_encodeRetained hq hr hrun hepoch hdays hex⟩
  · exact storeRead_storeWriteAll_other _ hm ha
  · exact ⟨encodeStatus_length c, decodeStatus_encodeStatus hmode hcause hepoch hreason hrectI hlow hhigh hbus hsoc hdeficit
      hcapLow hcapHigh hrun hdigest hurgent hnonUrgent hflags⟩

end Sys2Proof.Machine
end

section
/-! SUPPORT. The received notes and the records they are taken into (R73, R80, R83, R91 to R93, R98), and O42. -/
namespace Sys2Proof.Machine

set_option Elab.async false

variable {s t u : State} {order : List Taker} {ps : List PeerRecord} {p r v : PeerRecord} {station seq m : Nat}
  {kind : NoteKind} {n : NoteContent} {parts : List Part}

/-! ## The table (R92) -/

theorem findPeer_cons (p : PeerRecord) (ps : List PeerRecord) (m : Nat) :
    findPeer (p :: ps) m = if p.station = m then some p else findPeer ps m := by
  by_cases h : p.station = m <;> simp [findPeer, h]

/-- A record put is found at its number. -/
theorem findPeer_putPeer_same (r : PeerRecord) (ps : List PeerRecord) :
    findPeer (putPeer r ps) r.station = some r := by
  induction ps with
  | nil => simp [putPeer, findPeer]
  | cons p ps ih =>
    unfold putPeer
    split
    · rw [findPeer_cons, if_pos rfl]
    · split
      · rw [findPeer_cons, if_pos rfl]
      · next hne => rw [findPeer_cons, if_neg (Ne.symm hne), ih]

/-- A record put leaves those of the other numbers. -/
theorem findPeer_putPeer_other (ps : List PeerRecord) (h : m ≠ r.station) :
    findPeer (putPeer r ps) m = findPeer ps m := by
  induction ps with
  | nil => simp [putPeer, findPeer, Ne.symm h]
  | cons p ps ih =>
    unfold putPeer
    split
    · rw [findPeer_cons r, if_neg (Ne.symm h)]
    · split
      · next heq => rw [findPeer_cons r, findPeer_cons p, if_neg (Ne.symm h), if_neg (heq ▸ Ne.symm h)]
      · rw [findPeer_cons p, findPeer_cons p, ih]

/-- A record of a new number makes the table longer by one. -/
theorem putPeer_length_of_new (h : findPeer ps r.station = none) : (putPeer r ps).length = ps.length + 1 := by
  induction ps with
  | nil => rfl
  | cons p ps ih =>
    rw [findPeer_cons] at h
    split at h
    · cases h
    · next hne =>
      unfold putPeer
      split
      · rfl
      · rw [if_neg (Ne.symm hne), List.length_cons, ih h, List.length_cons]

theorem findPeer_dropPeer_same (ps : List PeerRecord) (m : Nat) : findPeer (dropPeer ps m) m = none := by
  simp [findPeer, dropPeer]

theorem findPeer_dropPeer_other {k : Nat} (ps : List PeerRecord) (h : m ≠ k) :
    findPeer (dropPeer ps k) m = findPeer ps m := by
  induction ps with
  | nil => rfl
  | cons p ps ih =>
    unfold dropPeer at ih ⊢
    by_cases hp : p.station = k
    · rw [List.filter_cons_of_neg (by simp [hp]), findPeer_cons, if_neg (hp ▸ Ne.symm h), ih]
    · rw [List.filter_cons_of_pos (by simp [hp]), findPeer_cons, findPeer_cons, ih]

/-- In a table in order a number stands once: its removal makes the table shorter by one. -/
theorem dropPeer_length (horder : (ps.map (·.station)).Pairwise (· < ·)) (hv : v ∈ ps) :
    (dropPeer ps v.station).length + 1 = ps.length := by
  induction ps with
  | nil => cases hv
  | cons p ps ih =>
    rw [List.map_cons, List.pairwise_cons] at horder
    obtain ⟨hfirst, hrest⟩ := horder
    unfold dropPeer at ih ⊢
    rcases List.mem_cons.mp hv with rfl | hv
    · have hkept : ps.filter (fun x => x.station != v.station) = ps := List.filter_eq_self.mpr fun x hx => by
        have := hfirst x.station (List.mem_map_of_mem hx)
        simp; omega
      rw [List.filter_cons_of_neg (by simp), hkept, List.length_cons]
    · have := hfirst v.station (List.mem_map_of_mem hv)
      rw [List.filter_cons_of_pos (by simp; omega), List.length_cons, ih hrest hv, List.length_cons]

/-- One record looked at for the oldest LOST one. -/
def olderLost (m : Option PeerRecord) (p : PeerRecord) : Option PeerRecord :=
  if p.state = .lost then
    match m with
    | some q => if p.lastHeard < q.lastHeard then some p else some q
    | none => some p
  else m

theorem oldestLost_eq_foldl (ps : List PeerRecord) : oldestLost ps = ps.foldl olderLost none := rfl

theorem olderLost_of_ne (h : p.state ≠ .lost) (m : Option PeerRecord) : olderLost m p = m := if_neg h

theorem olderLost_none (h : p.state = .lost) : olderLost none p = some p := if_pos h

theorem olderLost_some (h : p.state = .lost) (q : PeerRecord) :
    olderLost (some q) p = if p.lastHeard < q.lastHeard then some p else some q := if_pos h

theorem foldl_olderLost_of_ne (h : ∀ p ∈ ps, p.state ≠ .lost) (m : Option PeerRecord) : ps.foldl olderLost m = m := by
  induction ps with
  | nil => rfl
  | cons p ps ih =>
    rw [List.forall_mem_cons] at h
    rw [List.foldl_cons, olderLost_of_ne h.1, ih h.2]

theorem oldestLost_of_ne (h : ∀ p ∈ ps, p.state ≠ .lost) : oldestLost ps = none := by
  rw [oldestLost_eq_foldl, foldl_olderLost_of_ne h]

/-- Every candidate so far is `v` or was heard after it. -/
def NoOlder (v : PeerRecord) (m : Option PeerRecord) : Prop := ∀ q, m = some q → q = v ∨ v.lastHeard < q.lastHeard

theorem olderLost_noOlder {m : Option PeerRecord} (hm : NoOlder v m)
    (hp : p.state = .lost → p = v ∨ v.lastHeard < p.lastHeard) : NoOlder v (olderLost m p) := by
  by_cases hlost : p.state = .lost
  · cases m with
    | none =>
      rw [olderLost_none hlost]
      rintro q ⟨⟩
      exact hp hlost
    | some q =>
      rw [olderLost_some hlost]
      split
      · rintro q ⟨⟩
        exact hp hlost
      · exact hm
  · rwa [olderLost_of_ne hlost]

theorem olderLost_reaches {m : Option PeerRecord} (hlost : v.state = .lost) (hm : NoOlder v m) : olderLost m v = some v := by
  cases m with
  | none => exact olderLost_none hlost
  | some q =>
    rw [olderLost_some hlost]
    rcases hm q rfl with rfl | hlt
    · exact ite_self _
    · exact if_pos hlt

theorem olderLost_stays (hp : p.state = .lost → p = v ∨ v.lastHeard < p.lastHeard) : olderLost (some v) p = some v := by
  by_cases hlost : p.state = .lost
  · rw [olderLost_some hlost]
    rcases hp hlost with rfl | hlt
    · exact ite_self _
    · exact if_neg (Nat.lt_asymm hlt)
  · exact olderLost_of_ne hlost _

/-- The one LOST record heard before every other is found, whether it still comes or has been looked at. -/
theorem foldl_olderLost {m : Option PeerRecord} (hlost : v.state = .lost) (hin : v ∈ ps ∨ m = some v) (hm : NoOlder v m)
    (hold : ∀ p ∈ ps, p.state = .lost → p = v ∨ v.lastHeard < p.lastHeard) : ps.foldl olderLost m = some v := by
  induction ps generalizing m with
  | nil => exact hin.resolve_left List.not_mem_nil
  | cons p ps ih =>
    rw [List.forall_mem_cons] at hold
    obtain ⟨hp, hrest⟩ := hold
    have hnow : v ∈ ps ∨ olderLost m p = some v := by
      rcases hin with hin | rfl
      · rcases List.mem_cons.mp hin with rfl | hin
        · exact .inr (olderLost_reaches hlost hm)
        · exact .inl hin
      · exact .inr (olderLost_stays hp)
    rw [List.foldl_cons]
    exact ih hnow (olderLost_noOlder hm hp) hrest

theorem oldestLost_eq (hv : v ∈ ps) (hlost : v.state = .lost)
    (hold : ∀ p ∈ ps, p.state = .lost → p = v ∨ v.lastHeard < p.lastHeard) : oldestLost ps = some v := by
  rw [oldestLost_eq_foldl]
  exact foldl_olderLost hlost (.inl hv) (fun _ h => by cases h) hold

/-! ## The content of a note (R94 to R97) -/

/-- The parts that a received note can move. -/
def noteParts : List Part := [.pli, .ptb, .sup, .csc, .cbu, .rot, .gco, .alu, .sdo]

/-- A note of a kind: what it hands on stays within the parts of a note, and of its record it leaves the liveness. -/
structure NoteContent.Plain (n : NoteContent) (kind : NoteKind) : Prop where
  kind_eq : n.kind = kind
  feeding : n.Feeding
  gentle : n.Gentle
  gco (s : State) : s.ChangedOnly noteParts (n.gco s)
  rot (s : State) : s.ChangedOnly noteParts (n.rot s)
  record (p : PeerRecord) : (n.record p).station = p.station ∧ (n.record p).state = p.state ∧
    (n.record p).lastSequence = p.lastSequence ∧ (n.record p).lastHeard = p.lastHeard ∧ (n.record p).heard = p.heard ∧
    (n.record p).gaps = p.gaps

theorem NoteContent.Plain.of_idle (hkind : n.kind = kind) (hgco : n.gco = id) (hrot : n.rot = id)
    (hrecord : ∀ p, (n.record p).station = p.station ∧ (n.record p).state = p.state ∧
      (n.record p).lastSequence = p.lastSequence ∧ (n.record p).lastHeard = p.lastHeard ∧
      (n.record p).heard = p.heard ∧ (n.record p).gaps = p.gaps) : n.Plain kind where
  kind_eq := hkind
  feeding := .of_idle hgco hrot
  gentle := by unfold NoteContent.Gentle; rw [hgco, hrot]; exact ⟨fun s => .refl s _, fun s => .refl s _⟩
  gco s := by rw [hgco]; exact .refl s _
  rot s := by rw [hrot]; exact .refl s _
  record := hrecord

theorem gcoHear_noteParts (order : List Taker) (station : Nat) (b : Bool) (e : Nat) (s : State) :
    s.ChangedOnly noteParts (gcoHear order station b e s) := (gcoHear_changedOnly order station b e s).mono rfl

theorem statusContent_plain (order : List Taker) (station : Nat) (payload : List Byte) (s : State) :
    (statusContent order station payload s).Plain .status := by
  have hfeeding := statusContent_feeding order station payload s
  have hgentle := statusContent_gentle order station payload s
  unfold statusContent at hfeeding hgentle ⊢
  split
  · exact .of_idle rfl rfl rfl fun _ => ⟨rfl, rfl, rfl, rfl, rfl, rfl⟩
  · next c hc =>
    rw [hc] at hfeeding hgentle
    refine ⟨rfl, hfeeding, hgentle, fun s => ?_, fun s => .refl s _, fun _ => ⟨rfl, rfl, rfl, rfl, rfl, rfl⟩⟩
    dsimp only
    split
    · exact gcoHear_noteParts order _ _ _ s
    · exact gcoHear_noteParts order _ _ _ s
    · exact .refl s _

theorem genContent_plain (order : List Taker) (station event epoch : Nat) :
    (genContent order station event epoch).Plain .gen where
  kind_eq := rfl
  feeding := genContent_feeding order station event epoch
  gentle := genContent_gentle order station event epoch
  gco s := .ite (gcoHear_noteParts order _ _ _ s) (.ite (gcoHear_noteParts order _ _ _ s) (.refl s _))
  rot s := .refl s _
  record _ := ⟨rfl, rfl, rfl, rfl, rfl, rfl⟩

theorem restContent_plain (order : List Taker) (station hours : Nat) (flags : Byte) (s : State) :
    (restContent order station hours flags s).Plain .rest where
  kind_eq := rfl
  feeding := restContent_feeding order station hours flags s
  gentle := restContent_gentle order station hours flags s
  gco s := .refl s _
  rot s := (rotOnRest_changedOnly order station hours s).mono rfl
  record _ := ⟨rfl, rfl, rfl, rfl, rfl, rfl⟩

theorem wakeContent_plain (hours : Nat) (reason : Byte) (s : State) : (wakeContent hours reason s).Plain .wake := by
  unfold wakeContent
  split
  · exact .of_idle rfl rfl rfl fun _ => ⟨rfl, rfl, rfl, rfl, rfl, rfl⟩
  · exact .of_idle rfl rfl rfl fun _ => ⟨rfl, rfl, rfl, rfl, rfl, rfl⟩

/-- The command is a note of a kind, a station and a sequence, heard with a content of an allowed length. -/
structure HeardWith (c : Sys2Proof.Instr) (kind : NoteKind) (station seq length : Nat) (n : State → NoteContent) :
    Prop where
  allowed : lengthAllowed kind length = true
  station_ne_zero : station ≠ 0
  seq_lt : seq < 16
  plain (s : State) : (n s).Plain kind
  exec_eq (s : State) : exec c s = command c.moment (hearNote c.moment.order station seq length n) s

theorem station_ne_zero_of_fits {station : BitVec 4} (h : stationFits station = true) : station.toNat ≠ 0 := by
  simpa [stationFits] using h

theorem exec_note {c : Sys2Proof.Instr} (hfit : wellFormed c = true) (hnote : c.note = some (kind, station, seq)) :
    ∃ length n, HeardWith c kind station seq length n := by
  unfold Sys2Proof.Instr.note at hnote
  split at hnote
  · next payload =>
    cases hnote
    obtain ⟨hstation, hlength⟩ := Bool.and_eq_true_iff.mp hfit
    exact ⟨_, _, by simpa [lengthAllowed] using hlength, station_ne_zero_of_fits hstation, BitVec.isLt _,
      statusContent_plain _ _ _, fun _ => rfl⟩
  · cases hnote
    exact ⟨_, _, rfl, station_ne_zero_of_fits hfit, BitVec.isLt _, fun _ => genContent_plain _ _ _ _, fun _ => rfl⟩
  · cases hnote
    exact ⟨_, _, rfl, station_ne_zero_of_fits hfit, BitVec.isLt _, restContent_plain _ _ _ _, fun _ => rfl⟩
  · cases hnote
    exact ⟨_, _, rfl, station_ne_zero_of_fits hfit, BitVec.isLt _, wakeContent_plain _ _, fun _ => rfl⟩
  · next pairs =>
    cases hnote
    obtain ⟨hstation, hlength⟩ := Bool.and_eq_true_iff.mp hfit
    have hallowed : lengthAllowed .point (2 * pairs.length) = true := by
      rw [decide_eq_true_iff] at hlength
      simp [lengthAllowed]
      omega
    exact ⟨_, _, hallowed, station_ne_zero_of_fits hstation, BitVec.isLt _,
      fun _ => .of_idle rfl rfl rfl fun _ => ⟨rfl, rfl, rfl, rfl, rfl, rfl⟩, fun _ => rfl⟩
  · cases hnote
    exact ⟨_, _, rfl, station_ne_zero_of_fits hfit, BitVec.isLt _,
      fun _ => .of_idle rfl rfl rfl fun _ => ⟨rfl, rfl, rfl, rfl, rfl, rfl⟩, fun _ => rfl⟩
  · cases hnote
    exact ⟨_, _, rfl, station_ne_zero_of_fits hfit, BitVec.isLt _,
      fun _ => .of_idle rfl rfl rfl fun _ => ⟨rfl, rfl, rfl, rfl, rfl, rfl⟩, fun _ => rfl⟩
  · cases hnote

/-! ## What a change of the table hands on -/

theorem recomputeViews_noteParts (order : List Taker) (s : State) : s.ChangedOnly noteParts (recomputeViews order s) :=
  .of_sac ((recomputeViews_changedOnly order s).mono rfl) (recomputeViews_sac order s)

/-- What PLI, GCO and ROT take of a note. -/
def noteTakes (again : Bool) (n : NoteContent) : Taker → State → State
  | .pli, s => if again then enqueuePoint (requestStatus s) else s
  | .gco, s => n.gco s
  | .rot, s => n.rot s
  | _, s => s

section
variable (hn : n.Plain kind) (again : Bool) (x : Taker)
include hn

theorem noteTakes_feeds (s : State) : s.Feeds (noteTakes again n x s) := by
  cases x with
  | pli => exact .orNot ((requestStatus_feeds s).trans (enqueuePoint_feeds _))
  | gco => exact (hn.feeding s).1
  | rot => exact (hn.feeding s).2
  | _ => exact .refl s

theorem noteTakes_keepsBut (s : State) : s.KeepsBut [.contactor, .entryWait, .rectOut] (noteTakes again n x s) := by
  cases x with
  | pli => exact .ite (((requestStatus_keeps s).mono rfl).trans ((enqueuePoint_keeps _).mono rfl)) (.refl s _)
  | gco => exact (hn.gentle.1 s).mono rfl
  | rot => exact (hn.gentle.2 s).mono rfl
  | _ => exact .refl s _

theorem noteTakes_noteParts (s : State) : s.ChangedOnly noteParts (noteTakes again n x s) := by
  cases x with
  | pli => exact .ite (((requestStatus_changedOnly s).mono rfl).trans ((enqueuePoint_changedOnly _).mono rfl)) (.refl s _)
  | gco => exact hn.gco s
  | rot => exact hn.rot s
  | _ => exact .refl s _

end

theorem peerHand_noteParts (order : List Taker) (logs : List (Nat × Nat)) (subs views : Bool) (hn : n.Plain kind)
    (again : Bool) (s : State) : s.ChangedOnly noteParts (peerHand order logs subs views (noteTakes again n) s) := by
  refine fan_changedOnly _ _ (fun x s => ?_) s
  cases x with
  | log => exact (foldl_changedOnly (fun s (e : Nat × Nat) => logEntry_changedOnly .peer e.1 e.2 s) logs s).mono rfl
  | alu =>
    exact ((takeConditions_changedOnly _ _ s).mono rfl).trans (.ite ((aluRecompute_changedOnly _ _).mono rfl) (.refl _ _))
  | ptb => exact .ite (recomputeViews_noteParts order s) (.refl s _)
  | _ => exact noteTakes_noteParts hn again _ s

theorem foldl_logEntry_logKept (logs : List (Nat × Nat)) (s : State) :
    s.LogKept (logs.foldl (fun s e => logEntry .peer e.1 e.2 s) s) :=
  foldl_keepsBut (fun s (e : Nat × Nat) => logEntry_keeps .peer e.1 e.2 s) logs s .log (by decide)

/-- Of several entries each is made. -/
theorem foldl_logEntry_enters {logs : List (Nat × Nat)} {e : Nat × Nat} (he : e ∈ logs) (s : State) :
    s.Enters (logs.foldl (fun s e => logEntry .peer e.1 e.2 s) s) .peer e.1 e.2 := by
  induction logs generalizing s with
  | nil => cases he
  | cons d logs ih =>
    rw [List.foldl_cons]
    rcases List.mem_cons.mp he with rfl | he
    · exact .before (logEntry_enters _ _ _ s) (foldl_logEntry_logKept logs _)
    · exact .after (logEntry_keeps _ _ _ s .log (by decide)) (ih he _)

theorem peerHand_enters (order : List Taker) {logs : List (Nat × Nat)} (subs views : Bool) (hn : n.Plain kind)
    (again : Bool) {e : Nat × Nat} (he : e ∈ logs) (s : State) :
    s.Enters (peerHand order logs subs views (noteTakes again n) s) .peer e.1 e.2 := by
  have halso : ∀ (x : Taker) (u : State), u.LogKept (noteTakes again n x u) := fun x u =>
    noteTakes_keepsBut hn again x u .log (by decide)
  refine fan_enters order (I := fun _ => True) .log (by decide) (fun _ _ _ _ _ => trivial)
    (fun u _ => foldl_logEntry_enters he u) ?_ trivial
  simp only [List.forall_mem_cons]
  exact ⟨foldl_logEntry_logKept logs,
    fun u => ((takeConditions_keeps order _ u).trans (.ite (aluRecompute_keeps order _) (.refl _ _))) .log (by decide),
    fun u => State.KeepsBut.ite (recomputeViews_keepsBut order u) (.refl u _) .log (by decide),
    halso .pli, halso .gco, halso .rot, List.forall_mem_nil _⟩

/-! ## A change found in CHECK (R182) -/

theorem cscOnOperating_sac (order : List Taker) (s : State) : (cscOnOperating order s).sac = s.sac := by
  unfold cscOnOperating
  dsimp only
  split
  · next hstage =>
    rw [cscHand_sac, Sac.overStage_of_ne (.inl (by rw [hstage]; decide))]
    rfl
  · rfl

theorem enterOperating_sac (order : List Taker) (s : State) : (enterOperating order s).sac = s.sac := by
  rw [enterOperating_eq]
  refine fan_induction order (P := fun u => u.sac = s.sac) ?_ _ (operatingNotes_changedOnly s).sac
  simp only [List.forall_mem_cons]
  exact ⟨fun u hu => hu, fun u hu => (cscOnOperating_sac order u).trans hu,
    fun u hu => (cbuOnOperating_changedOnly u).sac.trans hu, fun u hu => hu,
    fun u hu => (recomputeRelays_changedOnly u).sac.trans hu, fun u hu => hu, List.forall_mem_nil _⟩

/-- The grant satisfies courtesy, and nothing after it takes that back. -/
theorem enterOperating_courtesy (order : List Taker) (s : State) : (enterOperating order s).pli.courtesyPending = false := by
  have hnotes : (grantTransmission ((if s.sup.startCause = .wakeTimer then logWake s else s).onSup fun x =>
      { x with phase := .operating })).Feeds (operatingNotes s) :=
    ((enqueue_feeds _ _ _).trans (enqueueStatus_feeds _)).trans (enqueuePoint_feeds _)
  have htakes : (operatingNotes s).Feeds (fan order [.sdo, .csc, .cbu, .gco, .alu, .sup] (operatingTakes order)
      (operatingNotes s)) := by
    refine fan_feeds order ?_ _
    simp only [List.forall_mem_cons]
    exact ⟨sdoOnOperating_feeds, cscOnOperating_feeds order, fun s => (cbuOnOperating_changedOnly s).feeds,
      fun s => (gcoOnOperating_changedOnly s).feeds, fun s => (recomputeRelays_changedOnly s).feeds,
      fun s => (updateLeanDwell_feeds s).trans (updateDormantDwell_feeds _), List.forall_mem_nil _⟩
  rw [enterOperating_eq, (hnotes.trans htakes).line.courtesyPending]
  rfl

theorem leaveCheck_noteParts (order : List Taker) (s : State) : s.ChangedOnly noteParts (leaveCheck order s) :=
  .of_sac ((leaveCheck_changedOnly order s).mono rfl) (sac_iteRefl (enterOperating_sac order s))

theorem leaveCheck_courtesy (order : List Taker) (h : s.pli.courtesyPending = false) :
    (leaveCheck order s).pli.courtesyPending = false := by
  unfold leaveCheck
  split
  · exact enterOperating_courtesy order s
  · exact h

theorem leaveCheck_rx (order : List Taker) (s : State) : (leaveCheck order s).pli.rx = s.pli.rx := by
  obtain ⟨-, -, -, hrx, -⟩ := leaveCheck_keepsBut order s .receiver (by decide)
  exact hrx

/-! ## A note taken (R92, R93, R98) -/

/-- The state in which a heard note of another station is taken. -/
def State.noteSeen (s : State) : State :=
  (frameSeen s).onSup fun x => { x with found := x.found || s.settings.sup.mask.line }

theorem noteSeen_noteParts (s : State) : s.ChangedOnly noteParts s.noteSeen :=
  ((frameSeen_changedOnly s).mono rfl).trans ((onSup_changedOnly _ _).mono rfl)

/-- The sender's record after a note. -/
def State.noted (s : State) (station seq : Nat) (n : NoteContent) : PeerRecord :=
  n.record (touchRecord n.kind seq s.now (findPeer s.ptb.peers station).isSome (s.recordOf station))

theorem recordOf_station (s : State) (station : Nat) : (s.recordOf station).station = station := by
  unfold State.recordOf
  cases h : findPeer s.ptb.peers station with
  | none => rfl
  | some p => exact station_of_findPeer h

/-- The missed sequence numbers between two notes (R93). -/
theorem touchRecord_gaps (kind : NoteKind) (now : Nat) (existed : Bool) (p : PeerRecord) (hseq : seq < 16) :
    ((touchRecord kind seq now existed p).gaps : Int) =
      if kind = .hello ∨ existed = false then (p.gaps : Int)
      else min 65535 (p.gaps + ((seq : Int) - p.lastSequence - 1) % 16) := by
  have hmissed : (seq + 31 - p.lastSequence % 16) % 16 = (((seq : Int) - p.lastSequence - 1) % 16).toNat := by omega
  unfold touchRecord
  dsimp only
  by_cases hkept : kind = .hello ∨ existed = false
  · rw [if_pos hkept, if_neg]
    rcases hkept with rfl | rfl <;> simp
  · rw [if_neg hkept, if_pos, hmissed]
    · omega
    · push Not at hkept
      simpa [and_comm] using hkept

theorem noted_station (s : State) (seq : Nat) (hn : n.Plain kind) : (s.noted station seq n).station = station := by
  rw [State.noted, (hn.record _).1]
  exact recordOf_station s station

theorem noted_liveness (s : State) (station : Nat) (hseq : seq < 16) (hn : n.Plain kind) :
    (s.noted station seq n).state = (if kind = .quiet then .quiet else .fresh) ∧
      (s.noted station seq n).lastSequence = seq ∧ (s.noted station seq n).lastHeard = s.now ∧
      (s.noted station seq n).heard = ((s.recordOf station).heard + 1) % 256 ∧
      ((s.noted station seq n).gaps : Int) =
        if kind = .hello ∨ (findPeer s.ptb.peers station).isNone = true then ((s.recordOf station).gaps : Int)
        else min 65535 ((s.recordOf station).gaps + ((seq : Int) - (s.recordOf station).lastSequence - 1) % 16) := by
  obtain ⟨-, hstate, hsequence, hheard, hcount, hgaps⟩ :=
    hn.record (touchRecord n.kind seq s.now (findPeer s.ptb.peers station).isSome (s.recordOf station))
  rw [State.noted, hstate, hsequence, hheard, hcount, hgaps, touchRecord_gaps _ _ _ _ hseq, hn.kind_eq]
  exact ⟨rfl, rfl, rfl, rfl, by simp only [Option.isSome_eq_false_iff]⟩

theorem peerHand_congr (order : List Taker) (logs : List (Nat × Nat)) (subs views : Bool) {f g : Taker → State → State}
    (h : ∀ x u, f x u = g x u) (s : State) : peerHand order logs subs views f s = peerHand order logs subs views g s := by
  rw [show f = g from funext fun x => funext (h x)]

theorem takeNote_of_room (order : List Taker) (station seq : Nat) (n : NoteContent)
    (hroom : (findPeer s.ptb.peers station).isSome = true ∨ s.ptb.peers.length < 14) :
    ∃ logs subs views again, takeNote order station seq n s = peerHand order logs subs views (noteTakes again n)
      (s.onPtb fun p => { p with peers := putPeer (s.noted station seq n) s.ptb.peers }) := by
  have hfits : ¬((findPeer s.ptb.peers station).isNone = true ∧ 14 ≤ s.ptb.peers.length) := fun h => by
    rcases hroom with hroom | hroom
    · rw [Option.isNone_iff_eq_none] at h
      simp [h.1] at hroom
    · omega
  unfold takeNote
  dsimp only
  rw [if_neg fun h => hfits ⟨h.1, h.2.1⟩, if_neg hfits]
  exact ⟨_, _, _, reannounces n.kind ((findPeer s.ptb.peers station).map (·.state)),
    peerHand_congr order _ _ _ (fun x u => by cases x <;> rfl) _⟩

theorem takeNote_of_full (order : List Taker) (station seq : Nat) (n : NoteContent)
    (hnew : findPeer s.ptb.peers station = none) (hfull : 14 ≤ s.ptb.peers.length) (hlost : oldestLost s.ptb.peers = none) :
    takeNote order station seq n s = s := by
  unfold takeNote
  dsimp only
  rw [hnew, hlost, if_pos (by simp [hfull])]

theorem takeNote_of_victim (order : List Taker) (station seq : Nat) (n : NoteContent)
    (hnew : findPeer s.ptb.peers station = none) (hfull : 14 ≤ s.ptb.peers.length)
    (hvictim : oldestLost s.ptb.peers = some v) :
    ∃ subs views again, takeNote order station seq n s =
      peerHand order [removalEntry v, (station, twoParts 0 (s.noted station seq n).state.code)] subs views
        (noteTakes again n)
        (s.onPtb fun p => { p with peers := putPeer (s.noted station seq n) (dropPeer s.ptb.peers v.station) }) := by
  have hgives : (if (findPeer s.ptb.peers station).isNone = true ∧ 14 ≤ s.ptb.peers.length then oldestLost s.ptb.peers
      else none) = some v := by rw [hnew, if_pos ⟨Option.isNone_none, hfull⟩, hvictim]
  unfold takeNote
  dsimp only
  rw [hgives, if_neg (by simp)]
  unfold State.noted State.recordOf
  rw [hnew]
  exact ⟨_, _, reannounces n.kind none, peerHand_congr order _ _ _ (fun x u => by cases x <;> rfl) _⟩

/-! ## The command -/

section
variable {c : Sys2Proof.Instr} {length : Nat} {content : State → NoteContent} {kept : List PeerRecord}
  {logs : List (Nat × Nat)} {subs views again : Bool} {w : Moment}

theorem not_asleep_of_awake (h : s.awake = true) : ¬s.asleep = true := fun hsleep => by
  rw [State.asleep, beq_iff_eq] at hsleep
  simp [State.awake, hsleep] at h

/-- What becomes of a frame that passes the receiver's checks. -/
theorem hearNote_of_fits (h : HeardWith c kind station seq length content) (order : List Taker) (s : State) :
    hearNote order station seq length content s =
      if s.canReceive = false then s
      else if s.asleep then wakeUp order .wakeLine (frameSeen s)
      else if station = s.sup.number then duplicateFound order (frameSeen s)
      else takeNote order station seq (content s.noteSeen) s.noteSeen := by
  have hfits : ¬(station = 0 ∨ lengthAllowed (content s).kind length = false) := by
    simp [h.station_ne_zero, (h.plain s).kind_eq, h.allowed]
  unfold hearNote
  rw [if_neg hfits]
  rfl

theorem hearNote_of_other (h : HeardWith c kind station seq length content) (order : List Taker)
    (hreceive : s.canReceive = true) (hawake : s.awake = true) (hother : station ≠ s.sup.number) :
    hearNote order station seq length content s = takeNote order station seq (content s.noteSeen) s.noteSeen := by
  rw [hearNote_of_fits h, if_neg (by simp [hreceive]), if_neg (not_asleep_of_awake hawake), if_neg hother]

/-- What a change of the table leaves, once its consequences and a change found in CHECK are done. -/
theorem note_leaves (hn : n.Plain kind)
    (htake : takeNote order station seq n s.noteSeen = peerHand order logs subs views (noteTakes again n)
      (s.noteSeen.onPtb fun p => { p with peers := kept }))
    (ht : t = leaveCheck order (takeNote order station seq n s.noteSeen)) :
    t.ptb.peers = kept ∧ t.pli.courtesyPending = false ∧ t.pli.rx = .hunt ∧ s.ChangedOnly noteParts t ∧
      ∀ e ∈ logs, s.Logged t .peer e.1 e.2 := by
  obtain ⟨u, hu⟩ : ∃ u, s.noteSeen.onPtb (fun p => { p with peers := kept }) = u := ⟨_, rfl⟩
  rw [hu] at htake
  rw [htake] at ht
  have hput : s.ChangedOnly noteParts u := hu ▸ (noteSeen_noteParts s).trans ((onPtb_changedOnly _ _).mono rfl)
  have hlog : s.LogKept u := .of_alu (by rw [← hu]; rfl)
  have hfed := (peerHand_feeds order logs subs views (noteTakes_feeds hn again) u).line
  have hpeers : (peerHand order logs subs views (noteTakes again n) u).ptb.peers = u.ptb.peers :=
    peerHand_keepsBut order logs subs views (noteTakes_keepsBut hn again) u .peers (by decide)
  subst ht
  refine ⟨?_, leaveCheck_courtesy order ?_, ?_,
    (hput.trans (peerHand_noteParts order logs subs views hn again u)).trans (leaveCheck_noteParts order _), fun e he => ?_⟩
  · rw [(leaveCheck_changedOnly order _).ptb, hpeers, ← hu, State.onPtb_ptb]
  · rw [hfed.courtesyPending, ← hu]
    rfl
  · rw [leaveCheck_rx, hfed.rx, ← hu]
    rfl
  · exact (((peerHand_enters order subs views hn again he u).after hlog).before
      (leaveCheck_keepsBut order _ .log (by decide))).logged

/-- A note of another station that the receiver takes, as a command. -/
theorem note_next (h : HeardWith c kind station seq length content) (hreceive : s.canReceive = true)
    (hawake : s.awake = true) (hother : station ≠ s.sup.number) :
    exec c s = .next (leaveCheck c.moment.order (takeNote c.moment.order station seq
      (content (s.upTo c.moment).noteSeen) (s.upTo c.moment).noteSeen)) := by
  rw [h.exec_eq, command_eq, hearNote_of_other h _ (by rwa [upTo_canReceive]) (by rwa [upTo_awake]) (by rwa [upTo_sup])]

theorem noteSeen_upTo_peers (s : State) (w : Moment) : (s.upTo w).noteSeen.ptb.peers = s.ptb.peers :=
  congrArg Ptb.peers (upTo_ptb s w)

theorem recordOf_congr (h : t.ptb.peers = s.ptb.peers) (station : Nat) : t.recordOf station = s.recordOf station := by
  rw [State.recordOf, State.recordOf, h]

theorem note_taken (h : HeardWith c kind station seq length content) (hroom : (s.upTo c.moment).HasRoomFor station) :
    ∃ t, exec c s = .next t ∧
      (∃ p, findPeer t.ptb.peers station = some p ∧ p.state = (if kind = .quiet then .quiet else .fresh) ∧
        p.lastSequence = seq ∧ p.lastHeard = (s.upTo c.moment).now ∧
        p.heard = ((s.recordOf station).heard + 1) % 256 ∧
        (p.gaps : Int) = if kind = .hello ∨ (findPeer s.ptb.peers station).isNone = true
          then ((s.recordOf station).gaps : Int)
          else min 65535 ((s.recordOf station).gaps + ((seq : Int) - (s.recordOf station).lastSequence - 1) % 16)) ∧
      (∀ m, m ≠ station → findPeer t.ptb.peers m = findPeer s.ptb.peers m) ∧
      t.pli.courtesyPending = false ∧ t.pli.rx = .hunt ∧ (s.upTo c.moment).ChangedOnly noteParts t := by
  have hsame := noteSeen_upTo_peers s c.moment
  have hn := h.plain (s.upTo c.moment).noteSeen
  obtain ⟨hawake, hreceive, -, hother, hplace⟩ := hroom
  rw [upTo_awake] at hawake
  rw [upTo_canReceive] at hreceive
  rw [upTo_sup] at hother
  rw [upTo_ptb, ← hsame] at hplace
  have hnext := note_next h hreceive hawake hother
  obtain ⟨logs, subs, views, again, htake⟩ := takeNote_of_room c.moment.order station seq _ hplace
  obtain ⟨hpeers, hcourtesy, hrx, hchanged, -⟩ := note_leaves hn htake rfl
  have hnumber := noted_station (station := station) (s.upTo c.moment).noteSeen seq hn
  have hlive := noted_liveness (s.upTo c.moment).noteSeen station h.seq_lt hn
  rw [hsame, recordOf_congr hsame] at hlive
  refine ⟨_, hnext, ⟨_, ?_, hlive⟩, fun m hm => ?_, hcourtesy, hrx, hchanged⟩
  · have hfound := findPeer_putPeer_same ((s.upTo c.moment).noteSeen.noted station seq (content (s.upTo c.moment).noteSeen))
      (s.upTo c.moment).noteSeen.ptb.peers
    rwa [hnumber, ← hpeers] at hfound
  · rw [hpeers, findPeer_putPeer_other _ (by rwa [hnumber]), hsame]

/-- In a full table with no record LOST the table stays, and the note is no more than seen. -/
theorem note_without_place (h : HeardWith c kind station seq length content) (hreceive : s.canReceive = true)
    (hawake : s.awake = true) (hother : station ≠ s.sup.number) (hnew : findPeer s.ptb.peers station = none)
    (hfull : 14 ≤ s.ptb.peers.length) (hnone : ∀ p ∈ s.ptb.peers, p.state ≠ .lost) (hphase : s.sup.phase ≠ .check) :
    exec c s = .next (s.upTo c.moment).noteSeen := by
  have hsame := noteSeen_upTo_peers s c.moment
  have hsteady : (s.upTo c.moment).noteSeen.Steady := fun hcheck => absurd ((upTo_sup s c.moment) ▸ hcheck) hphase
  rw [note_next h hreceive hawake hother, takeNote_of_full _ _ _ _ (by rwa [hsame]) (by rwa [hsame])
    (by rw [hsame]; exact oldestLost_of_ne hnone), leaveCheck_of_steady _ hsteady]

/-- In a full table the oldest LOST record gives its place (R92). -/
theorem note_takes_place (h : HeardWith c kind station seq length content) (hreceive : s.canReceive = true)
    (hawake : s.awake = true) (hother : station ≠ s.sup.number) (hnew : findPeer s.ptb.peers station = none)
    (hfull : 14 ≤ s.ptb.peers.length) (horder : (s.ptb.peers.map (·.station)).Pairwise (· < ·)) (hv : v ∈ s.ptb.peers)
    (hlost : v.state = .lost) (hold : ∀ p ∈ s.ptb.peers, p.state = .lost → p = v ∨ v.lastHeard < p.lastHeard) :
    ∃ t, exec c s = .next t ∧
      (∃ p, findPeer t.ptb.peers station = some p ∧ p.state = (if kind = .quiet then .quiet else .fresh) ∧
        p.lastSequence = seq ∧ p.lastHeard = (s.upTo c.moment).now ∧ p.heard = 1 ∧ p.gaps = 0) ∧
      findPeer t.ptb.peers v.station = none ∧
      (∀ m, m ≠ station → m ≠ v.station → findPeer t.ptb.peers m = findPeer s.ptb.peers m) ∧
      t.ptb.peers.length = s.ptb.peers.length ∧
      (s.upTo c.moment).Logged t .peer v.station (twoParts 3 0) ∧
      (s.upTo c.moment).Logged t .peer station (twoParts 0 (if kind = .quiet then 4 else 1)) ∧
      t.pli.courtesyPending = false ∧ t.pli.rx = .hunt ∧ (s.upTo c.moment).ChangedOnly noteParts t := by
  have hsame := noteSeen_upTo_peers s c.moment
  have hn := h.plain (s.upTo c.moment).noteSeen
  have hnext := note_next h hreceive hawake hother
  obtain ⟨subs, views, again, htake⟩ := takeNote_of_victim c.moment.order station seq
    (content (s.upTo c.moment).noteSeen) (by rwa [hsame]) (by rwa [hsame])
    (hsame ▸ oldestLost_eq hv hlost hold)
  obtain ⟨hpeers, hcourtesy, hrx, hchanged, hlogs⟩ := note_leaves hn htake rfl
  rw [List.forall_mem_cons, List.forall_mem_singleton, removalEntry, hlost] at hlogs
  obtain ⟨hremoval, hcreation⟩ := hlogs
  have hnumber := noted_station (station := station) (s.upTo c.moment).noteSeen seq hn
  obtain ⟨hstate, hsequence, hheard, hcount, hgaps⟩ := noted_liveness (s.upTo c.moment).noteSeen station h.seq_lt hn
  have hblank : s.recordOf station = .blank station := by rw [State.recordOf, hnew]; rfl
  have hdistinct : station ≠ v.station := fun heq => by
    simp only [findPeer, List.find?_eq_none] at hnew
    exact hnew v hv (by simp [heq])
  rw [recordOf_congr hsame, hblank] at hcount hgaps
  rw [hsame, hnew, if_pos (.inr rfl)] at hgaps
  rw [hsame] at hpeers
  generalize (s.upTo c.moment).noteSeen.noted station seq (content (s.upTo c.moment).noteSeen) = r at *
  refine ⟨_, hnext, ⟨r, ?_, hstate, hsequence, hheard, hcount, Int.ofNat.inj hgaps⟩, ?_, fun m hm hmv => ?_, ?_, hremoval,
    ?_, hcourtesy, hrx, hchanged⟩
  · rw [hpeers, ← hnumber, findPeer_putPeer_same]
  · rw [hpeers, findPeer_putPeer_other _ (by rw [hnumber]; exact hdistinct.symm), findPeer_dropPeer_same]
  · rw [hpeers, findPeer_putPeer_other _ (by rwa [hnumber]), findPeer_dropPeer_other _ hmv]
  · rw [hpeers, putPeer_length_of_new, dropPeer_length horder hv]
    rw [hnumber, findPeer_dropPeer_other _ hdistinct, hnew]
  · have hcode : r.state.code = if kind = .quiet then 4 else 1 := by rw [hstate]; split <;> rfl
    rwa [hcode] at hcreation

/-- The own number in another's note is a duplicate (R83). -/
theorem note_of_own_number (h : HeardWith c kind station seq length content) (hs : s.Steady) (hawake : s.awake = true)
    (hreceive : s.canReceive = true) (hown : station = s.sup.number) :
    ∃ t, exec c s = .next t ∧
      (t.pli.dup = true ∧ t.pli.tx = .off ∧ t.pli.sending = none ∧ t.pli.rx = .hunt ∧ t.pli.courtesyPending = false) ∧
      t.ptb = s.ptb ∧
      (s.alu.running = true → s.alu.points.length = 32 → (pointGet t.alu.points 16).condition = true) ∧
      (s.upTo c.moment).ChangedOnly [.pli, .alu, .sdo] t := by
  have heq : hearNote c.moment.order station seq length content (s.upTo c.moment) =
      duplicateFound c.moment.order (frameSeen (s.upTo c.moment)) := by
    rw [hearNote_of_fits h, if_neg (by simp [upTo_canReceive, hreceive]),
      if_neg (not_asleep_of_awake (by rwa [upTo_awake])), if_pos (by rwa [upTo_sup])]
  have hchanged : (s.upTo c.moment).ChangedOnly [.pli, .alu, .sdo]
      (duplicateFound c.moment.order (frameSeen (s.upTo c.moment))) :=
    ((frameSeen_changedOnly _).mono rfl).trans (duplicateFound_changedOnly _ _)
  have hmarked : ((frameSeen (s.upTo c.moment)).onPli fun p => { p with dup := true, tx := .off, sending := none }).pli =
      { s.pli with rx := .hunt, courtesyPending := false, dup := true, tx := .off, sending := none } := by
    rw [← upTo_pli s c.moment]; rfl
  have hfed := (takeCondition_feeds c.moment.order 16
    ((frameSeen (s.upTo c.moment)).onPli fun p => { p with dup := true, tx := .off, sending := none })).line
  have htx := (takeCondition_pointFed c.moment.order 16
    ((frameSeen (s.upTo c.moment)).onPli fun p => { p with dup := true, tx := .off, sending := none })).tx
  rw [hmarked] at hfed htx
  refine ⟨_, (h.exec_eq s).trans (command_of_eq hs heq (hchanged.sup.trans (upTo_sup s _))),
    ⟨hfed.dup, htx nofun, hfed.sending, hfed.rx, hfed.courtesyPending⟩, hchanged.ptb.trans (upTo_ptb s _),
    fun hrun hpoints => ?_, hchanged⟩
  exact condition_takeCondition_same c.moment.order (id := 16)
    ((frameSeen (s.upTo c.moment)).onPli fun p => { p with dup := true, tx := .off, sending := none })
    (by simpa [frameSeen] using hrun) (by simpa [frameSeen] using hpoints ▸ (by decide : 15 < 32))

/-- Asleep with LINE enabled a note is the LINE wake (R91). -/
theorem note_wakes (h : HeardWith c kind station seq length content) (hsleep : s.asleep = true)
    (hreceive : s.canReceive = true) :
    ∃ t, exec c s = .next t ∧ State.Woken .wakeLine (s.upTo c.moment) t ∧ t.pli.courtesyPending = false := by
  have hasleep : (frameSeen (s.upTo c.moment)).asleep = true := by simpa using hsleep
  obtain ⟨hwoken, -⟩ := wakeUp_woken c.moment.order .wakeLine hasleep
  have hnext : exec c s = .next (wakeUp c.moment.order .wakeLine (frameSeen (s.upTo c.moment))) := by
    rw [h.exec_eq, command_eq, hearNote_of_fits h, if_neg (by simp [upTo_canReceive, hreceive]),
      if_pos (by rwa [upTo_asleep]), leaveCheck_of_steady _ hwoken.steady]
  exact ⟨_, hnext, hwoken, (wakeUp_leaves c.moment.order _ hasleep).1⟩

theorem note_unheard (h : HeardWith c kind station seq length content) (hs : s.Steady) (hdeaf : s.canReceive = false) :
    exec c s = .next (s.upTo c.moment) := by
  rw [h.exec_eq, command_eq, hearNote_of_fits h, if_pos (by rwa [upTo_canReceive]),
    leaveCheck_of_steady _ (upTo_steady _ hs)]

end

/-- Settles O42. -/
theorem notesAreTakenIntoTheirRecords : Obligations.NotesAreTakenIntoTheirRecords := by
  refine ⟨fun s c kind n seq hfit hnote hroom => ?_,
    fun s c kind n seq hfit hnote hawake hreceive hother hnew hfull hnone hphase => ?_,
    fun s c kind n seq v hfit hnote hawake hreceive hother hnew hfull horder hv hlost hold => ?_,
    fun s c kind n seq hfit hnote hs hawake hreceive hown => ?_,
    fun s c kind n seq hfit hnote hsleep hreceive => ?_, fun s c kind n seq hfit hnote hs hdeaf => ?_⟩
  all_goals obtain ⟨length, content, h⟩ := exec_note hfit hnote
  · exact note_taken h hroom
  · rw [note_without_place h hreceive hawake hother hnew hfull hnone hphase, State.noteSeen]
    simp [frameSeen]
  · exact note_takes_place h hreceive hawake hother hnew hfull horder hv hlost hold
  · exact note_of_own_number h hs hawake hreceive hown
  · exact note_wakes h hsleep hreceive
  · exact note_unheard h hs hdeaf

end Sys2Proof.Machine
end
